-- ==== Sys2Proof/Word.lean ====
section
/-! DEFINITION. The word types of the HL540: a byte of a lane or a port, and a 32-bit sequence or serial. -/

namespace Sys2Proof

/-- One byte as a lane or a command port carries it. -/
abbrev Byte := BitVec 8

/-- A stream sequence or a log serial: 32 bits, arithmetic modulo 2^32 (00, "Sequence and serial arithmetic"). -/
abbrev Seq := BitVec 32

end Sys2Proof
end

