-- ==== Sys2Proof/Config.lean ====
section
/-! DEFINITION. What one implementation fixes and the manual does not state. -/

namespace Sys2Proof

/-- The revision byte that READ ID returns (R169, R173 give its place and no value): a free value, no body (log entry 8,
DESIGN CHOICE). -/
opaque Config.revision : Byte

end Sys2Proof
end

