-- ==== Sys2Proof/Syntax.lean ====
section
/-! DEFINITION. The inputs of the HL540: one constructor per row of spec/opcode_table.json, and the names their operands use. -/

namespace Sys2Proof

/-- The five paths, indices 0 to 4 in this order (00, "Paths"). -/
inductive Path where
  | a | b | c | d | f
  deriving DecidableEq, Repr

/-- The path index: A 0, B 1, C 2, D 3, F 4. -/
def Path.idx : Path → Fin 5
  | .a => 0
  | .b => 1
  | .c => 2
  | .d => 3
  | .f => 4

/-- The five paths in index order. -/
def Path.all : List Path := [.a, .b, .c, .d, .f]

/-- The three command ports. -/
inductive Port where
  | p0 | p1 | p2
  deriving DecidableEq, Repr

def Port.idx : Port → Fin 3
  | .p0 => 0
  | .p1 => 1
  | .p2 => 2

def Port.all : List Port := [.p0, .p1, .p2]

/-- The two reference inputs (R27). -/
inductive Ref where
  | ref0 | ref1
  deriving DecidableEq, Repr

def Ref.idx : Ref → Fin 2
  | .ref0 => 0
  | .ref1 => 1

/-- The two marker inputs (R31). -/
inductive Mark where
  | mark0 | mark1
  deriving DecidableEq, Repr

/-- The four capture channels: REF0 0, REF1 1, MARK0 2, MARK1 3 (R31). -/
inductive Channel where
  | ref0 | ref1 | mark0 | mark1
  deriving DecidableEq, Repr

def Channel.idx : Channel → Fin 4
  | .ref0 => 0
  | .ref1 => 1
  | .mark0 => 2
  | .mark1 => 3

/-- The capture channel of a reference input. -/
def Ref.channel : Ref → Channel
  | .ref0 => .ref0
  | .ref1 => .ref1

/-- The capture channel of a marker input. -/
def Mark.channel : Mark → Channel
  | .mark0 => .mark0
  | .mark1 => .mark1

/-- The two marker outputs (R34). -/
inductive Out where
  | out0 | out1
  deriving DecidableEq, Repr

def Out.idx : Out → Fin 2
  | .out0 => 0
  | .out1 => 1

/-- The direction of an edge at a time input. -/
inductive EdgeDir where
  | rising | falling
  deriving DecidableEq, Repr

/-- A stream number, 0 to 7. -/
abbrev StreamId := Fin 8

/-- One input of the part. Rows that are commands carry the port that issues them and the argument bytes clocked in before
select rises (for a read with arguments: the bytes after the command byte); rows that are frames carry the frame's bytes. -/
inductive Instr where
  | pinReset (site : BitVec 4) (role0 role1 role2 : BitVec 2)
  | powerOnReset (site : BitVec 4) (role0 role1 role2 : BitVec 2)
  | softReset (port : Port) (args : List Byte)
  | softResetPeriodEnd
  | pathFrameStart (path : Path)
  | pathFrameEnd (path : Path) (bytes : List Byte)
  | silenceTimerExpiry (path : Path)
  | errorWindowEnd (path : Path)
  | recoverHoldExpiry (path : Path)
  | reportTimeout (path : Path)
  | scoreDecay (path : Path)
  | guardExpiry
  | frameTransmitEnd (path : Path)
  | beaconWaitEnd (path : Path)
  | localFrameStart
  | localFrameIntake (bytes : List Byte)
  | localTransmitEnd
  | holdExpiry (stream : StreamId)
  | probeIssue
  | probeTimeout
  | settleDeadline
  | refPulse (ref : Ref) (dir : EdgeDir)
  | refTimeout (ref : Ref)
  | markEdge (mark : Mark) (dir : EdgeDir)
  | markerMatch (out : Out)
  | markerPulseEnd (out : Out)
  | logHeadComplete (port : Port)
  | logImageComplete (port : Port)
  | emptyImageComplete (port : Port)
  | attentionReadComplete (port : Port)
  | unknownCommand (port : Port) (code : Byte) (args : List Byte)
  | readId (port : Port)
  | readStatus (port : Port)
  | readAttention (port : Port)
  | setAttentionMask (port : Port) (args : List Byte)
  | readPath (port : Port) (args : List Byte)
  | enablePath (port : Port) (args : List Byte)
  | disablePath (port : Port) (args : List Byte)
  | setPathTimers (port : Port) (args : List Byte)
  | setThresholds (port : Port) (args : List Byte)
  | selectBank (port : Port) (args : List Byte)
  | setBaseDelay (port : Port) (args : List Byte)
  | setSmoothing (port : Port) (args : List Byte)
  | postMargin (port : Port) (args : List Byte)
  | lockPath (port : Port) (args : List Byte)
  | unlockPath (port : Port) (args : List Byte)
  | lockAll (port : Port) (args : List Byte)
  | unlockAll (port : Port) (args : List Byte)
  | clearPathStats (port : Port) (args : List Byte)
  | setPeerSite (port : Port) (args : List Byte)
  | readSelection (port : Port)
  | setSelection (port : Port) (args : List Byte)
  | pinPrimary (port : Port) (args : List Byte)
  | unpinPrimary (port : Port) (args : List Byte)
  | readStream (port : Port) (args : List Byte)
  | setStream (port : Port) (args : List Byte)
  | resyncStream (port : Port) (args : List Byte)
  | setTxSequence (port : Port) (args : List Byte)
  | readTime (port : Port)
  | setTime (port : Port) (args : List Byte)
  | stepTime (port : Port) (args : List Byte)
  | setFrequency (port : Port) (args : List Byte)
  | setDiscipline (port : Port) (args : List Byte)
  | setCapture (port : Port) (args : List Byte)
  | readCapture (port : Port) (args : List Byte)
  | setMarker (port : Port) (args : List Byte)
  | startSweep (port : Port) (args : List Byte)
  | suspendSweep (port : Port) (args : List Byte)
  | resumeSweep (port : Port) (args : List Byte)
  | cancelSweep (port : Port) (args : List Byte)
  | readSweep (port : Port)
  | setLogFilter (port : Port) (args : List Byte)
  | readLog (port : Port)
  | peekLog (port : Port)
  | seekLog (port : Port) (args : List Byte)
  | setLink (port : Port) (args : List Byte)
  | interruptedReadSelectRise (port : Port)
  deriving DecidableEq, Repr

end Sys2Proof
end

