-- ==== Sys2Proof/Decode.lean ====
section
/-! DEFINITION. The command codes of R173: which input a transaction's bytes spell, and the bytes that spell an input.
spec/opcode_table.json gives its rows no bits, so no table word spells a command. -/

namespace Sys2Proof

/-- The input that a transaction on a port spells (R160, R161, R173): its first byte is the command byte, the rest are the
bytes clocked in after it. A transaction with no complete byte is ignored (R160); a read without arguments ignores the
bytes clocked in after its command byte. -/
def decodeTransaction (port : Port) : List Byte → Option Instr
  | [] => none
  | code :: args => some (match code.toNat with
    | 0x01 => .readId port
    | 0x02 => .readStatus port
    | 0x03 => .readAttention port
    | 0x04 => .setAttentionMask port args
    | 0x10 => .readPath port args
    | 0x11 => .enablePath port args
    | 0x12 => .disablePath port args
    | 0x13 => .setPathTimers port args
    | 0x14 => .setThresholds port args
    | 0x15 => .selectBank port args
    | 0x16 => .setBaseDelay port args
    | 0x17 => .setSmoothing port args
    | 0x18 => .postMargin port args
    | 0x19 => .lockPath port args
    | 0x1A => .unlockPath port args
    | 0x1B => .lockAll port args
    | 0x1C => .unlockAll port args
    | 0x1D => .clearPathStats port args
    | 0x1E => .setPeerSite port args
    | 0x20 => .readSelection port
    | 0x21 => .setSelection port args
    | 0x22 => .pinPrimary port args
    | 0x23 => .unpinPrimary port args
    | 0x30 => .readStream port args
    | 0x31 => .setStream port args
    | 0x32 => .resyncStream port args
    | 0x33 => .setTxSequence port args
    | 0x40 => .readTime port
    | 0x41 => .setTime port args
    | 0x42 => .stepTime port args
    | 0x43 => .setFrequency port args
    | 0x44 => .setDiscipline port args
    | 0x45 => .setCapture port args
    | 0x46 => .readCapture port args
    | 0x47 => .setMarker port args
    | 0x50 => .startSweep port args
    | 0x51 => .suspendSweep port args
    | 0x52 => .resumeSweep port args
    | 0x53 => .cancelSweep port args
    | 0x54 => .readSweep port
    | 0x60 => .setLogFilter port args
    | 0x61 => .readLog port
    | 0x62 => .peekLog port
    | 0x63 => .seekLog port args
    | 0x70 => .setLink port args
    | 0x7F => .softReset port args
    | _ => .unknownCommand port code args)

/-- The command byte of a command (R173); the rows that are no transaction have none. -/
def Instr.code : Instr → Option Byte
  | .pinReset _ _ _ _ => none
  | .powerOnReset _ _ _ _ => none
  | .softReset _ _ => some 0x7F#8
  | .softResetPeriodEnd => none
  | .pathFrameStart _ => none
  | .pathFrameEnd _ _ => none
  | .silenceTimerExpiry _ => none
  | .errorWindowEnd _ => none
  | .recoverHoldExpiry _ => none
  | .reportTimeout _ => none
  | .scoreDecay _ => none
  | .guardExpiry => none
  | .frameTransmitEnd _ => none
  | .beaconWaitEnd _ => none
  | .localFrameStart => none
  | .localFrameIntake _ => none
  | .localTransmitEnd => none
  | .holdExpiry _ => none
  | .probeIssue => none
  | .probeTimeout => none
  | .settleDeadline => none
  | .refPulse _ _ => none
  | .refTimeout _ => none
  | .markEdge _ _ => none
  | .markerMatch _ => none
  | .markerPulseEnd _ => none
  | .logHeadComplete _ => none
  | .logImageComplete _ => none
  | .emptyImageComplete _ => none
  | .attentionReadComplete _ => none
  | .unknownCommand _ code _ => some code
  | .readId _ => some 0x01#8
  | .readStatus _ => some 0x02#8
  | .readAttention _ => some 0x03#8
  | .setAttentionMask _ _ => some 0x04#8
  | .readPath _ _ => some 0x10#8
  | .enablePath _ _ => some 0x11#8
  | .disablePath _ _ => some 0x12#8
  | .setPathTimers _ _ => some 0x13#8
  | .setThresholds _ _ => some 0x14#8
  | .selectBank _ _ => some 0x15#8
  | .setBaseDelay _ _ => some 0x16#8
  | .setSmoothing _ _ => some 0x17#8
  | .postMargin _ _ => some 0x18#8
  | .lockPath _ _ => some 0x19#8
  | .unlockPath _ _ => some 0x1A#8
  | .lockAll _ _ => some 0x1B#8
  | .unlockAll _ _ => some 0x1C#8
  | .clearPathStats _ _ => some 0x1D#8
  | .setPeerSite _ _ => some 0x1E#8
  | .readSelection _ => some 0x20#8
  | .setSelection _ _ => some 0x21#8
  | .pinPrimary _ _ => some 0x22#8
  | .unpinPrimary _ _ => some 0x23#8
  | .readStream _ _ => some 0x30#8
  | .setStream _ _ => some 0x31#8
  | .resyncStream _ _ => some 0x32#8
  | .setTxSequence _ _ => some 0x33#8
  | .readTime _ => some 0x40#8
  | .setTime _ _ => some 0x41#8
  | .stepTime _ _ => some 0x42#8
  | .setFrequency _ _ => some 0x43#8
  | .setDiscipline _ _ => some 0x44#8
  | .setCapture _ _ => some 0x45#8
  | .readCapture _ _ => some 0x46#8
  | .setMarker _ _ => some 0x47#8
  | .startSweep _ _ => some 0x50#8
  | .suspendSweep _ _ => some 0x51#8
  | .resumeSweep _ _ => some 0x52#8
  | .cancelSweep _ _ => some 0x53#8
  | .readSweep _ => some 0x54#8
  | .setLogFilter _ _ => some 0x60#8
  | .readLog _ => some 0x61#8
  | .peekLog _ => some 0x62#8
  | .seekLog _ _ => some 0x63#8
  | .setLink _ _ => some 0x70#8
  | .interruptedReadSelectRise _ => none

/-- The port and the bytes after the command byte of a command. -/
def Instr.portArgs : Instr → Option (Port × List Byte)
  | .pinReset _ _ _ _ => none
  | .powerOnReset _ _ _ _ => none
  | .softReset port args => some (port, args)
  | .softResetPeriodEnd => none
  | .pathFrameStart _ => none
  | .pathFrameEnd _ _ => none
  | .silenceTimerExpiry _ => none
  | .errorWindowEnd _ => none
  | .recoverHoldExpiry _ => none
  | .reportTimeout _ => none
  | .scoreDecay _ => none
  | .guardExpiry => none
  | .frameTransmitEnd _ => none
  | .beaconWaitEnd _ => none
  | .localFrameStart => none
  | .localFrameIntake _ => none
  | .localTransmitEnd => none
  | .holdExpiry _ => none
  | .probeIssue => none
  | .probeTimeout => none
  | .settleDeadline => none
  | .refPulse _ _ => none
  | .refTimeout _ => none
  | .markEdge _ _ => none
  | .markerMatch _ => none
  | .markerPulseEnd _ => none
  | .logHeadComplete _ => none
  | .logImageComplete _ => none
  | .emptyImageComplete _ => none
  | .attentionReadComplete _ => none
  | .unknownCommand port _ args => some (port, args)
  | .readId port => some (port, [])
  | .readStatus port => some (port, [])
  | .readAttention port => some (port, [])
  | .setAttentionMask port args => some (port, args)
  | .readPath port args => some (port, args)
  | .enablePath port args => some (port, args)
  | .disablePath port args => some (port, args)
  | .setPathTimers port args => some (port, args)
  | .setThresholds port args => some (port, args)
  | .selectBank port args => some (port, args)
  | .setBaseDelay port args => some (port, args)
  | .setSmoothing port args => some (port, args)
  | .postMargin port args => some (port, args)
  | .lockPath port args => some (port, args)
  | .unlockPath port args => some (port, args)
  | .lockAll port args => some (port, args)
  | .unlockAll port args => some (port, args)
  | .clearPathStats port args => some (port, args)
  | .setPeerSite port args => some (port, args)
  | .readSelection port => some (port, [])
  | .setSelection port args => some (port, args)
  | .pinPrimary port args => some (port, args)
  | .unpinPrimary port args => some (port, args)
  | .readStream port args => some (port, args)
  | .setStream port args => some (port, args)
  | .resyncStream port args => some (port, args)
  | .setTxSequence port args => some (port, args)
  | .readTime port => some (port, [])
  | .setTime port args => some (port, args)
  | .stepTime port args => some (port, args)
  | .setFrequency port args => some (port, args)
  | .setDiscipline port args => some (port, args)
  | .setCapture port args => some (port, args)
  | .readCapture port args => some (port, args)
  | .setMarker port args => some (port, args)
  | .startSweep port args => some (port, args)
  | .suspendSweep port args => some (port, args)
  | .resumeSweep port args => some (port, args)
  | .cancelSweep port args => some (port, args)
  | .readSweep port => some (port, [])
  | .setLogFilter port args => some (port, args)
  | .readLog port => some (port, [])
  | .peekLog port => some (port, [])
  | .seekLog port args => some (port, args)
  | .setLink port args => some (port, args)
  | .interruptedReadSelectRise _ => none

/-- The transaction that spells a command: its port and its bytes, command byte first. -/
def encodeTransaction (i : Instr) : Option (Port × List Byte) :=
  match i.code, i.portArgs with
  | some code, some (port, args) => some (port, code :: args)
  | _, _ => none

/-- Whether a command byte is a command code of chapter 11: a transaction that begins with it is no unknown command. -/
def isCommandCode (code : Byte) : Bool :=
  match decodeTransaction .p0 [code] with
  | some (.unknownCommand _ _ _) => false
  | _ => true

/-! ## Bits on a command port (R160, R175) -/

/-- The bits of a byte in the order a command port shifts them: the most significant first (R175). -/
def byteBits (b : Byte) : List Bool := (List.range 8).map (fun k => b.getLsbD (7 - k))

/-- The value of bits shifted in, the most significant first (R175). -/
def bitsValue (bits : List Bool) : Nat := bits.foldl (fun v b => 2 * v + b.toNat) 0

/-- The whole bytes among the bits shifted in on a port; an incomplete last byte does not count (R160, R175). -/
def serialBytes : List Bool → List Byte
  | b7 :: b6 :: b5 :: b4 :: b3 :: b2 :: b1 :: b0 :: rest =>
    BitVec.ofNat 8 (bitsValue [b7, b6, b5, b4, b3, b2, b1, b0]) :: serialBytes rest
  | _ => []

/-- The input that the bits of a transaction spell, from the fall of select to its rise (R160, R175). -/
def decodeSerial (port : Port) (bits : List Bool) : Option Instr := decodeTransaction port (serialBytes bits)

/-- The command that a table word spells: the table gives no row any bits, so none. -/
def decodeTableWord (_nbits _w : Nat) : Option Instr := none

end Sys2Proof
end

