-- ==== Sys2Proof/Machine/State.lean ====
section
/-! DEFINITION. The state of the HL540, every piece the manual gives it, as plain data; its reset values; its fault and
refusal types. Times called MONO are natural numbers of nanoseconds (log entry 4). -/

namespace Sys2Proof.Machine

/-- Why the machine could stop with a fault. It has no constructor: the manual has no input that stops the part, and no
meaning raises one. -/
inductive Fault where
  deriving DecidableEq, Repr

/-- Why an input could be refused by the model. -/
inductive Refusal where
  /-- An arm of exec whose row has no meaning yet. No arm answers it: every row is modelled. It would be safe. -/
  | notModelled (mnemonic : String)
  deriving DecidableEq, Repr

/-! ## Sets and codes -/

/-- A set of paths: bit i for path index i (11, code tables). -/
abbrev PathSet := BitVec 5

/-- A set of attention kinds, one bit per kind (R173). -/
abbrev AttnSet := BitVec 16

/-- A set of record kinds, bit k for record kind code k (R173). -/
abbrev KindSet := BitVec 16

/-- The nine result codes (R173). -/
inductive ResultCode where
  | ok | unknown | framing | rights | locked | busy | argument | order | state
  deriving DecidableEq, Repr

/-- The four roles of a command port (R159). -/
inductive Role where
  | supervisor | gateway | operator | observer
  deriving DecidableEq, Repr

/-- Role straps: the two-bit role code (R175). -/
def Role.ofStrap (b : BitVec 2) : Role :=
  match b.toNat with
  | 0 => .supervisor
  | 1 => .gateway
  | 2 => .operator
  | _ => .observer

/-! ## Time Unit -/

/-- Time of day: 32-bit seconds and nanoseconds 0 to 999,999,999 (R19). -/
structure Tod where
  sec : BitVec 32
  ns : Nat
  deriving DecidableEq, Repr

/-- Time quality (R21). -/
inductive Quality where
  | free | set | locking | locked | holdover
  deriving DecidableEq, Repr

/-- A reading of the Time Unit: MONO, TOD and quality of one instant (R20). -/
structure Stamp where
  mono : Nat
  tod : Tod
  quality : Quality
  deriving DecidableEq, Repr

/-- A reference's qualification (R27). -/
structure RefState where
  run : Nat
  qualified : Bool
  lastPulse : Option Nat
  deriving DecidableEq, Repr

/-- Edge setting of a capture channel (R31). -/
inductive EdgeSetting where
  | none | rising | falling | both
  deriving DecidableEq, Repr

/-- Stamp source of a capture channel (R31). -/
inductive Source where
  | tod | mono
  deriving DecidableEq, Repr

/-- A captured stamp: a TOD or a MONO value (R32). -/
inductive CaptureStamp where
  | tod (t : Tod)
  | mono (n : Nat)
  deriving DecidableEq, Repr

/-- A capture channel: its settings, its FIFO of at most two stamps, oldest first, and the LOST mark of its status
(R31, R32). -/
structure CaptureState where
  edge : EdgeSetting
  source : Source
  log : Bool
  fifo : List CaptureStamp
  lost : Bool
  deriving DecidableEq, Repr

/-- Marker output action (R34). -/
inductive MarkerAction where
  | forcedLow | forcedHigh | pulseHigh | pulseLow
  deriving DecidableEq, Repr

/-- A marker output (R34); `pulseEnd` is the MONO at which a pulse in progress ends (R35). -/
structure Marker where
  action : MarkerAction
  matchAt : Tod
  period : Nat
  width : Nat
  armed : Bool
  late : Bool
  skipped : Nat
  pulseEnd : Option Nat
  deriving DecidableEq, Repr

/-- The Time Unit (chapter 2). The rate adjustment is derived from f and ph (R19). -/
structure TimeUnit where
  mono : Nat
  tod : Tod
  rem : Nat
  quality : Quality
  lockCount : Nat
  f : Int
  ph : Int
  discipline : Bool
  ts : Nat
  tl : Nat
  ki : Nat
  refs : Vector RefState 2
  active : Option Ref
  channels : Vector CaptureState 4
  markers : Vector Marker 2
  deriving DecidableEq, Repr

/-! ## Path frames, receivers and transmitters -/

/-- Local state of a path (R38); UNKNOWN far states are `none` of an Option. -/
inductive LocalState where
  | disabled | failed | recovering | fading | active
  deriving DecidableEq, Repr

/-- One DATA copy as the Dispatch Unit places it (R2). -/
structure DataCopy where
  stream : StreamId
  seq : Seq
  origin : Tod
  mask : PathSet
  payload : List Byte
  deriving DecidableEq, Repr

/-- The kind of a path frame with the fields the kind adds to the head (R2, R3). -/
inductive FrameBody where
  | data (copy : DataCopy)
  | beacon (tod : Tod)
  | probe (tag : Byte) (index : Nat)
  | echo (tag : Byte) (index : Nat) (residence : Nat)
  deriving DecidableEq, Repr

/-- A path frame: common head and body (R1, R172). The head's stream is that of a DATA body and 0 for the other kinds. -/
structure PathFrame where
  site : BitVec 4
  pathId : BitVec 4
  state : LocalState
  quality : Quality
  body : FrameBody
  deriving DecidableEq, Repr

/-- The silence timer (R12). -/
inductive SilenceTimer where
  | stopped
  | expired
  | running (deadline : Nat)
  deriving DecidableEq, Repr

/-- A path frame that is arriving: the stamp taken at its first byte (R5), and whether it met a soft reset period and is
discarded at its end. -/
structure Arriving where
  stamp : Stamp
  discard : Bool
  deriving DecidableEq, Repr

/-- A path receiver (1.3). -/
structure Receiver where
  silence : SilenceTimer
  arriving : Option Arriving
  deriving DecidableEq, Repr

/-- A frame on the lane (R13), and whether its end is left uncounted because of a soft reset. -/
structure InProgress where
  frame : PathFrame
  uncounted : Bool
  deriving DecidableEq, Repr

/-- A pending echo (R15). -/
structure PendingEcho where
  tag : Byte
  index : Nat
  arrival : Nat
  deriving DecidableEq, Repr

/-- A pending probe (R15). -/
structure PendingProbe where
  tag : Byte
  index : Nat
  deriving DecidableEq, Repr

/-- The beacon wait (R16): stopped on a DISABLED path, running since the MONO at which the last frame ended, or ended. -/
inductive BeaconWait where
  | stopped
  | running (since : Nat)
  | ended
  deriving DecidableEq, Repr

/-- A path transmitter (1.4); the queue is oldest first. -/
structure Transmitter where
  queue : List DataCopy
  inProgress : Option InProgress
  echo : Option PendingEcho
  probe : Option PendingProbe
  beacon : BeaconWait
  deriving DecidableEq, Repr

/-! ## Path Table -/

/-- State reason (R38). -/
inductive Reason where
  | starting | margin | silence | errors | operator
  deriving DecidableEq, Repr

/-- A threshold bank (R38): knee K, warning Wn, floor Fl, recovery Rc in qdB, slope S in ns per qdB, cap Pmax in ns. -/
structure Bank where
  k : Int
  wn : Int
  fl : Int
  rc : Int
  s : Nat
  pmax : Nat
  deriving DecidableEq, Repr

/-- A running error window (R45). -/
structure ErrorWindow where
  start : Nat
  endAt : Nat
  count : Nat
  deriving DecidableEq, Repr

/-- The statistics of a path (R60). -/
structure Stats where
  rxValid : Nat
  checkErrors : Nat
  crossed : Nat
  discardedDisabled : Nat
  wins : Nat
  copies : Nat
  lagMin : Nat
  lagMax : Nat
  late : Nat
  txFrames : Nat
  txDrops : Nat
  flushDrops : Nat
  probesSent : Nat
  probesValid : Nat
  probesLost : Nat
  probesInvalid : Nat
  deriving DecidableEq, Repr

/-- A path entry (R38). `delay` is D, `none` for UNSET; `effDelay` is E; timeouts keep their command's units. -/
structure PathEntry where
  state : LocalState
  reason : Reason
  entered : Nat
  farState : Option LocalState
  farQuality : Option Quality
  margin : Option Int
  reportTime : Nat
  stale : Bool
  reportDeadline : Option Nat
  bank0 : Bank
  bank1 : Bank
  bankOne : Bool
  silenceTimeout : Nat
  windowLength : Nat
  errorLimit : Nat
  recoverHold : Nat
  reportTimeout : Nat
  window : Option ErrorWindow
  holdDeadline : Option Nat
  delay : Option Nat
  weight : Nat
  lossWeight : Nat
  decayInterval : Nat
  decayDeadline : Nat
  score : Nat
  effDelay : Nat
  locked : Bool
  stats : Stats
  deriving DecidableEq, Repr

/-! ## Route Selector -/

/-- A guard-held path with its deadline (R77). -/
structure Guard where
  path : Path
  deadline : Nat
  deriving DecidableEq, Repr

/-- The selection state (R77). -/
structure Selector where
  primary : Option Path
  dispatchSet : PathSet
  guard : Option Guard
  pin : Option Path
  hysteresis : Nat
  widthCode : Nat
  shadow : Bool
  guardTime : Nat
  rank : List Path
  deriving DecidableEq, Repr

/-- The kind of a change of primary (R79 to R81). -/
inductive ChangeKind where
  | first | improve | fallback | loss | pin
  deriving DecidableEq, Repr

/-! ## Streams and the local port -/

/-- What a HELD or DONE slot records of its first arrival (R107). -/
structure SlotInfo where
  path : Path
  arrival : Nat
  mask : PathSet
  seen : PathSet
  deriving DecidableEq, Repr

/-- The frame a HELD slot keeps (R107). -/
structure HeldFrame where
  payload : List Byte
  origin : Tod
  arrival : Tod
  arrivalQuality : Quality
  sender : Quality
  eligible : Bool
  deriving DecidableEq, Repr

/-- A slot of a tracked sequence (R107). Its sequence is the stream's base plus its place in the slot list (log entry 19). -/
inductive Slot where
  | empty
  | held (info : SlotInfo) (frame : HeldFrame)
  | done (info : SlotInfo)
  | skipped
  deriving DecidableEq, Repr

/-- The receive side of a stream (R106). `slots` holds the tracked sequences from the base on, in sequence order. -/
structure RxStream where
  enabled : Bool
  windowCode : Nat
  ordered : Bool
  holdTime : Nat
  resyncCode : Nat
  records : Bool
  synced : Bool
  base : Seq
  front : Seq
  release : Seq
  holdDeadline : Option Nat
  accepted : Nat
  duplicates : Nat
  late : Nat
  gaps : Nat
  resyncs : Nat
  rejected : Nat
  overflow : Nat
  slots : List Slot
  deriving DecidableEq, Repr

/-- The transmit side of a stream (R100). -/
structure TxStream where
  enabled : Bool
  next : Seq
  dispatched : Nat
  rejected : Nat
  dropsNoPath : Nat
  dropsFull : Nat
  deriving DecidableEq, Repr

/-- A delivered frame with its trailer fields (R17). -/
structure DeliveredFrame where
  stream : StreamId
  payload : List Byte
  seq : Seq
  path : Path
  arrival : Tod
  deriving DecidableEq, Repr

/-- A local frame that is arriving: its origin TOD (R92) and whether it met a soft reset period. -/
structure LocalArriving where
  origin : Tod
  discard : Bool
  deriving DecidableEq, Repr

/-- The Local Port Unit (R17, R93, R118). -/
structure LocalPort where
  malformed : Nat
  arriving : Option LocalArriving
  queue : List DeliveredFrame
  inProgress : Option DeliveredFrame
  deriving DecidableEq, Repr

/-! ## Sounding Unit -/

inductive SweepState where
  | idle | running | suspended
  deriving DecidableEq, Repr

inductive SuspendReason where
  | command | fallback
  deriving DecidableEq, Repr

/-- The outstanding probe (R143). -/
structure Outstanding where
  index : Nat
  t1 : Nat
  deadline : Nat
  deriving DecidableEq, Repr

/-- The sweep context (R143). -/
structure Sounding where
  state : SweepState
  reason : Option SuspendReason
  tag : Byte
  pathSet : PathSet
  remaining : PathSet
  countCode : Nat
  spacing : Nat
  timeout : Nat
  settle : Nat
  current : Option Path
  probeIndex : Nat
  pendingProbe : Option Nat
  outstanding : Option Outstanding
  minimum : Option Nat
  valid : Nat
  lost : Nat
  lastT1 : Option Nat
  settleDeadline : Option Nat
  stale : Nat
  deriving DecidableEq, Repr

/-- The result of a burst (R59). -/
inductive BurstResult where
  | ok | failed | aborted | skipped
  deriving DecidableEq, Repr

/-! ## Log Unit -/

inductive GapCause where
  | advance | hold
  deriving DecidableEq, Repr

inductive ResyncCause where
  | jump | config | command
  deriving DecidableEq, Repr

inductive TimeEvent where
  | step | refSwitch | quality
  deriving DecidableEq, Repr

/-- The fields of a DELIVERY record as stored (R129, R174): the arrival seconds stand as their offset from the record
seconds when that lies within 127 s, `none` otherwise. -/
structure DeliveryRecord where
  stream : StreamId
  seq : Seq
  path : Path
  arrivalOffset : Option Int
  arrivalNs : Nat
  arrivalQuality : Quality
  oneWay : Option Int
  holdDelay : Option Nat
  held : Bool
  dropped : Bool
  fromIneligible : Bool
  deriving DecidableEq, Repr

/-- The kinds of record with their own fields (R128 to R132). -/
inductive RecordBody where
  | delivery (r : DeliveryRecord)
  | gap (stream : StreamId) (first : Seq) (count : Nat) (cause : GapCause)
  | resync (stream : StreamId) (oldFront : Seq) (cause : ResyncCause) (newSeq : Option Seq)
  | state (path : Path) (old new : LocalState) (reason : Reason) (margin : Option Int)
  | primary (old new : Option Path) (kind : ChangeKind) (eOld eNew : Option Nat)
  | sound (path : Path) (result : BurstResult) (valid lost : Nat) (minimum delay : Option Nat) (held : Bool)
  | time (event : TimeEvent) (offset : Int)
  | mark (channel : Channel) (value : CaptureStamp)
  | reset
  deriving DecidableEq, Repr

/-- A stored record: the common part and the fields of its kind (R128). -/
structure LogRecord where
  serial : Seq
  tod : Tod
  quality : Quality
  body : RecordBody
  deriving DecidableEq, Repr

/-- A port's reading context in the Log Unit (R135). -/
structure ReadCtx where
  cursor : Seq
  filter : KindSet
  watermark : Nat
  lost : Nat
  deriving DecidableEq, Repr

/-- The Log Unit: the retained records, oldest first, the next serial, and the three reading contexts (R133, R135). -/
structure Log where
  records : List LogRecord
  next : Seq
  readers : Vector ReadCtx 3
  deriving DecidableEq, Repr

/-! ## Command ports -/

/-- What a READ LOG or PEEK LOG is clocking out (R137, R138): the head with the lost count it shows, the image of a record,
or an EMPTY image with the serial it carries. -/
inductive LogPhase where
  | head (lost : Nat)
  | image (serial : Seq)
  | empty (serial : Seq)
  deriving DecidableEq, Repr

/-- The read whose response a port is clocking out. -/
inductive Reading where
  | plain
  | attention (copied raised : AttnSet)
  | log (phase : LogPhase)
  | peek (position : Seq) (phase : LogPhase)
  | interrupted
  deriving DecidableEq, Repr

/-- A port context (R159), with the read in progress (R163, R168, R171) and the port's two outputs, the status byte of the
latest transaction and the response bytes formed last (log entry 5). -/
structure PortCtx where
  role : Role
  lastResult : ResultCode
  mask : AttnSet
  pending : AttnSet
  framingErrors : Nat
  unknownCommands : Nat
  reading : Option Reading
  statusOut : Byte
  response : List Byte
  deriving DecidableEq, Repr

/-! ## The part -/

/-- The whole state. `resetting` holds the MONO at which a soft reset period ends; `pending` is the queue of inputs that
wait, first in first out. -/
structure State where
  time : TimeUnit
  paths : Vector PathEntry 5
  receivers : Vector Receiver 5
  transmitters : Vector Transmitter 5
  peerSite : Option (BitVec 4)
  beaconInterval : Nat
  selector : Selector
  rxStreams : Vector RxStream 8
  txStreams : Vector TxStream 8
  localPort : LocalPort
  sounding : Sounding
  log : Log
  ports : Vector PortCtx 3
  siteId : BitVec 4
  resetting : Option Nat
  pending : List Instr
  deriving DecidableEq, Repr

/-! ## Reset values -/

/-- A marker output after pin reset and soft reset (R34). -/
def Marker.reset : Marker where
  action := .forcedLow
  matchAt := ⟨0, 0⟩
  period := 0
  width := 1
  armed := false
  late := false
  skipped := 0
  pulseEnd := none

/-- The Time Unit after pin reset (2.7.1). -/
def TimeUnit.reset : TimeUnit where
  mono := 0
  tod := ⟨0, 0⟩
  rem := 0
  quality := .free
  lockCount := 0
  f := 0
  ph := 0
  discipline := false
  ts := 100000
  tl := 100
  ki := 4
  refs := Vector.replicate 2 ⟨0, false, none⟩
  active := none
  channels := #v[⟨.rising, .tod, false, [], false⟩, ⟨.rising, .tod, false, [], false⟩,
    ⟨.none, .tod, false, [], false⟩, ⟨.none, .tod, false, [], false⟩]
  markers := Vector.replicate 2 Marker.reset

/-- The reset thresholds (R38). -/
def Bank.reset : Bank where
  k := 40
  wn := 24
  fl := 8
  rc := 32
  s := 20
  pmax := 20000

/-- The statistics after reset (R60). -/
def Stats.reset : Stats where
  rxValid := 0
  checkErrors := 0
  crossed := 0
  discardedDisabled := 0
  wins := 0
  copies := 0
  lagMin := 4294967295
  lagMax := 0
  late := 0
  txFrames := 0
  txDrops := 0
  flushDrops := 0
  probesSent := 0
  probesValid := 0
  probesLost := 0
  probesInvalid := 0

/-- A path entry after reset (R38, R64); `endOfReset` is the MONO at the reset's end, from which the first score decay
period runs (R58). -/
def PathEntry.reset (endOfReset : Nat) : PathEntry where
  state := .disabled
  reason := .operator
  entered := 0
  farState := none
  farQuality := none
  margin := none
  reportTime := 0
  stale := false
  reportDeadline := none
  bank0 := Bank.reset
  bank1 := Bank.reset
  bankOne := false
  silenceTimeout := 2000
  windowLength := 100
  errorLimit := 50
  recoverHold := 10000
  reportTimeout := 5000
  window := none
  holdDeadline := none
  delay := none
  weight := 2
  lossWeight := 8
  decayInterval := 1000
  decayDeadline := endOfReset + 1000 * 1000000
  score := 0
  effDelay := 16777215
  locked := false
  stats := Stats.reset

/-- The selection state after every reset (R77). -/
def Selector.reset : Selector where
  primary := none
  dispatchSet := 0
  guard := none
  pin := none
  hysteresis := 200
  widthCode := 1
  shadow := true
  guardTime := 500
  rank := Path.all

/-- The receive side of a stream after every reset (R106). -/
def RxStream.reset : RxStream where
  enabled := false
  windowCode := 4
  ordered := false
  holdTime := 200
  resyncCode := 8
  records := true
  synced := false
  base := 0
  front := 0
  release := 0
  holdDeadline := none
  accepted := 0
  duplicates := 0
  late := 0
  gaps := 0
  resyncs := 0
  rejected := 0
  overflow := 0
  slots := []

/-- The transmit side of a stream after every reset (R100). -/
def TxStream.reset : TxStream where
  enabled := false
  next := 0
  dispatched := 0
  rejected := 0
  dropsNoPath := 0
  dropsFull := 0

/-- The sweep context after every reset (R143). -/
def Sounding.reset : Sounding where
  state := .idle
  reason := none
  tag := 0
  pathSet := 0
  remaining := 0
  countCode := 0
  spacing := 10
  timeout := 1
  settle := 0
  current := none
  probeIndex := 0
  pendingProbe := none
  outstanding := none
  minimum := none
  valid := 0
  lost := 0
  lastT1 := none
  settleDeadline := none
  stale := 0

/-- All nine record kinds: bits 1 to 9 (R135, R173). -/
def KindSet.allKinds : KindSet := 0x3FE

/-- A reading context with the given cursor and otherwise its reset values (R135). -/
def ReadCtx.reset (cursor : Seq) : ReadCtx where
  cursor := cursor
  filter := KindSet.allKinds
  watermark := 1
  lost := 0

/-- A port context after pin reset, with the role its straps select (R159). The manual does not say what becomes of a read
that is being clocked out when pin or power-on reset falls: the model ends it, and its later completions change nothing
(log entry 41). -/
def PortCtx.reset (role : Role) : PortCtx where
  role := role
  lastResult := .ok
  mask := 0
  pending := 0
  framingErrors := 0
  unknownCommands := 0
  reading := none
  statusOut := 0
  response := []

/-- The part at the end of pin reset or power-on reset with the given strap levels (R175), and an empty queue. A path frame
that was arriving is forgotten, as R92 says of a local frame (log entry 36), and a read that was being clocked out is over
(log entry 41). -/
def State.ofStraps (site : BitVec 4) (role0 role1 role2 : Role) : State where
  time := TimeUnit.reset
  paths := Vector.replicate 5 (PathEntry.reset 0)
  receivers := Vector.replicate 5 ⟨.stopped, none⟩
  transmitters := Vector.replicate 5 ⟨[], none, none, none, .stopped⟩
  peerSite := none
  beaconInterval := 100
  selector := Selector.reset
  rxStreams := Vector.replicate 8 RxStream.reset
  txStreams := Vector.replicate 8 TxStream.reset
  localPort := ⟨0, none, [], none⟩
  sounding := Sounding.reset
  log := ⟨[], 0, Vector.replicate 3 (ReadCtx.reset 0)⟩
  ports := #v[PortCtx.reset role0, PortCtx.reset role1, PortCtx.reset role2]
  siteId := site
  resetting := none
  pending := []

/-- The machine right after reset. The strap levels are the model's (log entry 7, DESIGN CHOICE): site 0, and the roles of
the example of 10.10, P0 SUPERVISOR, P1 OPERATOR, P2 GATEWAY. -/
def State.reset : State := State.ofStraps 0 .supervisor .operator .gateway

end Sys2Proof.Machine
end

