-- ==== Sys2Proof/Machine/Ops.lean ====
section
/-! DEFINITION. The named reads and updates of the state, sets of paths, bounded counts, and byte order. -/

namespace Sys2Proof

/-- The path of an index, if it names one. -/
def Path.ofIndex (n : Nat) : Option Path := Path.all[n]?

end Sys2Proof

namespace Sys2Proof.Machine

/-! ## Numbers -/

/-- 4,294,967,295: the bound of the 32-bit counts (R60, R99, R106). -/
def max32 : Nat := 4294967295

/-- 65,535: the bound of the 16-bit counts (R34, R45, R134, R159). -/
def max16 : Nat := 65535

/-- 16,777,215: the greatest D, E and sample (R65, R72, R148). -/
def maxDelay : Nat := 16777215

/-- A count raised by n, stopping at its bound ("Saturating", 00). -/
def satAdd (bound x n : Nat) : Nat := min bound (x + n)

/-- A 32-bit count raised by one. -/
def inc32 (x : Nat) : Nat := satAdd max32 x 1

/-- A 16-bit count raised by one. -/
def inc16 (x : Nat) : Nat := satAdd max16 x 1

/-- A result outside a range is replaced by the nearer bound ("Clamped to", 00). -/
def clampInt (lo hi x : Int) : Int := max lo (min hi x)

/-- Microseconds in nanoseconds. -/
def usToNs (n : Nat) : Nat := n * 1000

/-- Milliseconds in nanoseconds. -/
def msToNs (n : Nat) : Nat := n * 1000000

/-- 0 or 1 for a flag (11, code tables). -/
def bit01 (b : Bool) : Nat := if b then 1 else 0

/-! ## Byte order: least significant byte first (11) -/

/-- The k bytes of a value, least significant first. -/
def leBytes : Nat → Nat → List Byte
  | 0, _ => []
  | k + 1, v => BitVec.ofNat 8 v :: leBytes k (v / 256)

/-- The k bytes of a signed value in two's complement. -/
def leBytesInt (k : Nat) (v : Int) : List Byte := leBytes k (v % (256 ^ k : Nat)).toNat

/-- The value of bytes sent least significant first. -/
def leNat : List Byte → Nat
  | [] => 0
  | b :: bs => b.toNat + 256 * leNat bs

/-- The k bytes of a field that reads with every bit set when its value is absent (R173). -/
def leBytesOpt (k : Nat) (v : Option Nat) : List Byte := leBytes k (v.getD (256 ^ k - 1))

/-! ## Sets of paths -/

/-- Membership of a path in a set. -/
def PathSet.has (m : PathSet) (p : Path) : Bool := m.getLsbD p.idx.val

/-- The set of one path. -/
def PathSet.single (p : Path) : PathSet := 1#5 <<< p.idx.val

/-- A set with a path added. -/
def PathSet.add (m : PathSet) (p : Path) : PathSet := m ||| PathSet.single p

/-- A set with a path removed. -/
def PathSet.remove (m : PathSet) (p : Path) : PathSet := m &&& ~~~ PathSet.single p

/-- The set of the paths of a list. -/
def PathSet.ofList (l : List Path) : PathSet := l.foldl PathSet.add 0

/-- The lowest-index path of a set, if it is not empty (R145). -/
def PathSet.lowest (m : PathSet) : Option Path := Path.all.find? (PathSet.has m)

/-! ## Reading and updating the tables of the state -/

def State.entry (s : State) (p : Path) : PathEntry := s.paths[p.idx]
def State.receiver (s : State) (p : Path) : Receiver := s.receivers[p.idx]
def State.transmitter (s : State) (p : Path) : Transmitter := s.transmitters[p.idx]
def State.rxStream (s : State) (i : StreamId) : RxStream := s.rxStreams[i]
def State.txStream (s : State) (i : StreamId) : TxStream := s.txStreams[i]
def State.port (s : State) (p : Port) : PortCtx := s.ports[p.idx]
def State.reader (s : State) (p : Port) : ReadCtx := s.log.readers[p.idx]
def State.ref (s : State) (r : Ref) : RefState := s.time.refs[r.idx]
def State.channel (s : State) (c : Channel) : CaptureState := s.time.channels[c.idx]
def State.marker (s : State) (o : Out) : Marker := s.time.markers[o.idx]

def State.modEntry (s : State) (p : Path) (g : PathEntry → PathEntry) : State :=
  { s with paths := s.paths.set p.idx (g (s.entry p)) }

def State.modReceiver (s : State) (p : Path) (g : Receiver → Receiver) : State :=
  { s with receivers := s.receivers.set p.idx (g (s.receiver p)) }

def State.modTransmitter (s : State) (p : Path) (g : Transmitter → Transmitter) : State :=
  { s with transmitters := s.transmitters.set p.idx (g (s.transmitter p)) }

def State.modRx (s : State) (i : StreamId) (g : RxStream → RxStream) : State :=
  { s with rxStreams := s.rxStreams.set i (g (s.rxStream i)) }

def State.modTx (s : State) (i : StreamId) (g : TxStream → TxStream) : State :=
  { s with txStreams := s.txStreams.set i (g (s.txStream i)) }

def State.modPort (s : State) (p : Port) (g : PortCtx → PortCtx) : State :=
  { s with ports := s.ports.set p.idx (g (s.port p)) }

def State.modLog (s : State) (g : Log → Log) : State := { s with log := g s.log }

def State.modReader (s : State) (p : Port) (g : ReadCtx → ReadCtx) : State :=
  { s with log := { s.log with readers := s.log.readers.set p.idx (g (s.reader p)) } }

def State.modTime (s : State) (g : TimeUnit → TimeUnit) : State := { s with time := g s.time }

def State.modSounding (s : State) (g : Sounding → Sounding) : State := { s with sounding := g s.sounding }

def State.modSelector (s : State) (g : Selector → Selector) : State := { s with selector := g s.selector }

def State.modLocal (s : State) (g : LocalPort → LocalPort) : State := { s with localPort := g s.localPort }

/-- A path's statistics updated (R60). -/
def State.modStats (s : State) (p : Path) (g : Stats → Stats) : State :=
  s.modEntry p (fun e => { e with stats := g e.stats })

def TimeUnit.modRef (t : TimeUnit) (r : Ref) (g : RefState → RefState) : TimeUnit :=
  { t with refs := t.refs.set r.idx (g t.refs[r.idx]) }

def TimeUnit.modChannel (t : TimeUnit) (c : Channel) (g : CaptureState → CaptureState) : TimeUnit :=
  { t with channels := t.channels.set c.idx (g t.channels[c.idx]) }

def TimeUnit.modMarker (t : TimeUnit) (o : Out) (g : Marker → Marker) : TimeUnit :=
  { t with markers := t.markers.set o.idx (g t.markers[o.idx]) }

/-- MONO now (R18). -/
def State.mono (s : State) : Nat := s.time.mono

/-- A reading of the Time Unit (R20). -/
def State.stamp (s : State) : Stamp := ⟨s.time.mono, s.time.tod, s.time.quality⟩

/-- Whether a deadline has been reached by MONO. -/
def State.reached (s : State) (deadline : Option Nat) : Bool :=
  match deadline with
  | some d => decide (d ≤ s.time.mono)
  | none => false

end Sys2Proof.Machine
end

