-- ==== Sys2Proof/Machine/Flags.lean ====
section
/-! DEFINITION. Attention: the pending sets, the masks, the attention outputs, and the status byte of a command port. -/

namespace Sys2Proof.Machine

/-- The nine attention kinds (R167). -/
inductive AttnKind where
  | log | lost | path | primary | sweep | time | capture | drop | protocol
  deriving DecidableEq, Repr

/-- The bit of an attention kind (R173). -/
def AttnKind.bit : AttnKind → Nat
  | .log => 0
  | .lost => 1
  | .path => 2
  | .primary => 3
  | .sweep => 4
  | .time => 5
  | .capture => 6
  | .drop => 7
  | .protocol => 8

/-- The set of one attention kind. -/
def AttnSet.single (k : AttnKind) : AttnSet := 1#16 <<< k.bit

/-- Membership of a kind in a set. -/
def AttnSet.has (m : AttnSet) (k : AttnKind) : Bool := m.getLsbD k.bit

/-- A kind put into a port's pending set (R167); a READ ATTENTION in progress notes it as raised since its copy (R168). -/
def PortCtx.raise (c : PortCtx) (k : AttnKind) : PortCtx :=
  { c with
    pending := c.pending ||| AttnSet.single k
    reading := match c.reading with
      | some (.attention copied raised) => some (.attention copied (raised ||| AttnSet.single k))
      | r => r }

/-- A kind raised on the port concerned (R167). -/
def State.raiseOn (s : State) (p : Port) (k : AttnKind) : State := s.modPort p (fun c => c.raise k)

/-- A kind raised on all three ports (R167). -/
def State.raiseAll (s : State) (k : AttnKind) : State := Port.all.foldl (fun s p => s.raiseOn p k) s

/-- A port's attention output: asserted while its pending set and its mask have a kind in common (R167). -/
def PortCtx.output (c : PortCtx) : Bool := c.pending &&& c.mask != 0

/-- Whether a sweep exists (R143). -/
def Sounding.isActive (x : Sounding) : Bool := x.state != .idle

/-- The code of a result (R173). -/
def ResultCode.code : ResultCode → Nat
  | .ok => 0
  | .unknown => 1
  | .framing => 2
  | .rights => 3
  | .locked => 4
  | .busy => 5
  | .argument => 6
  | .order => 7
  | .state => 8

/-- The status byte a port clocks out during a command byte (R165, R173): last result in bits 3 to 0, attention in bit 4,
RESETTING in bit 5, sweep active in bit 6, bit 7 zero. -/
def State.statusByte (s : State) (p : Port) : Byte :=
  BitVec.ofNat 8 ((s.port p).lastResult.code + 16 * bit01 (s.port p).output + 32 * bit01 s.resetting.isSome
    + 64 * bit01 s.sounding.isActive)

end Sys2Proof.Machine
end

