-- ==== Sys2Proof/Machine/Operands.lean ====
section
/-! DEFINITION. The code tables of chapter 11 and the operand forms of the commands: how argument bytes become values. -/

namespace Sys2Proof

/-! ## Codes of the names of Syntax.lean -/

/-- The code of a path is its index. -/
def Path.code (p : Path) : Nat := p.idx.val

/-- The code of a capture channel (R173, R174). -/
def Channel.code (c : Channel) : Nat := c.idx.val

/-- A capture channel from its byte (R31). -/
def Channel.ofCode : Nat → Option Channel
  | 0 => some .ref0
  | 1 => some .ref1
  | 2 => some .mark0
  | 3 => some .mark1
  | _ => none

/-- A marker output from its byte (R34). -/
def Out.ofCode : Nat → Option Out
  | 0 => some .out0
  | 1 => some .out1
  | _ => none

/-- The code of a reference (R173). -/
def Ref.code (r : Ref) : Nat := r.idx.val

end Sys2Proof

namespace Sys2Proof.Machine

/-! ## Codes of enumerations (11, R173, R174) -/

/-- A path or NONE: NONE reads 7. -/
def pathCode (p : Option Path) : Nat := (p.map Path.code).getD 7

def LocalState.code : LocalState → Nat
  | .disabled => 0
  | .failed => 1
  | .recovering => 2
  | .fading => 3
  | .active => 4

def LocalState.ofCode : Nat → Option LocalState
  | 0 => some .disabled
  | 1 => some .failed
  | 2 => some .recovering
  | 3 => some .fading
  | 4 => some .active
  | _ => none

def Quality.code : Quality → Nat
  | .free => 0
  | .set => 1
  | .locking => 2
  | .locked => 3
  | .holdover => 4

def Quality.ofCode : Nat → Option Quality
  | 0 => some .free
  | 1 => some .set
  | 2 => some .locking
  | 3 => some .locked
  | 4 => some .holdover
  | _ => none

def Role.code : Role → Nat
  | .supervisor => 0
  | .gateway => 1
  | .operator => 2
  | .observer => 3

def Reason.code : Reason → Nat
  | .starting => 0
  | .margin => 1
  | .silence => 2
  | .errors => 3
  | .operator => 4

def ChangeKind.code : ChangeKind → Nat
  | .first => 0
  | .improve => 1
  | .fallback => 2
  | .loss => 3
  | .pin => 4

def BurstResult.code : BurstResult → Nat
  | .ok => 0
  | .failed => 1
  | .aborted => 2
  | .skipped => 3

def GapCause.code : GapCause → Nat
  | .advance => 0
  | .hold => 1

def ResyncCause.code : ResyncCause → Nat
  | .jump => 0
  | .config => 1
  | .command => 2

def TimeEvent.code : TimeEvent → Nat
  | .step => 0
  | .refSwitch => 1
  | .quality => 2

def EdgeSetting.code : EdgeSetting → Nat
  | .none => 0
  | .rising => 1
  | .falling => 2
  | .both => 3

def EdgeSetting.ofCode : Nat → Option EdgeSetting
  | 0 => some .none
  | 1 => some .rising
  | 2 => some .falling
  | 3 => some .both
  | _ => Option.none

def Source.code : Source → Nat
  | .tod => 0
  | .mono => 1

def Source.ofCode : Nat → Option Source
  | 0 => some .tod
  | 1 => some .mono
  | _ => none

def MarkerAction.code : MarkerAction → Nat
  | .forcedLow => 0
  | .forcedHigh => 1
  | .pulseHigh => 2
  | .pulseLow => 3

def MarkerAction.ofCode : Nat → Option MarkerAction
  | 0 => some .forcedLow
  | 1 => some .forcedHigh
  | 2 => some .pulseHigh
  | 3 => some .pulseLow
  | _ => none

def SweepState.code : SweepState → Nat
  | .idle => 0
  | .running => 1
  | .suspended => 2

def SuspendReason.code : SuspendReason → Nat
  | .command => 0
  | .fallback => 1

def SilenceTimer.code : SilenceTimer → Nat
  | .stopped => 0
  | .expired => 1
  | .running _ => 2

/-- A yes/no or on/off code: 0 or 1, and nothing else. -/
def flagOfCode : Nat → Option Bool
  | 0 => some false
  | 1 => some true
  | _ => none

/-- A stream number from its byte. -/
def streamOfCode (n : Nat) : Option StreamId := if h : n < 8 then some ⟨n, h⟩ else none

/-! ## Operand forms. `none` is a wrong number of bytes: the FRAMING refusal of R161. -/

/-- No argument byte. -/
def noArgs : List Byte → Option Unit
  | [] => some ()
  | _ => none

/-- One argument byte. -/
def oneByte : List Byte → Option Nat
  | [a] => some a.toNat
  | _ => none

/-- The first argument byte of a read; the bytes clocked in after it are ignored (R160). -/
def firstByte : List Byte → Option Nat
  | a :: _ => some a.toNat
  | [] => none

/-- A two-byte value. -/
def twoBytes : List Byte → Option Nat
  | [a, b] => some (leNat [a, b])
  | _ => none

/-- Two argument bytes. -/
def bytePair : List Byte → Option (Nat × Nat)
  | [a, b] => some (a.toNat, b.toNat)
  | _ => none

/-- Two two-byte values. -/
def wordPair : List Byte → Option (Nat × Nat)
  | [a, b, c, d] => some (leNat [a, b], leNat [c, d])
  | _ => none

/-- One byte and a four-byte value. -/
def byteAndLong : List Byte → Option (Nat × Nat)
  | [a, b, c, d, e] => some (a.toNat, leNat [b, c, d, e])
  | _ => none

/-- A four-byte signed value. -/
def signedLong : List Byte → Option Int
  | [a, b, c, d] => some (BitVec.ofNat 32 (leNat [a, b, c, d])).toInt
  | _ => none

/-- Two four-byte values. -/
def longPair : List Byte → Option (Nat × Nat)
  | [a, b, c, d, e, f, g, h] => some (leNat [a, b, c, d], leNat [e, f, g, h])
  | _ => none

/-- SET PATH TIMERS (13H). -/
structure PathTimersArgs where
  path : Nat
  silence : Nat
  window : Nat
  limit : Nat
  hold : Nat
  report : Nat
  deriving DecidableEq, Repr

def pathTimersArgs : List Byte → Option PathTimersArgs
  | [p, s0, s1, s2, s3, w0, w1, l0, l1, h0, h1, r0, r1] =>
    some ⟨p.toNat, leNat [s0, s1, s2, s3], leNat [w0, w1], leNat [l0, l1], leNat [h0, h1], leNat [r0, r1]⟩
  | _ => none

/-- SET THRESHOLDS (14H). -/
structure ThresholdArgs where
  path : Nat
  bank : Nat
  values : Bank
  deriving DecidableEq, Repr

def thresholdArgs : List Byte → Option ThresholdArgs
  | [p, b, k, wn, fl, rc, s, m0, m1] =>
    some ⟨p.toNat, b.toNat, ⟨k.toInt, wn.toInt, fl.toInt, rc.toInt, s.toNat, leNat [m0, m1]⟩⟩
  | _ => none

/-- SET SMOOTHING (17H). -/
structure SmoothingArgs where
  path : Nat
  weight : Nat
  lossWeight : Nat
  interval : Nat
  deriving DecidableEq, Repr

def smoothingArgs : List Byte → Option SmoothingArgs
  | [p, c, l, i0, i1] => some ⟨p.toNat, c.toNat, l.toNat, leNat [i0, i1]⟩
  | _ => none

/-- A margin entry of POST MARGIN: a path index and a signed margin (R162). -/
structure MarginEntry where
  path : Nat
  margin : Int
  deriving DecidableEq, Repr

/-- The whole entries of a POST MARGIN; `none` when select rises inside an entry. -/
def marginEntries : List Byte → Option (List MarginEntry)
  | [] => some []
  | [_] => none
  | p :: m :: rest => (marginEntries rest).map (fun l => ⟨p.toNat, m.toInt⟩ :: l)

/-- POST MARGIN (18H) is well framed after one or more whole entries; the last 8 are handed on (R162). -/
def postMarginArgs (args : List Byte) : Option (List MarginEntry) :=
  match marginEntries args with
  | some (e :: l) => some ((e :: l).drop ((e :: l).length - 8))
  | _ => none

/-- SET SELECTION (21H). -/
structure SelectionArgs where
  hysteresis : Nat
  widthCode : Nat
  shadow : Nat
  guardTime : Nat
  deriving DecidableEq, Repr

def selectionArgs : List Byte → Option SelectionArgs
  | [h0, h1, w, f, g0, g1] => some ⟨leNat [h0, h1], w.toNat, f.toNat, leNat [g0, g1]⟩
  | _ => none

/-- SET STREAM (31H). -/
structure StreamArgs where
  stream : Nat
  rxEnable : Nat
  txEnable : Nat
  windowCode : Nat
  mode : Nat
  holdTime : Nat
  resyncCode : Nat
  records : Nat
  deriving DecidableEq, Repr

def streamArgs : List Byte → Option StreamArgs
  | [st, rx, tx, w, m, h0, h1, q, r] =>
    some ⟨st.toNat, rx.toNat, tx.toNat, w.toNat, m.toNat, leNat [h0, h1], q.toNat, r.toNat⟩
  | _ => none

/-- SET DISCIPLINE (44H). -/
structure DisciplineArgs where
  on : Nat
  ts : Nat
  tl : Nat
  ki : Nat
  deriving DecidableEq, Repr

def disciplineArgs : List Byte → Option DisciplineArgs
  | [o, s0, s1, s2, s3, l0, l1, k] => some ⟨o.toNat, leNat [s0, s1, s2, s3], leNat [l0, l1], k.toNat⟩
  | _ => none

/-- SET CAPTURE (45H). -/
structure CaptureArgs where
  channel : Nat
  edge : Nat
  source : Nat
  log : Nat
  deriving DecidableEq, Repr

def captureArgs : List Byte → Option CaptureArgs
  | [c, e, s, l] => some ⟨c.toNat, e.toNat, s.toNat, l.toNat⟩
  | _ => none

/-- SET MARKER (47H). -/
structure MarkerArgs where
  out : Nat
  action : Nat
  sec : Nat
  ns : Nat
  period : Nat
  width : Nat
  deriving DecidableEq, Repr

def markerArgs : List Byte → Option MarkerArgs
  | [o, a, s0, s1, s2, s3, n0, n1, n2, n3, p0, p1, p2, p3, w0, w1] =>
    some ⟨o.toNat, a.toNat, leNat [s0, s1, s2, s3], leNat [n0, n1, n2, n3], leNat [p0, p1, p2, p3], leNat [w0, w1]⟩
  | _ => none

/-- START SWEEP (50H). -/
structure SweepArgs where
  pathSet : Nat
  countCode : Nat
  spacing : Nat
  timeout : Nat
  settle : Nat
  deriving DecidableEq, Repr

def sweepArgs : List Byte → Option SweepArgs
  | [p, c, s0, s1, t0, t1, e0, e1] => some ⟨p.toNat, c.toNat, leNat [s0, s1], leNat [t0, t1], leNat [e0, e1]⟩
  | _ => none

end Sys2Proof.Machine
end

