-- ==== Sys2Proof/Machine/TimeBase.lean ====
section
/-! DEFINITION. The arithmetic of the two counters: TOD differences and offsets, the rate adjustment, one nanosecond of
advance, and what a TOD step or a match does to a marker output (R18, R19, R34 to R36). -/

namespace Sys2Proof.Machine

/-- 1,000,000,000. -/
def billion : Nat := 1000000000

/-- The difference x - y of two TOD values in ns: the seconds modulo 2^32 as a signed value, times 10^9, plus the
nanoseconds (R19). -/
def todDiff (x y : Tod) : Int := (x.sec - y.sec).toInt * 1000000000 + ((x.ns : Int) - (y.ns : Int))

/-- A TOD moved by a signed offset, with carry into and borrow from the seconds, which wrap (R19, R23). -/
def Tod.add (t : Tod) (offset : Int) : Tod :=
  let n : Int := (t.ns : Int) + offset
  ⟨t.sec + BitVec.ofInt 32 (n / 1000000000), (n % 1000000000).toNat⟩

/-- A value kept within -2,147,483,647 to +2,147,483,647 (R22, R129). -/
def satOffset (x : Int) : Int := clampInt (-2147483647) 2147483647 x

/-- The bound of f and of the rate adjustment: 500,000 ppb (R19). -/
def clampRate (x : Int) : Int := clampInt (-500000) 500000 x

/-- The rate adjustment a: f plus ph, clamped (R19). -/
def TimeUnit.rate (t : TimeUnit) : Int := clampRate (t.f + t.ph)

/-- One nanosecond of MONO: MONO counts, and TOD and its remainder advance at the rate adjustment (R18, R19). -/
def TimeUnit.advance (t : TimeUnit) : TimeUnit :=
  let acc := t.rem + (1000000000 + t.rate).toNat
  { t with mono := t.mono + 1, rem := acc % billion, tod := t.tod.add (acc / billion : Nat) }

/-- Whether an action is one of the PULSE actions (R34). -/
def MarkerAction.pulses : MarkerAction → Bool
  | .pulseHigh => true
  | .pulseLow => true
  | _ => false

/-- The level of a marker output: true for high (R34). -/
def Marker.level (m : Marker) : Bool :=
  match m.action with
  | .forcedLow => false
  | .forcedHigh => true
  | .pulseHigh => m.pulseEnd.isSome
  | .pulseLow => !m.pulseEnd.isSome

/-- A pulse started, or its width counted anew: width times 100 ns on MONO (R35). -/
def Marker.fire (mono : Nat) (m : Marker) : Marker := { m with pulseEnd := some (mono + m.width * 100) }

/-- The difference of a TOD from an output's match time: TOD has reached the match when it is 0 or more (R19). A match whose
seconds differ by exactly 2^31 is one that TOD has not reached. -/
def Marker.since (m : Marker) (tod : Tod) : Int := todDiff tod m.matchAt

/-- How many match times of an output lie at or before a TOD whose difference from the next match is `since`: that match
and, for a non-zero period, the later ones (R34, R36). -/
def matchesReached (period : Nat) (since : Int) : Nat :=
  if since < 0 then 0 else if period = 0 then 1 else (since / (period : Int)).toNat + 1

/-- An output fired late: `k` matches are passed at once, `moved` matches lie at or before the TOD reached (R36). -/
def Marker.fireLate (mono k moved : Nat) (m : Marker) : Marker :=
  { m.fire mono with
    late := true
    skipped := satAdd max16 m.skipped (k - 1)
    armed := m.period != 0
    matchAt := if m.period = 0 then m.matchAt else m.matchAt.add ((moved * m.period : Nat) : Int) }

/-- A TOD step of `d` ns seen by a marker output (R36): a forward step that passes matches fires one LATE pulse; a
backward step and a step of zero pass none. -/
def Marker.step (mono : Nat) (before : Tod) (d : Int) (m : Marker) : Marker :=
  let moved := matchesReached m.period (m.since before + d)
  let k := moved - matchesReached m.period (m.since before)
  if m.armed && decide (0 < d) && decide (1 ≤ k) then m.fireLate mono k moved else m

/-- A TOD step seen by both outputs. -/
def TimeUnit.stepMarkers (before : Tod) (d : Int) (t : TimeUnit) : TimeUnit :=
  { t with markers := t.markers.map (Marker.step t.mono before d) }

/-- Whether an armed output's match has been reached in TOD's normal advance (R35). -/
def TimeUnit.matchDue (t : TimeUnit) (o : Out) : Bool :=
  t.markers[o.idx].armed && decide (0 ≤ t.markers[o.idx].since t.tod)

/-- A match taken (R35): the pulse starts; a period of 0 disarms, another moves the match on. -/
def Marker.takeMatch (mono : Nat) (m : Marker) : Marker :=
  if m.period = 0 then { m.fire mono with armed := false }
  else { m.fire mono with matchAt := m.matchAt.add (m.period : Int) }

end Sys2Proof.Machine
end

