-- ==== Sys2Proof/Machine/LogUnit.lean ====
section
/-! DEFINITION. The Log Unit: taking a record, the circular log, unread counts and LOG and LOST attention, the record images,
and the choice and completion of images (chapter 8, R174). -/

namespace Sys2Proof.Machine

/-- The number of record places (R133). -/
def logPlaces : Nat := 1024

/-- The oldest retained serial: next minus the retained count, modulo 2^32 (R133). -/
def Log.oldest (l : Log) : Seq := l.next - BitVec.ofNat 32 l.records.length

/-- The code of a record's kind (R174). -/
def RecordBody.kindCode : RecordBody → Nat
  | .delivery _ => 1
  | .gap .. => 2
  | .resync .. => 3
  | .state .. => 4
  | .primary .. => 5
  | .sound .. => 6
  | .time .. => 7
  | .mark .. => 8
  | .reset => 9

/-- Whether a record matches a port: its kind is in the port's filter (R135). -/
def ReadCtx.accepts (c : ReadCtx) (b : RecordBody) : Bool := c.filter.getLsbD b.kindCode

/-- The retained records from a serial on, in serial order. -/
def Log.since (l : Log) (position : Seq) : List LogRecord := l.records.drop (position - l.oldest).toNat

/-- The unread count of a port (R136). -/
def State.unread (s : State) (p : Port) : Nat :=
  ((s.log.since (s.reader p).cursor).filter (fun r => (s.reader p).accepts r.body)).length

/-- The log condition of a port (R136). -/
def State.logCondition (s : State) (p : Port) : Bool := decide ((s.reader p).watermark ≤ s.unread p)

/-- LOG attention raised on a port if its log condition holds (R136). -/
def State.checkLogCondition (s : State) (p : Port) : State :=
  if s.logCondition p then s.raiseOn p .log else s

/-- A peek position that stands at an overwritten serial moves to the new oldest (R139). -/
def Reading.overwritten (serial : Seq) : Reading → Reading
  | .peek position phase => .peek (if position = serial then position + 1 else position) phase
  | r => r

/-- The overwrite check of one port (R134): a cursor at the overwritten serial moves on, counts a loss and raises LOST. -/
def State.overwriteCheck (serial : Seq) (s : State) (p : Port) : State :=
  let s := s.modPort p (fun c => { c with reading := c.reading.map (Reading.overwritten serial) })
  if (s.reader p).cursor = serial then
    (s.modReader p (fun c => { c with cursor := c.cursor + 1, lost := inc16 c.lost })).raiseOn p .lost
  else s

/-- The LOG check of one port after a record is taken (R136): only for a record that matches the port. -/
def State.recordCheck (body : RecordBody) (s : State) (p : Port) : State :=
  if (s.reader p).accepts body then s.checkLogCondition p else s

/-- A record stored in its place (R133): a full log gives up its oldest record. -/
def Log.store (l : Log) (r : LogRecord) : Log :=
  { l with
    records := (if l.records.length < logPlaces then l.records else l.records.drop 1) ++ [r]
    next := l.next + 1 }

/-- A record taken by the Log Unit (R128, R133, R134, R136): it gets the next serial and the record time, is stored, and
each port's cursor and log condition are checked. -/
def State.logWrite (s : State) (body : RecordBody) : State :=
  let oldest := s.log.oldest
  let full := decide (logPlaces ≤ s.log.records.length)
  let s1 := s.modLog (fun l => l.store ⟨l.next, s.time.tod, s.time.quality, body⟩)
  let s2 := if full then Port.all.foldl (State.overwriteCheck oldest) s1 else s1
  Port.all.foldl (State.recordCheck body) s2

/-- The one-way delay of a delivery (R129): arrival TOD minus origin TOD, saturated, when both qualities are LOCKED. -/
def oneWayDelay (arrival origin : Tod) (arrivalQuality sender : Quality) : Option Int :=
  if arrivalQuality = .locked ∧ sender = .locked then some (satOffset (todDiff arrival origin)) else none

/-- The arrival seconds offset of a DELIVERY record (R174): present from -127 to +127. -/
def arrivalOffset (arrival record : Tod) : Option Int :=
  let d := (arrival.sec - record.sec).toInt
  if -127 ≤ d ∧ d ≤ 127 then some d else none

/-! ## Record images (R174) -/

/-- The bytes of a TOD: seconds, then nanoseconds. -/
def Tod.bytes (t : Tod) : List Byte := leBytes 4 t.sec.toNat ++ leBytes 4 t.ns

/-- The source of a captured stamp. -/
def CaptureStamp.source : CaptureStamp → Source
  | .tod _ => .tod
  | .mono _ => .mono

/-- The eight bytes of a captured stamp. -/
def CaptureStamp.bytes : CaptureStamp → List Byte
  | .tod t => t.bytes
  | .mono n => leBytes 8 n

/-- Bytes 13 on of a record image, before the zero bytes that fill it. The new sequence of a RESYNC record that has none
reads 0 (log entry 39). -/
def RecordBody.bytes : RecordBody → List Byte
  | .delivery r =>
    [BitVec.ofNat 8 (r.stream.val + 16 * r.path.code),
     BitVec.ofNat 8 (bit01 r.held + 2 * bit01 r.dropped + 4 * bit01 r.fromIneligible + 8 * bit01 r.oneWay.isSome
       + 16 * bit01 r.holdDelay.isSome + 32 * r.arrivalQuality.code)]
    ++ leBytes 4 r.seq.toNat
    ++ (match r.arrivalOffset with | some d => leBytesInt 1 d | none => [0x80#8])
    ++ leBytes 4 r.arrivalNs ++ leBytesInt 4 (r.oneWay.getD 0) ++ leBytes 4 (r.holdDelay.getD 0)
  | .gap stream first count cause =>
    leBytes 1 stream.val ++ leBytes 1 cause.code ++ leBytes 4 first.toNat ++ leBytes 4 count
  | .resync stream oldFront cause newSeq =>
    leBytes 1 stream.val ++ leBytes 1 cause.code ++ leBytes 1 (bit01 newSeq.isSome) ++ leBytes 4 oldFront.toNat
    ++ leBytes 4 (newSeq.getD 0).toNat
  | .state path old new reason margin =>
    leBytes 1 path.code ++ leBytes 1 old.code ++ leBytes 1 new.code ++ leBytes 1 reason.code
    ++ leBytesInt 1 (margin.getD 0) ++ leBytes 1 (bit01 margin.isSome)
  | .primary old new kind eOld eNew =>
    leBytes 1 (pathCode old) ++ leBytes 1 (pathCode new) ++ leBytes 1 kind.code ++ leBytesOpt 4 eOld ++ leBytesOpt 4 eNew
  | .sound path result valid lost minimum delay held =>
    leBytes 1 path.code ++ leBytes 1 result.code ++ leBytes 1 valid ++ leBytes 1 lost ++ leBytes 1 (bit01 held)
    ++ leBytesOpt 4 minimum ++ leBytesOpt 4 delay
  | .time event offset => leBytes 1 event.code ++ leBytesInt 4 offset
  | .mark channel value => leBytes 1 channel.code ++ leBytes 1 value.source.code ++ value.bytes
  | .reset => []

/-- A 32-byte image: serial, kind and quality, record time, the kind's bytes, and zero bytes (R174). -/
def imageBytes (serial : Seq) (kind : Nat) (quality : Quality) (tod : Tod) (body : List Byte) : List Byte :=
  leBytes 4 serial.toNat ++ [BitVec.ofNat 8 (kind + 16 * quality.code)] ++ tod.bytes ++ body
    ++ List.replicate (19 - body.length) 0#8

def LogRecord.image (r : LogRecord) : List Byte :=
  imageBytes r.serial r.body.kindCode r.quality r.tod r.body.bytes

/-! ## Reading (R137 to R140) -/

/-- The head of a READ LOG or PEEK LOG: lost count, unread count and cursor (R137, R173). -/
def State.logHead (s : State) (p : Port) : List Byte :=
  leBytes 2 (s.reader p).lost ++ leBytes 2 (s.unread p) ++ leBytes 4 (s.reader p).cursor.toNat

/-- The image due from a position: the first retained record from there on that matches the port, or an EMPTY image with
the next serial (R137, R138, R132). -/
def State.chooseImage (s : State) (p : Port) (position : Seq) : LogPhase × List Byte :=
  match (s.log.since position).find? (fun r => (s.reader p).accepts r.body) with
  | some r => (.image r.serial, r.image)
  | none => (.empty s.log.next, imageBytes s.log.next 0 s.time.quality s.time.tod [])

/-- A position moved on to a serial, unless overwrites have already moved it there or beyond (R137, R138; log entry 17). -/
def Log.moveTo (l : Log) (position serial : Seq) : Seq :=
  let d := (serial - l.oldest).toNat
  if (position - l.oldest).toNat < d ∧ d ≤ l.records.length then serial else position

/-- The next image of a READ LOG put out on a port. -/
def State.nextLogImage (s : State) (p : Port) : State :=
  let image := s.chooseImage p (s.reader p).cursor
  s.modPort p (fun c => { c with reading := some (.log image.1), response := image.2 })

/-- The next image of a PEEK LOG put out on a port, from its peek position. -/
def State.nextPeekImage (s : State) (p : Port) (position : Seq) : State :=
  let image := s.chooseImage p position
  s.modPort p (fun c => { c with reading := some (.peek position image.1), response := image.2 })

/-- The last byte of a head is clocked out (R137): READ LOG reduces the lost count by the value shown, PEEK LOG leaves it
(R139); the first image is then due (log entry 18). -/
def State.logHeadDone (s : State) (p : Port) : State :=
  match (s.port p).reading with
  | some (.log (.head shown)) => (s.modReader p (fun c => { c with lost := c.lost - shown })).nextLogImage p
  | some (.peek position (.head _)) => s.nextPeekImage p position
  | _ => s

/-- The last byte of a record image is clocked out (R137, R139). -/
def State.logImageDone (s : State) (p : Port) : State :=
  match (s.port p).reading with
  | some (.log (.image serial)) =>
    (s.modReader p (fun c => { c with cursor := s.log.moveTo c.cursor (serial + 1) })).nextLogImage p
  | some (.peek position (.image serial)) => s.nextPeekImage p (s.log.moveTo position (serial + 1))
  | _ => s

/-- The last byte of an EMPTY image is clocked out (R138, R139). -/
def State.emptyImageDone (s : State) (p : Port) : State :=
  match (s.port p).reading with
  | some (.log (.empty serial)) =>
    (s.modReader p (fun c => { c with cursor := s.log.moveTo c.cursor serial })).nextLogImage p
  | some (.peek position (.empty serial)) => s.nextPeekImage p (s.log.moveTo position serial)
  | _ => s

/-- The set of record kinds a SET LOG FILTER may name: bits 1 to 9 (R173). -/
def kindSetOk (n : Nat) : Bool := BitVec.ofNat 16 n &&& ~~~ KindSet.allKinds == 0

/-- SET LOG FILTER at the Log Unit (R135, R136). -/
def State.setLogFilter (s : State) (p : Port) (kinds watermark : Nat) : Except ResultCode State :=
  if kindSetOk kinds && decide (1 ≤ watermark ∧ watermark ≤ logPlaces) then
    .ok ((s.modReader p (fun c => { c with filter := BitVec.ofNat 16 kinds, watermark := watermark })).checkLogCondition p)
  else .error .argument

/-- SEEK LOG at the Log Unit (R140): OLDEST 0, NEXT 1. -/
def State.seekLog (s : State) (p : Port) (target : Nat) : Except ResultCode State :=
  match target with
  | 0 => .ok ((s.modReader p (fun c => { c with cursor := s.log.oldest })).checkLogCondition p)
  | 1 => .ok ((s.modReader p (fun c => { c with cursor := s.log.next })).checkLogCondition p)
  | _ => .error .argument

/-- The log at the start of a soft reset (R142): emptied, the reading contexts reset to the next serial, then the RESET
record taken, which raises LOG on every port. -/
def State.resetLog (s : State) : State :=
  (s.modLog (fun l => { l with records := [], readers := Vector.replicate 3 (ReadCtx.reset l.next) })).logWrite .reset

end Sys2Proof.Machine
end

