-- ==== Sys2Proof/Machine/Discipline.lean ====
section
/-! DEFINITION. The Time Unit's inputs: setting and stepping TOD, the discipline and its references, capture channels and
marker outputs (chapter 2). -/

namespace Sys2Proof.Machine

/-- A change of quality since `old` writes a QUALITY record and raises TIME (R21). -/
def State.noteQuality (s : State) (old : Quality) (offset : Int) : State :=
  if s.time.quality = old then s else (s.logWrite (.time .quality offset)).raiseAll .time

/-- A STEP record, TIME attention, and the QUALITY record of a change since `old` (R22, R23, R29; order of log entry 15). -/
def State.noteStep (s : State) (old : Quality) (offset : Int) (qualityOffset : Int) : State :=
  ((s.logWrite (.time .step offset)).raiseAll .time).noteQuality old qualityOffset

/-- The lock lost to a step: LOCKING, lock count 0, ph 0 (R22, R23, R29). -/
def TimeUnit.relock (t : TimeUnit) : TimeUnit := { t with quality := .locking, lockCount := 0, ph := 0 }

/-- TOD loaded by SET TIME (R22): remainder cleared, the markers see the step, and the quality follows the discipline. -/
def TimeUnit.load (t : TimeUnit) (tod : Tod) : TimeUnit :=
  let t1 := TimeUnit.stepMarkers t.tod (todDiff tod t.tod) { t with tod := tod, rem := 0 }
  if t.discipline then t1.relock else { t1 with quality := .set }

/-- TOD stepped by a signed offset, the remainder kept, seen by the markers (R23, R36). -/
def TimeUnit.shift (t : TimeUnit) (offset : Int) : TimeUnit :=
  TimeUnit.stepMarkers t.tod offset { t with tod := t.tod.add offset }

/-- SET TIME (R22). -/
def State.setTime (s : State) (sec ns : Nat) : Except ResultCode State :=
  if billion ≤ ns then .error .argument
  else
    let tod : Tod := ⟨BitVec.ofNat 32 sec, ns⟩
    .ok ((s.modTime (fun t => t.load tod)).noteStep s.time.quality (satOffset (todDiff tod s.time.tod)) 0)

/-- STEP TIME (R23). The one 32-bit value outside its range is refused ARGUMENT (log entry 9). -/
def State.stepTime (s : State) (offset : Int) : Except ResultCode State :=
  if offset < -2147483647 then .error .argument
  else
    .ok ((s.modTime (fun t => if t.discipline then (t.shift offset).relock else t.shift offset)).noteStep
      s.time.quality offset 0)

/-- SET FREQUENCY (R24). -/
def State.setFrequency (s : State) (ppb : Int) : Except ResultCode State :=
  if s.time.discipline then .error .state else .ok (s.modTime (fun t => { t with f := clampRate ppb }))

/-- The effect of SET DISCIPLINE's on/off change on the quality, lock count and ph (R25). -/
def TimeUnit.switchDiscipline (t : TimeUnit) (on : Bool) : TimeUnit :=
  match t.discipline, on with
  | false, true => if t.quality = .set then { t with discipline := true, quality := .locking, lockCount := 0 }
    else { t with discipline := true }
  | true, false =>
    { t with
      discipline := false, ph := 0, lockCount := 0
      quality := if t.quality = .free then .free else .set }
  | _, _ => t

/-- SET DISCIPLINE (R25). -/
def State.setDiscipline (s : State) (a : DisciplineArgs) : Except ResultCode State :=
  match flagOfCode a.on with
  | none => .error .argument
  | some on =>
    if 1000 ≤ a.ts ∧ a.ts ≤ 1000000 ∧ 1 ≤ a.tl ∧ a.tl ≤ 65535 ∧ a.ki ≤ 15 then
      .ok ((s.modTime (fun t => { t.switchDiscipline on with ts := a.ts, tl := a.tl, ki := a.ki })).noteQuality
        s.time.quality 0)
    else .error .argument

/-! ## References and the discipline (2.4) -/

/-- The spacing of a pulse is good within 999,900,000 to 1,000,100,000 ns (R27). -/
def goodSpacing (lastPulse : Option Nat) (mono : Nat) : Bool :=
  match lastPulse with
  | some l => decide (l + 999900000 ≤ mono ∧ mono ≤ l + 1000100000)
  | none => false

/-- A pulse's effect on run count and qualified flag (R27). -/
def RefState.pulse (mono : Nat) (r : RefState) : RefState :=
  if r.run = 0 then { r with run := 1, lastPulse := some mono }
  else if goodSpacing r.lastPulse mono then
    { run := min 3 (r.run + 1), qualified := r.qualified || decide (2 ≤ r.run), lastPulse := some mono }
  else { run := 1, qualified := false, lastPulse := some mono }

/-- Qualification lost: run count 0, flag cleared (R27). -/
def RefState.unqualify (r : RefState) : RefState := { r with run := 0, qualified := false }

/-- The reference the flags choose: REF0, else REF1, else none (R28). -/
def TimeUnit.chosen (t : TimeUnit) : Option Ref :=
  if t.refs[0].qualified then some .ref0 else if t.refs[1].qualified then some .ref1 else none

/-- What a switch of the active reference does to the discipline when it is on (R28). -/
def TimeUnit.switchActive (t : TimeUnit) (new : Option Ref) : TimeUnit :=
  let t1 := { t with active := new }
  if !t.discipline then t1
  else match t.active, new with
    | _, none =>
      if t.quality = .locking ∨ t.quality = .locked then { t1 with ph := 0, quality := .holdover, lockCount := 0 }
      else { t1 with ph := 0 }
    | none, some _ => if t.quality = .holdover then { t1 with quality := .locking, lockCount := 0 } else t1
    | some _, some _ =>
      { t1 with ph := 0, lockCount := 0, quality := if t.quality = .locked then .locking else t.quality }

/-- The offset field of a REFERENCE SWITCH record (R28). -/
def refOffset : Option Ref → Int
  | some .ref0 => 0
  | some .ref1 => 1
  | none => -1

/-- The active reference chosen anew (R28). -/
def State.chooseActive (s : State) : State :=
  let new := s.time.chosen
  if new = s.time.active then s
  else
    (((s.modTime (fun t => t.switchActive new)).logWrite (.time .refSwitch (refOffset new))).raiseAll .time).noteQuality
      s.time.quality 0

/-- The offset e of a pulse from the TOD nanoseconds read at it (R29). -/
def pulseOffset (ns : Nat) : Int := if ns < 500000000 then (ns : Int) else (ns : Int) - 1000000000

/-- A pulse taken out by slewing (R29): ph and f move, and the lock count and quality follow the lock threshold. -/
def TimeUnit.slew (t : TimeUnit) (e : Int) : TimeUnit :=
  let t1 := { t with ph := -e, f := clampRate (t.f + (-e) / (2 ^ t.ki : Nat)) }
  if e.natAbs ≤ t.tl then
    let count := min 4 (t.lockCount + 1)
    { t1 with lockCount := count, quality := if t.quality = .locking ∧ count = 4 then .locked else t.quality }
  else { t1 with lockCount := 0, quality := if t.quality = .locked then .locking else t.quality }

/-- A pulse of the active reference offered to the discipline (R29). -/
def State.applyPulse (s : State) (ns : Nat) : State :=
  let e := pulseOffset ns
  if s.time.discipline && (s.time.quality == .locking || s.time.quality == .locked) then
    if s.time.ts < e.natAbs then (s.modTime (fun t => (t.shift (-e)).relock)).noteStep s.time.quality (-e) e
    else (s.modTime (fun t => t.slew e)).noteQuality s.time.quality e
  else s

/-! ## Capture channels (2.5) -/

/-- Whether an edge setting selects an edge (R31). -/
def EdgeSetting.selects : EdgeSetting → EdgeDir → Bool
  | .none, _ => false
  | .rising, .rising => true
  | .rising, .falling => false
  | .falling, .rising => false
  | .falling, .falling => true
  | .both, _ => true

/-- The stamp a channel's source names (R32). -/
def CaptureState.stamp (c : CaptureState) (t : Stamp) : CaptureStamp :=
  match c.source with
  | .tod => .tod t.tod
  | .mono => .mono t.mono

/-- A stamp placed at the tail of a FIFO of two (R32). -/
def CaptureState.push (c : CaptureState) (v : CaptureStamp) : CaptureState :=
  if c.fifo.length < 2 then { c with fifo := c.fifo ++ [v] }
  else { c with fifo := c.fifo.drop 1 ++ [v], lost := true }

/-- The status of a channel (R32, R173): the number of stamps held, or 3 for LOST. -/
def CaptureState.status (c : CaptureState) : Nat := if c.lost then 3 else c.fifo.length

/-- A capture on a channel (R32): the stamp joins the FIFO, CAPTURE is raised when it then holds two, and log mode writes a
MARK record. -/
def State.capture (s : State) (c : Channel) (t : Stamp) : State :=
  let v := (s.channel c).stamp t
  let s1 := s.modTime (fun u => u.modChannel c (fun x => x.push v))
  let s2 := if (s1.channel c).fifo.length = 2 then s1.raiseAll .capture else s1
  if (s.channel c).log then s2.logWrite (.mark c v) else s2

/-- An edge at a reference input (R27 to R29, R32, R37; order of log entry 16). During a soft reset period nothing is
captured. -/
def State.refPulse (s : State) (r : Ref) (dir : EdgeDir) : State :=
  if (s.channel r.channel).edge.selects dir then
    let t := s.stamp
    let s1 := (s.modTime (fun u => u.modRef r (RefState.pulse t.mono))).chooseActive
    let s2 := if s1.resetting.isSome then s1 else s1.capture r.channel t
    if s2.time.active = some r then s2.applyPulse t.tod.ns else s2
  else s

/-- Whether 1,500 ms have passed since a reference's last pulse, with a run to lose (R27). -/
def State.refTimeoutDue (s : State) (r : Ref) : Bool :=
  (s.ref r).run != 0 && s.reached ((s.ref r).lastPulse.map (· + 1500000000))

/-- The 1,500 ms timeout of a reference (R27, R28). -/
def State.refTimeout (s : State) (r : Ref) : State :=
  if s.refTimeoutDue r then (s.modTime (fun u => u.modRef r RefState.unqualify)).chooseActive else s

/-- An edge at a marker input (R32); none is captured during a soft reset period (R37). -/
def State.markEdge (s : State) (m : Mark) (dir : EdgeDir) : State :=
  if (s.channel m.channel).edge.selects dir && !s.resetting.isSome then s.capture m.channel s.stamp else s

/-- Whether a role may issue SET CAPTURE for a channel (R31). -/
def Role.mayCapture (role : Role) : Channel → Bool
  | .ref0 => role == .operator
  | .ref1 => role == .operator
  | .mark0 => role == .gateway || role == .operator
  | .mark1 => role == .gateway || role == .operator

/-- The reference behind a capture channel, if it is one (R27). -/
def Channel.ref? : Channel → Option Ref
  | .ref0 => some .ref0
  | .ref1 => some .ref1
  | _ => none

/-- A taken SET CAPTURE (R31, R27): the settings are stored, the FIFO is emptied, and a changed edge setting of a reference
restarts its qualification. -/
def State.storeCapture (s : State) (c : Channel) (edge : EdgeSetting) (source : Source) (log : Bool) : State :=
  let s1 := s.modTime (fun u => u.modChannel c (fun _ => ⟨edge, source, log, [], false⟩))
  match Channel.ref? c with
  | some r =>
    if (s.channel c).edge = edge then s1 else (s1.modTime (fun u => u.modRef r RefState.unqualify)).chooseActive
  | none => s1

/-- SET CAPTURE at the Time Unit (R31): the channel, then the right, then the codes. -/
def State.setCapture (s : State) (role : Role) (a : CaptureArgs) : Except ResultCode State :=
  match Channel.ofCode a.channel with
  | none => .error .argument
  | some c =>
    if role.mayCapture c then
      match EdgeSetting.ofCode a.edge, Source.ofCode a.source, flagOfCode a.log with
      | some edge, some source, some log => .ok (s.storeCapture c edge source log)
      | _, _, _ => .error .argument
    else .error .rights

/-- The response of a READ CAPTURE (R33, R173): status before the read, VALUE or EMPTY, source, and the stamp. -/
def CaptureState.readBytes (c : CaptureState) : List Byte :=
  match c.fifo with
  | v :: _ => leBytes 1 c.status ++ leBytes 1 1 ++ leBytes 1 c.source.code ++ v.bytes
  | [] => leBytes 1 c.status ++ leBytes 1 0 ++ leBytes 1 c.source.code ++ leBytes 8 0

/-- The oldest stamp removed (R33): LOST becomes 1. -/
def CaptureState.pop (c : CaptureState) : CaptureState := { c with fifo := c.fifo.drop 1, lost := false }

/-! ## Marker outputs (2.6) -/

/-- Whether SET MARKER's arguments for a PULSE action are in range (R34). -/
def MarkerArgs.pulseOk (a : MarkerArgs) : Bool :=
  decide (a.ns < 1000000000) && (a.period == 0 || decide (1000 ≤ a.period)) && decide (1 ≤ a.width)
    && (a.period == 0 || decide (a.width * 100 < a.period))

/-- The output a taken SET MARKER leaves (R34): any pulse ended, LATE and the skipped count cleared, a PULSE action armed. -/
def MarkerArgs.program (a : MarkerArgs) (action : MarkerAction) : Marker where
  action := action
  matchAt := ⟨BitVec.ofNat 32 a.sec, a.ns⟩
  period := a.period
  width := a.width
  armed := action.pulses
  late := false
  skipped := 0
  pulseEnd := none

/-- A newly programmed output whose match TOD has already reached is handled at once as a forward step would (R34): TOD
reaches a match when the difference of TOD from it is 0 or more (R19). -/
def Marker.settle (mono : Nat) (tod : Tod) (m : Marker) : Marker :=
  let k := matchesReached m.period (m.since tod)
  if m.armed && decide (1 ≤ k) then m.fireLate mono k k else m

/-- SET MARKER (R34). -/
def State.setMarker (s : State) (a : MarkerArgs) : Except ResultCode State :=
  match Out.ofCode a.out, MarkerAction.ofCode a.action with
  | some o, some action =>
    if action.pulses && !a.pulseOk then .error .argument
    else .ok (s.modTime (fun t => t.modMarker o (fun _ => Marker.settle t.mono t.tod (a.program action))))
  | _, _ => .error .argument

/-- A match of an armed output (R35). -/
def State.markerMatch (s : State) (o : Out) : State :=
  if s.time.matchDue o then s.modTime (fun t => t.modMarker o (Marker.takeMatch t.mono)) else s

/-- The end of a pulse's width (R35). -/
def State.markerPulseEnd (s : State) (o : Out) : State :=
  if s.reached (s.marker o).pulseEnd then s.modTime (fun t => t.modMarker o (fun m => { m with pulseEnd := none })) else s

/-- The Time Unit at the start of a soft reset (R37): FIFOs emptied, marker outputs reset, the rest kept. -/
def TimeUnit.softReset (t : TimeUnit) : TimeUnit :=
  { t with
    channels := t.channels.map (fun c => { c with fifo := [], lost := false })
    markers := Vector.replicate 2 Marker.reset }

end Sys2Proof.Machine
end

