-- ==== Sys2Proof/Machine/Frames.lean ====
section
/-! DEFINITION. The frame check sequence and the layouts of path frames, local frames and delivered frames (1.2, R172). -/

namespace Sys2Proof.Machine

/-- One bit of a byte taken into the check register, least significant first (R4). -/
def crcBit (reg : BitVec 32) (bit : Bool) : BitVec 32 :=
  let out := reg.getLsbD 0 != bit
  if out then (reg >>> 1) ^^^ 0xEDB88320#32 else reg >>> 1

/-- One byte taken into the check register. -/
def crcByte (reg : BitVec 32) (b : Byte) : BitVec 32 :=
  (List.range 8).foldl (fun r i => crcBit r (b.getLsbD i)) reg

/-- The CRC of the bytes of a frame before its last four (R4). -/
def crc (bytes : List Byte) : BitVec 32 := ~~~ (bytes.foldl crcByte 0xFFFFFFFF#32)

/-- A frame closed with its CRC, least significant byte first (R4). -/
def withCrc (bytes : List Byte) : List Byte := bytes ++ leBytes 4 (crc bytes).toNat

/-- The bytes before the last four, when the last four are their CRC (R4). -/
def checkCrc (bytes : List Byte) : Option (List Byte) :=
  if bytes.length < 4 then none
  else
    let body := bytes.take (bytes.length - 4)
    if leNat (bytes.drop (bytes.length - 4)) = (crc body).toNat then some body else none

/-! ## Path frames -/

/-- The code of a path frame's kind (R172). -/
def FrameBody.kindCode : FrameBody → Nat
  | .data _ => 0
  | .beacon _ => 1
  | .probe .. => 2
  | .echo .. => 3

/-- The stream field of the head: the frame's stream for DATA, 0 otherwise (R1). -/
def FrameBody.streamCode : FrameBody → Nat
  | .data c => c.stream.val
  | _ => 0

/-- The added fields of a kind (R172). -/
def FrameBody.bytes : FrameBody → List Byte
  | .data c =>
    leBytes 4 c.seq.toNat ++ c.origin.bytes ++ leBytes 1 c.mask.toNat ++ leBytes 2 c.payload.length ++ c.payload
  | .beacon t => t.bytes
  | .probe tag index => [tag] ++ leBytes 1 index
  | .echo tag index residence => [tag] ++ leBytes 1 index ++ leBytes 4 residence

/-- The head and the added fields of a path frame (R172). -/
def PathFrame.plainBytes (f : PathFrame) : List Byte :=
  [BitVec.ofNat 8 f.body.kindCode, BitVec.ofNat 8 (f.site.toNat + 16 * f.pathId.toNat),
   BitVec.ofNat 8 (f.state.code + 16 * f.quality.code), BitVec.ofNat 8 f.body.streamCode] ++ f.body.bytes

/-- A path frame as it stands on the lane, CRC included (R172). -/
def PathFrame.bytes (f : PathFrame) : List Byte := withCrc f.plainBytes

/-- The added fields of a DATA frame read, with the form checks of R6. -/
def parseData (stream : Nat) (rest : List Byte) : Option FrameBody :=
  match streamOfCode stream with
  | none => none
  | some st =>
    let payload := rest.drop 15
    let mask : PathSet := BitVec.ofNat 5 (leNat ((rest.drop 12).take 1))
    let ns := leNat ((rest.drop 8).take 4)
    let length := leNat ((rest.drop 13).take 2)
    if 15 ≤ rest.length ∧ 1 ≤ length ∧ length ≤ 1408 ∧ length = payload.length ∧ mask ≠ 0 ∧ ns < 1000000000 then
      some (.data ⟨st, BitVec.ofNat 32 (leNat (rest.take 4)), ⟨BitVec.ofNat 32 (leNat ((rest.drop 4).take 4)), ns⟩,
        mask, payload⟩)
    else none

/-- The added fields of a path frame read by kind, with the form checks of R6: `none` where they are not well formed. -/
def parseBody (kind stream : Nat) (rest : List Byte) : Option FrameBody :=
  match kind with
  | 0 => parseData stream rest
  | 1 =>
    let ns := leNat ((rest.drop 4).take 4)
    if rest.length = 8 ∧ ns < 1000000000 then some (.beacon ⟨BitVec.ofNat 32 (leNat (rest.take 4)), ns⟩) else none
  | 2 =>
    match rest with
    | [tag, index] => if index.toNat ≤ 15 then some (.probe tag index.toNat) else none
    | _ => none
  | 3 =>
    match rest with
    | [tag, index, r0, r1, r2, r3] =>
      if index.toNat ≤ 15 then some (.echo tag index.toNat (leNat [r0, r1, r2, r3])) else none
    | _ => none
  | _ => none

/-- The head read and the body with it (R6, R172), after the CRC has been taken off. -/
def parsePlain : List Byte → Option PathFrame
  | kind :: ids :: sender :: stream :: rest =>
    match LocalState.ofCode (sender.toNat % 16), Quality.ofCode (sender.toNat / 16), parseBody kind.toNat stream.toNat rest with
    | some state, some quality, some body =>
      some ⟨BitVec.ofNat 4 (ids.toNat % 16), BitVec.ofNat 4 (ids.toNat / 16), state, quality, body⟩
    | _, _, _ => none
  | _ => none

/-- The first receive check (R6): a frame whose CRC matches and whose contents are well formed. -/
def parsePathFrame (bytes : List Byte) : Option PathFrame := (checkCrc bytes).bind parsePlain

/-! ## Local frames -/

/-- A local frame's stream and payload, if it is well formed (R17, R93, R172). -/
def parseLocalFrame (bytes : List Byte) : Option (StreamId × List Byte) :=
  match checkCrc bytes with
  | some (st :: l0 :: l1 :: payload) =>
    let length := leNat [l0, l1]
    match streamOfCode st.toNat with
    | some stream =>
      if 1 ≤ length ∧ length ≤ 1408 ∧ length = payload.length then some (stream, payload) else none
    | none => none
  | _ => none

/-- A local frame as the trading network sends it (R17, R172). -/
def localFrameBytes (stream : StreamId) (payload : List Byte) : List Byte :=
  withCrc (leBytes 1 stream.val ++ leBytes 2 payload.length ++ payload)

/-- A delivered frame on the local lane: stream, length, payload, trailer and CRC (R17, R172). -/
def DeliveredFrame.bytes (f : DeliveredFrame) : List Byte :=
  withCrc (leBytes 1 f.stream.val ++ leBytes 2 f.payload.length ++ f.payload ++ leBytes 4 f.seq.toNat
    ++ leBytes 1 f.path.code ++ f.arrival.bytes)

end Sys2Proof.Machine
end

