-- ==== Sys2Proof/Machine/Transmit.lean ====
section
/-! DEFINITION. The path transmitter: its arbiter, the start and end of a transmission, the beacon wait, the flush, and the
withdrawal of a probe (1.4). -/

namespace Sys2Proof.Machine

/-- Residence: MONO at the echo's transmit start less the PROBE's arrival, saturated at 4,294,967,295 (R3, R157). -/
def PendingEcho.residence (e : PendingEcho) (mono : Nat) : Nat := min max32 (mono - e.arrival)

/-- The item a transmitter's arbiter takes first, with the transmitter it leaves (R14): pending echo, pending probe, head
DATA copy, then a beacon whose wait has ended. -/
def Transmitter.choose (t : Transmitter) (mono : Nat) (tod : Tod) : Option (FrameBody × Transmitter) :=
  match t.echo, t.probe, t.queue with
  | some e, _, _ => some (.echo e.tag e.index (e.residence mono), { t with echo := none })
  | none, some k, _ => some (.probe k.tag k.index, { t with probe := none })
  | none, none, c :: rest => some (.data c, { t with queue := rest })
  | none, none, [] => if t.beacon = .ended then some (.beacon tod, t) else none

/-- The head filled at transmit start (R1): site, path, local state and time quality of that instant. -/
def State.fillHead (s : State) (p : Path) (body : FrameBody) : PathFrame :=
  ⟨s.siteId, BitVec.ofNat 4 p.code, (s.entry p).state, s.time.quality, body⟩

/-- The transmit start of a PROBE (R146): its MONO is t1, and the probe becomes outstanding. -/
def Sounding.probeStarted (x : Sounding) (index mono : Nat) : Sounding :=
  { x with
    pendingProbe := none
    outstanding := some ⟨index, mono, mono + usToNs x.timeout⟩
    lastT1 := some mono }

/-- The Sounding Unit told of a transmit start: only a PROBE concerns it (R15, R146). -/
def State.startReport (s : State) (body : FrameBody) : State :=
  match body with
  | .probe _ index => s.modSounding (fun x => x.probeStarted index s.time.mono)
  | _ => s

/-- The arbiter of a path's transmitter (R14): with no frame in progress and the path not DISABLED, the first ready item
starts. -/
def State.arbitrate (s : State) (p : Path) : State :=
  let t := s.transmitter p
  if t.inProgress.isSome || (s.entry p).state == .disabled then s
  else match t.choose s.time.mono s.time.tod with
    | some (body, t1) =>
      (s.modTransmitter p (fun _ => { t1 with inProgress := some ⟨s.fillHead p body, false⟩ })).startReport body
    | none => s

/-- The statistics of a completed transmission (R13, R60): tx frames, and probes sent for a PROBE. -/
def Stats.sent (x : Stats) (body : FrameBody) : Stats :=
  match body with
  | .probe .. => { x with txFrames := inc32 x.txFrames, probesSent := inc32 x.probesSent }
  | _ => { x with txFrames := inc32 x.txFrames }

/-- The end of a transmission (R13, R14, R16): it is counted unless a soft reset left it uncounted, the beacon wait starts
afresh on a path that is not DISABLED, and the arbiter chooses again. A frame that was in progress through DISABLE PATH
and ENABLE PATH starts the wait afresh like any other, so no beacon follows it at once (log entry 35). -/
def State.frameTransmitEnd (s : State) (p : Path) : State :=
  match (s.transmitter p).inProgress with
  | none => s
  | some x =>
    let s1 := if x.uncounted then s else s.modStats p (fun st => st.sent x.frame.body)
    let wait := if (s.entry p).state = .disabled then (s.transmitter p).beacon else .running s.time.mono
    (s1.modTransmitter p (fun t => { t with inProgress := none, beacon := wait })).arbitrate p

/-- Whether a running beacon wait has reached its end (R16). -/
def State.beaconDue (s : State) (p : Path) : Bool :=
  match (s.transmitter p).beacon with
  | .running since => decide (since + usToNs s.beaconInterval ≤ s.time.mono)
  | _ => false

/-- The end of a beacon wait (R16). -/
def State.beaconWaitEnd (s : State) (p : Path) : State :=
  if s.beaconDue p then (s.modTransmitter p (fun t => { t with beacon := .ended })).arbitrate p else s

/-- SET LINK (R16): the new interval applies at once to every running wait. -/
def State.setLink (s : State) (us : Nat) : Except ResultCode State :=
  if 10 ≤ us ∧ us ≤ 10000 then .ok (Path.all.foldl State.beaconWaitEnd { s with beaconInterval := us })
  else .error .argument

/-- The flush of a transmit queue on entry to FAILED or DISABLED (R13): each copy removed counts as a flush drop. -/
def State.flush (s : State) (p : Path) : State :=
  let n := (s.transmitter p).queue.length
  (s.modStats p (fun x => { x with flushDrops := satAdd max32 x.flushDrops n })).modTransmitter p
    (fun t => { t with queue := [] })

/-- The transmitter's part of a change of local state (R39): the flush, and on DISABLED also the pending echo discarded and
the beacon wait stopped. -/
def State.transmitterReport (s : State) (p : Path) (new : LocalState) : State :=
  match new with
  | .disabled => (s.flush p).modTransmitter p (fun t => { t with echo := none, beacon := .stopped })
  | .failed => s.flush p
  | _ => s

/-- The echo service (R157): a valid PROBE sets the pending echo of its path, replacing an older one. -/
def State.echoService (s : State) (p : Path) (tag : Byte) (index arrival : Nat) : State :=
  (s.modTransmitter p (fun t => { t with echo := some ⟨tag, index, arrival⟩ })).arbitrate p

/-- A pending probe withdrawn from its transmitter and an outstanding probe abandoned, counted neither valid nor lost
(R15, R151 to R154). -/
def State.abandonProbe (s : State) : State :=
  let s1 := match s.sounding.pendingProbe, s.sounding.current with
    | some _, some p => s.modTransmitter p (fun t => { t with probe := none })
    | _, _ => s
  s1.modSounding (fun x => { x with pendingProbe := none, outstanding := none })

end Sys2Proof.Machine
end

