-- ==== Sys2Proof/Machine/RouteSelector.lean ====
section
/-! DEFINITION. The Route Selector: eligibility, rank order, the selection steps, the guard, the dispatch set, and its
reports (chapters 4.5 and 5, R55, R154). -/

namespace Sys2Proof.Machine

/-- Whether a path may carry dispatched traffic (R55). -/
def PathEntry.eligible (p : Path) (e : PathEntry) : Bool :=
  if p = .f then e.state == .active && (e.farState == some .active || e.farState == some .recovering)
  else (e.state == .active || e.state == .fading)
    && (e.farState == some .active || e.farState == some .fading || e.farState == some .recovering)

/-- Whether a path may become primary by improvement (R55). -/
def PathEntry.promotable (p : Path) (e : PathEntry) : Bool :=
  if p = .f then e.state == .active && e.farState == some .active
  else e.state == .active && (e.farState == some .active || e.farState == some .fading)

def State.eligible (s : State) (p : Path) : Bool := (s.entry p).eligible p
def State.promotable (s : State) (p : Path) : Bool := (s.entry p).promotable p
def State.effDelay (s : State) (p : Path) : Nat := (s.entry p).effDelay

/-- A path inserted before the first path of no smaller E. -/
def insertByDelay (key : Path → Nat) (p : Path) : List Path → List Path
  | [] => [p]
  | q :: rest => if key p ≤ key q then p :: q :: rest else q :: insertByDelay key p rest

/-- Paths sorted by ascending E, equal E in the order given. -/
def sortByDelay (key : Path → Nat) (l : List Path) : List Path := l.foldr (insertByDelay key) []

/-- The rank order (R75): the eligible paths by E, ties to the lower index, then the others in index order. -/
def State.rankOrder (s : State) : List Path :=
  sortByDelay s.effDelay (Path.all.filter s.eligible) ++ Path.all.filter (fun p => !s.eligible p)

/-- The first promotable path of a rank order (R75). -/
def State.bestPromotable (s : State) (rank : List Path) : Option Path := rank.find? s.promotable

/-- The first path of a rank order, when it is eligible (R75). -/
def State.bestEligible (s : State) (rank : List Path) : Option Path := rank.head?.filter s.eligible

/-- Whether the pin step applies, and the path it names (R79). -/
def State.actingPin (s : State) : Option Path := s.selector.pin.filter s.eligible

/-- The fallback step (R80): the best promotable path, else the best eligible path, else NONE, with the kind of change. -/
def State.fallbackStep (s : State) (rank : List Path) : Option (Option Path × ChangeKind) :=
  let new := (s.bestPromotable rank).or (s.bestEligible rank)
  match s.selector.primary, new with
  | none, some q => some (some q, .first)
  | some _, some q => some (some q, .fallback)
  | some _, none => some (none, .loss)
  | none, none => none

/-- The improvement step (R81): the first promotable path other than the primary, if its E plus H is less. -/
def State.improveStep (s : State) (rank : List Path) (primary : Path) : Option (Option Path × ChangeKind) :=
  match rank.find? (fun q => s.promotable q && q != primary) with
  | some q =>
    if s.effDelay q + s.selector.hysteresis < s.effDelay primary then some (some q, .improve) else none
  | none => none

/-- The selection steps in order: pin, fallback, improvement (R78 to R81); `none` keeps the primary. A pinned path that
becomes eligible while the primary is NONE is taken with kind PIN (R79; log entry 38). -/
def State.selectPrimary (s : State) (rank : List Path) : Option (Option Path × ChangeKind) :=
  match s.actingPin with
  | some q => if s.selector.primary = some q then none else some (some q, .pin)
  | none =>
    match s.selector.primary.filter s.eligible with
    | some x => s.improveStep rank x
    | none => s.fallbackStep rank

/-- The guard after a change of primary from `old` to `new`: the first line of R83's table that matches. -/
def State.guardAfter (s : State) (old new : Option Path) : Option Guard :=
  if new.isSome && new == s.selector.guard.map Guard.path then none
  else match old with
    | none => none
    | some x =>
      if s.selector.guardTime = 0 then none
      else if s.eligible x then some ⟨x, s.time.mono + usToNs s.selector.guardTime⟩
      else none

/-- A FALLBACK or LOSS report at the Sounding Unit (R154). -/
def State.fallbackReport (s : State) : State :=
  if s.sounding.settle = 0 then s
  else
    let deadline := s.time.mono + msToNs s.sounding.settle
    match s.sounding.state, s.sounding.reason with
    | .running, _ =>
      s.abandonProbe.modSounding
        (fun x => { x with state := .suspended, reason := some .fallback, settleDeadline := some deadline })
    | .suspended, some .fallback => s.modSounding (fun x => { x with settleDeadline := some deadline })
    | _, _ => s

/-- A change of primary with its guard update and its reports (R78 step 4, R82, R83). -/
def State.changePrimary (s : State) (new : Option Path) (kind : ChangeKind) : State :=
  let old := s.selector.primary
  let s1 := s.modSelector (fun x => { x with primary := new, guard := s.guardAfter old new })
  let s2 := (s1.logWrite (.primary old new kind (old.map s.effDelay) (new.map s.effDelay))).raiseAll .primary
  match kind with
  | .fallback => s2.fallbackReport
  | .loss => s2.fallbackReport
  | _ => s2

/-- The dispatch set (R85): primary, width paths, F under the fibre shadow, and the guard-held path. -/
def State.dispatchSetOf (s : State) : PathSet :=
  match s.selector.primary with
  | none => 0
  | some x =>
    let width := (s.selector.rank.filter (fun q => s.eligible q && q != x)).take s.selector.widthCode
    let shadow := if s.selector.shadow && s.eligible .f then [Path.f] else []
    PathSet.ofList ([x] ++ width ++ shadow ++ (s.selector.guard.map Guard.path).toList)

/-- A re-evaluation of the Route Selector (R78): rank order, guard check, selection, guard update and reports, dispatch
set. -/
def State.reEvaluate (s : State) : State :=
  let rank := s.rankOrder
  let s1 := s.modSelector (fun x =>
    { x with rank := rank, guard := x.guard.filter (fun g => s.eligible g.path) })
  let s2 := match s1.selectPrimary rank with
    | some (new, kind) => s1.changePrimary new kind
    | none => s1
  s2.modSelector (fun x => { x with dispatchSet := s2.dispatchSetOf })

/-- The guard deadline passes (R84): the guard ends and the selector re-evaluates. -/
def State.guardExpiry (s : State) : State :=
  if s.reached (s.selector.guard.map Guard.deadline) then
    (s.modSelector (fun x => { x with guard := none })).reEvaluate
  else s

/-- SET SELECTION (R87). -/
def State.setSelection (s : State) (a : SelectionArgs) : Except ResultCode State :=
  match flagOfCode a.shadow with
  | none => .error .argument
  | some shadow =>
    if a.widthCode ≤ 4 then
      .ok (s.modSelector (fun x =>
        { x with
          hysteresis := a.hysteresis, widthCode := a.widthCode, shadow := shadow, guardTime := a.guardTime })).reEvaluate
    else .error .argument

/-- PIN PRIMARY (R88). -/
def State.pinPrimary (s : State) (index : Nat) : Except ResultCode State :=
  match Path.ofIndex index with
  | none => .error .argument
  | some p => .ok (s.modSelector (fun x => { x with pin := some p })).reEvaluate

/-- UNPIN PRIMARY (R89): with no pin set it has no effect. -/
def State.unpinPrimary (s : State) : State :=
  if s.selector.pin.isSome then (s.modSelector (fun x => { x with pin := none })).reEvaluate else s

end Sys2Proof.Machine
end

