-- ==== Sys2Proof/Machine/PathTable.lean ====
section
/-! DEFINITION. The Path Table's arithmetic and scores: rain and loss penalties, effective delay, smoothed delay, miss score,
burst reports and retire reports (chapter 4, R56, R57, R59). -/

namespace Sys2Proof.Machine

/-- The active bank of an entry (R38). -/
def PathEntry.bank (e : PathEntry) : Bank := if e.bankOne then e.bank1 else e.bank0

/-- The margin in force: path F has none (R38, R43). -/
def PathEntry.marginOf (p : Path) (e : PathEntry) : Option Int := if p = .f then none else e.margin

/-- The rain penalty P (R69). -/
def PathEntry.rainPenalty (p : Path) (e : PathEntry) : Nat :=
  match e.marginOf p with
  | none => 0
  | some m => if e.bank.k ≤ m then 0 else min e.bank.pmax ((e.bank.k - m).toNat * e.bank.s)

/-- The loss penalty L (R71). -/
def PathEntry.lossPenalty (e : PathEntry) : Nat := e.score * e.lossWeight

/-- The effective delay E as R72 forms it. -/
def PathEntry.formDelay (p : Path) (e : PathEntry) : Nat :=
  match e.delay with
  | none => maxDelay
  | some d => min maxDelay (d + e.rainPenalty p + e.lossPenalty)

/-- E recomputed within an input; a changed E is stored and reported to the Route Selector (R73). -/
def State.recomputeDelay (s : State) (p : Path) : State :=
  let new := (s.entry p).formDelay p
  if new = (s.entry p).effDelay then s else (s.modEntry p (fun e => { e with effDelay := new })).reEvaluate

/-- A sample applied to D (R65, R66): a seeding sample becomes D; otherwise D moves by the floored shifted difference, the
shift being the weight code plus one. -/
def applySample (weight : Nat) (delay : Option Nat) (x : Nat) : Nat :=
  match delay with
  | none => x
  | some d => ((d : Int) + ((x : Int) - (d : Int)) / (2 ^ (weight + 1) : Nat)).toNat

/-- The score after a hit (R56). -/
def scoreHit (n : Nat) : Nat := n - n / 16
/-- The score after a miss (R56). The operations do not commute, so two of them that fall together can leave another score
in the other order, beyond the exceptions R74 lists (log entry 37). -/
def scoreMiss (n : Nat) : Nat := min 255 (n + 32)
/-- The score after a decay (R56). -/
def scoreDecayed (n : Nat) : Nat := n - n / 8
/-- The score after a failed burst (R56). -/
def scoreFailed (n : Nat) : Nat := min 255 (n + 64)
/-- The score after a good burst (R56); it does not commute with a miss (log entry 37). -/
def scoreGood (n : Nat) : Nat := n / 2

/-- An operation on a path's miss score, with E recomputed (R56), in the order the inputs are taken (log entry 37). -/
def State.modScore (s : State) (p : Path) (g : Nat → Nat) : State :=
  (s.modEntry p (fun e => { e with score := g e.score })).recomputeDelay p

/-- A hit or a miss for one path of a retire report (R57); a DISABLED path and a path outside the mask are passed over. -/
def State.retirePath (mask seen : PathSet) (s : State) (p : Path) : State :=
  if mask.has p && (s.entry p).state != .disabled then
    s.modScore p (if seen.has p then scoreHit else scoreMiss)
  else s

/-- A retire report taken by the Path Table (R57): the paths of the mask in index order. -/
def State.retireReport (s : State) (mask seen : PathSet) : State := Path.all.foldl (State.retirePath mask seen) s

/-- A burst report taken by the Path Table (R59), for OK with its sample: the state after it, and whether the sample was
held by the lock. -/
def State.burstReport (s : State) (p : Path) (result : BurstResult) (sample : Nat) : State × Bool :=
  match result with
  | .ok =>
    let lockedNow := (s.entry p).locked
    ((s.modEntry p (fun e =>
      { e with
        score := scoreGood e.score
        delay := if e.locked then e.delay else some (applySample e.weight e.delay sample) })).recomputeDelay p, lockedNow)
  | .failed => (s.modScore p scoreFailed, false)
  | .aborted => (s, false)
  | .skipped => (s, false)

/-- A score decay period has ended (R58). -/
def State.decayDue (s : State) (p : Path) : Bool := s.reached (some (s.entry p).decayDeadline)

/-- The end of a score decay period (R58): the next begins at once, and the score decays. -/
def State.scoreDecay (s : State) (p : Path) : State :=
  if s.decayDue p then
    (s.modEntry p (fun e => { e with decayDeadline := e.decayDeadline + msToNs e.decayInterval })).modScore p scoreDecayed
  else s

end Sys2Proof.Machine
end

