-- ==== Sys2Proof/Machine/SoundingUnit.lean ====
section
/-! DEFINITION. The Sounding Unit: the sweep, its turns, bursts, probes and echoes, suspension and resumption (chapter 9). -/

namespace Sys2Proof.Machine

/-- The number of probes of a burst (R143). -/
def Sounding.burstLength (x : Sounding) : Nat := x.countCode + 1

/-- Probe k of the current burst issued: set pending at the path's transmitter, whose arbiter then runs (R146, R15). -/
def State.issueProbe (s : State) (p : Path) : State :=
  let k := s.sounding.probeIndex
  ((s.modTransmitter p (fun t => { t with probe := some ⟨s.sounding.tag, k⟩ })).modSounding
    (fun x => { x with pendingProbe := some k, probeIndex := k + 1 })).arbitrate p

/-- The end of the sweep (R145): IDLE, with SWEEP attention. The probe index, the samples and last t1 stay as the last
burst left them (log entry 40). -/
def State.endSweep (s : State) : State :=
  (s.modSounding (fun x =>
    { x with state := .idle, reason := none, settleDeadline := none, current := none })).raiseAll .sweep

/-- A burst begins on a path (R145): samples cleared, probe 0 issued at once. -/
def State.beginBurst (s : State) (p : Path) : State :=
  (s.modSounding (fun x =>
    { x with
      current := some p, probeIndex := 0, minimum := none, valid := 0, lost := 0, lastT1 := none })).issueProbe p

/-- The next path's turn (R145): a DISABLED or FAILED path is skipped with its SOUND record and the turn passes on; another
begins a burst; with no paths left the sweep ends. `fuel` bounds the paths passed over. -/
def State.pathTurn : Nat → State → State
  | 0, s => s
  | fuel + 1, s =>
    match s.sounding.remaining.lowest with
    | none => s.endSweep
    | some p =>
      let s1 := s.modSounding (fun x => { x with remaining := x.remaining.remove p })
      match (s1.entry p).state with
      | .disabled => State.pathTurn fuel (s1.logWrite (.sound p .skipped 0 0 none (s1.entry p).delay false))
      | .failed => State.pathTurn fuel (s1.logWrite (.sound p .skipped 0 0 none (s1.entry p).delay false))
      | _ => s1.beginBurst p

/-- At most five paths and the end of the sweep. -/
def turnFuel : Nat := 6

/-- A burst ends (R150): the burst report, the SOUND record, then the next turn while RUNNING, or the end of the sweep.
The probe index, the samples and last t1 stay until the next burst begins (log entry 40). -/
def State.endBurst (s : State) (p : Path) (result : BurstResult) : State :=
  let x := s.sounding
  let r := s.burstReport p result (x.minimum.getD 0)
  let s1 := r.1.logWrite (.sound p result x.valid x.lost x.minimum (r.1.entry p).delay r.2)
  let s2 := s1.modSounding (fun x => { x with current := none })
  if s2.sounding.remaining = 0 then s2.endSweep
  else if s2.sounding.state = .running then s2.pathTurn turnFuel
  else s2

/-- OK with one valid sample or more, otherwise the given result (R150, R151). -/
def Sounding.result (x : Sounding) (otherwise : BurstResult) : BurstResult := if 1 ≤ x.valid then .ok else otherwise

/-- Whether the spacing since the last t1 has passed (R146). -/
def State.spacingReached (s : State) : Bool :=
  match s.sounding.lastT1 with
  | none => true
  | some t1 => decide (t1 + usToNs s.sounding.spacing ≤ s.time.mono)

/-- A RUNNING sweep goes on after a probe has ended (R146, R150): the burst ends after its last probe; otherwise the next
probe is issued if its spacing has passed, and waits if not. -/
def State.continueBurst (s : State) : State :=
  match s.sounding.current with
  | none => s
  | some p =>
    if s.sounding.burstLength ≤ s.sounding.probeIndex then s.endBurst p (s.sounding.result .failed)
    else if s.spacingReached then s.issueProbe p
    else s

/-- Whether a next probe is due by its spacing alone (R146): the sweep is RUNNING, and the burst's previous probe has ended
with probes left. -/
def State.probeIssueDue (s : State) : Bool :=
  s.sounding.state == .running && s.sounding.current.isSome && s.sounding.pendingProbe.isNone
    && s.sounding.outstanding.isNone && decide (s.sounding.probeIndex < s.sounding.burstLength) && s.spacingReached

/-- The spacing has passed with the previous probe ended (R146). -/
def State.probeIssue (s : State) : State := if s.probeIssueDue then s.continueBurst else s

/-- The timeout deadline of the outstanding probe has been reached (R149). -/
def State.probeTimeoutDue (s : State) : Bool := s.reached (s.sounding.outstanding.map Outstanding.deadline)

/-- The outstanding probe is lost (R149). -/
def State.probeTimeout (s : State) : State :=
  if s.probeTimeoutDue then
    match s.sounding.current with
    | some p =>
      ((s.modSounding (fun x => { x with outstanding := none, lost := x.lost + 1 })).modStats p
        (fun x => { x with probesLost := inc32 x.probesLost })).continueBurst
    | none => s
  else s

/-- Whether an ECHO matches the outstanding probe (R147). -/
def Sounding.echoMatches (x : Sounding) (p : Path) (tag : Byte) (index : Nat) : Bool :=
  x.current == some p && x.tag == tag && (x.outstanding.map Outstanding.index) == some index

/-- The one-way delay of a valid probe (R148): half the round trip less the residence, floored and clamped. -/
def oneWaySample (round residence : Nat) : Nat := min maxDelay ((round - residence) / 2)

/-- A matching ECHO judged (R148). -/
def State.judgeEcho (s : State) (p : Path) (round residence : Nat) : State :=
  if round ≤ residence then
    ((s.modSounding (fun x => { x with outstanding := none })).modStats p
      (fun x => { x with probesInvalid := inc32 x.probesInvalid })).continueBurst
  else
    let sample := oneWaySample round residence
    ((s.modSounding (fun x =>
      { x with
        outstanding := none, valid := x.valid + 1
        minimum := some (match x.minimum with | none => sample | some m => min m sample) })).modStats p
      (fun x => { x with probesValid := inc32 x.probesValid })).continueBurst

/-- An ECHO taken by the sweep (R147, R148): a stale one is counted and discarded. -/
def State.takeEcho (s : State) (p : Path) (tag : Byte) (index residence t4 : Nat) : State :=
  match s.sounding.outstanding with
  | some o =>
    if s.sounding.echoMatches p tag index then s.judgeEcho p (t4 - o.t1) residence
    else s.modSounding (fun x => { x with stale := inc32 x.stale })
  | none => s.modSounding (fun x => { x with stale := inc32 x.stale })

/-- A change of a path's local state reported to the Sounding Unit (R151): the burst of the current path is aborted on
DISABLED and closed on FAILED. -/
def State.soundingReport (s : State) (p : Path) (new : LocalState) : State :=
  if s.sounding.current = some p then
    match new with
    | .disabled => s.abandonProbe.endBurst p .aborted
    | .failed => s.abandonProbe.endBurst p (s.sounding.result .aborted)
    | _ => s
  else s

/-- A suspended sweep resumes (R152): it goes on with its burst, ends it, or gives the next path its turn. -/
def State.resume (s : State) : State :=
  let s1 := s.modSounding (fun x => { x with state := .running, reason := none, settleDeadline := none })
  if s1.sounding.current.isSome then s1.continueBurst else s1.pathTurn turnFuel

/-- RESUME SWEEP (R152). -/
def State.resumeSweep (s : State) : State := if s.sounding.state = .suspended then s.resume else s

/-- SUSPEND SWEEP (R152). -/
def State.suspendSweep (s : State) : State :=
  if s.sounding.state = .running then
    s.abandonProbe.modSounding
      (fun x => { x with state := .suspended, reason := some .command, settleDeadline := none })
  else s

/-- The settle deadline of a sweep suspended on fallback has been reached (R154). -/
def State.settleDue (s : State) : Bool :=
  s.sounding.state == .suspended && s.sounding.reason == some .fallback && s.reached s.sounding.settleDeadline

/-- The settle deadline passes (R154). -/
def State.settleDeadline (s : State) : State := if s.settleDue then s.resume else s

/-- CANCEL SWEEP (R153): a burst in progress is aborted with its SOUND record; the sweep ends. -/
def State.cancelSweep (s : State) : State :=
  if s.sounding.state = .idle then s
  else
    let s1 := match s.sounding.current with
      | some p =>
        let s0 := s.abandonProbe
        s0.logWrite (.sound p .aborted s0.sounding.valid s0.sounding.lost s0.sounding.minimum (s0.entry p).delay false)
      | none => s
    (s1.modSounding (fun x => { x with remaining := 0 })).endSweep

/-- START SWEEP (R144): ARGUMENT, then BUSY, then the sweep starts and the first path's turn comes at once. It clears the
samples; the probe index and last t1 change when a burst begins (R145; log entry 40). -/
def State.startSweep (s : State) (a : SweepArgs) : Except ResultCode State :=
  if a.pathSet = 0 ∨ 32 ≤ a.pathSet ∨ 15 < a.countCode ∨ a.spacing < 10 then .error .argument
  else if s.sounding.isActive then .error .busy
  else
    .ok ((s.modSounding (fun x =>
      { x with
        state := .running
        reason := none
        settleDeadline := none
        tag := x.tag + 1
        pathSet := BitVec.ofNat 5 a.pathSet
        remaining := BitVec.ofNat 5 a.pathSet
        countCode := a.countCode
        spacing := a.spacing
        timeout := max 1 a.timeout
        settle := a.settle
        minimum := none
        valid := 0
        lost := 0 })).pathTurn turnFuel)

/-- Whether a path is held by the sweep (R155). -/
def State.heldBySweep (s : State) (p : Path) : Bool := s.sounding.isActive && s.sounding.current == some p

/-- SET BASE DELAY (R67, R155): ARGUMENT, then BUSY, then D takes the value and E is recomputed. Two of them for one path
leave the D and E of the one taken second (log entry 43). -/
def State.setBaseDelay (s : State) (index delay : Nat) : Except ResultCode State :=
  match Path.ofIndex index with
  | none => .error .argument
  | some p =>
    if maxDelay < delay then .error .argument
    else if s.heldBySweep p then .error .busy
    else .ok ((s.modEntry p (fun e => { e with delay := some delay })).recomputeDelay p)

end Sys2Proof.Machine
end

