-- ==== Sys2Proof/Machine/PathStates.lean ====
section
/-! DEFINITION. Path states: a change of local state and its reports, the evaluation of a path, and the inputs of the Path
Table that drive them (chapter 3). -/

namespace Sys2Proof.Machine

/-- A change of local state with all its effects in order (R39): entry fields, STATE record, PATH attention, Route Selector,
transmitter, Sounding Unit. Entry to RECOVERING starts the recover hold and any other state leaves none (R46, entry 23). -/
def State.setLocalState (s : State) (p : Path) (new : LocalState) (reason : Reason) : State :=
  let e := s.entry p
  let s1 := s.modEntry p (fun e =>
    { e with
      state := new
      reason := reason
      entered := s.time.mono
      holdDeadline := if new = .recovering then some (s.time.mono + msToNs e.recoverHold) else none })
  let s2 := (s1.logWrite (.state p e.state new reason (e.marginOf p))).raiseAll .path
  (s2.reEvaluate.transmitterReport p new).soundingReport p new

/-- "margin < t": false when NOT REPORTED (R42). -/
def marginBelow (m : Option Int) (t : Int) : Bool :=
  match m with
  | some m => decide (m < t)
  | none => false

/-- "margin ≥ t": true when NOT REPORTED (R42). -/
def marginAtLeast (m : Option Int) (t : Int) : Bool := !marginBelow m t

/-- Errors exhausted: the window's count is at or above the limit (R42, R45). -/
def PathEntry.exhausted (e : PathEntry) : Bool :=
  match e.window with
  | some w => decide (e.errorLimit ≤ w.count)
  | none => false

/-- Silent: the silence timer is not RUNNING (R42). -/
def SilenceTimer.silent : SilenceTimer → Bool
  | .running _ => false
  | _ => true

/-- The transition an evaluation makes from the current state, with its reason, in the order of R44's tests (R42; for path
F, R43, the margin is never reported). -/
def State.transition (s : State) (p : Path) : Option (LocalState × Reason) :=
  let e := s.entry p
  let m := e.marginOf p
  let silent := (s.receiver p).silence.silent
  match e.state with
  | .disabled => none
  | .failed =>
    if !silent && !e.exhausted && marginAtLeast m e.bank.rc then some (.recovering, e.reason) else none
  | .recovering =>
    if silent then some (.failed, .silence)
    else if e.exhausted then some (.failed, .errors)
    else if marginBelow m e.bank.rc then some (.failed, .margin)
    else if s.reached e.holdDeadline then some (.active, e.reason)
    else none
  | .active =>
    if silent then some (.failed, .silence)
    else if e.exhausted then some (.failed, .errors)
    else if marginBelow m e.bank.fl then some (.failed, .margin)
    else if marginBelow m e.bank.wn then some (.fading, .margin)
    else none
  | .fading =>
    if silent then some (.failed, .silence)
    else if e.exhausted then some (.failed, .errors)
    else if marginBelow m e.bank.fl then some (.failed, .margin)
    else if marginAtLeast m e.bank.k then some (.active, .margin)
    else none

/-- An evaluation with a bound on its transitions (R44). -/
def State.evaluateUpTo : Nat → State → Path → State
  | 0, s, _ => s
  | n + 1, s, p =>
    match s.transition p with
    | some (new, reason) => State.evaluateUpTo n (s.setLocalState p new reason) p
    | none => s

/-- An evaluation of a path: transitions until none holds, at most three (R44). -/
def State.evaluate (s : State) (p : Path) : State := s.evaluateUpTo 3 p

/-! ## Reports of the receivers -/

/-- The far state set, and a change of it reported to the Route Selector (R10, R12). -/
def State.setFar (s : State) (p : Path) (state : Option LocalState) (quality : Option Quality) : State :=
  let s1 := s.modEntry p (fun e => { e with farState := state, farQuality := quality })
  if (s.entry p).farState = state then s1 else s1.reEvaluate

/-- A valid-frame report (R10; order of log entry 14). -/
def State.validFrame (s : State) (p : Path) (arrival : Nat) (state : LocalState) (quality : Quality) : State :=
  let s1 := s.modReceiver p
    (fun r => { r with silence := .running (arrival + usToNs (s.entry p).silenceTimeout) })
  let s2 := s1.modStats p (fun x => { x with rxValid := inc32 x.rxValid })
  (s2.setFar p (some state) (some quality)).evaluate p

/-- A check error (R6, R45): counted in the statistic, and in the error window of a path that is not DISABLED, which is then
evaluated. -/
def State.checkError (s : State) (p : Path) : State :=
  let s1 := s.modStats p (fun x => { x with checkErrors := inc32 x.checkErrors })
  if (s.entry p).state = .disabled then s1
  else
    (s1.modEntry p (fun e =>
      { e with window := e.window.map (fun w => { w with count := satAdd max16 w.count 1 }) })).evaluate p

/-- The silence deadline of a path has been reached (R12). -/
def State.silenceDue (s : State) (p : Path) : Bool :=
  match (s.receiver p).silence with
  | .running d => decide (d ≤ s.time.mono)
  | _ => false

/-- The silence deadline passes (R12, R46): EXPIRED, far state and quality UNKNOWN, then the evaluation. -/
def State.silenceExpiry (s : State) (p : Path) : State :=
  if s.silenceDue p then
    ((s.modReceiver p (fun r => { r with silence := .expired })).setFar p none none).evaluate p
  else s

/-- The error window of a path has reached its end (R45). -/
def State.windowDue (s : State) (p : Path) : Bool := s.reached ((s.entry p).window.map ErrorWindow.endAt)

/-- The end of an error window (R45): the next begins at that moment with a count of 0, and the path is evaluated. -/
def State.windowEnd (s : State) (p : Path) : State :=
  if s.windowDue p then
    (s.modEntry p (fun e =>
      { e with window := e.window.map (fun w => ⟨w.endAt, w.endAt + msToNs e.windowLength, 0⟩) })).evaluate p
  else s

/-- The recover hold of a RECOVERING path has expired (R46). -/
def State.holdDue (s : State) (p : Path) : Bool :=
  (s.entry p).state == .recovering && s.reached (s.entry p).holdDeadline

/-- The expiry of the recover hold (R46). -/
def State.recoverHoldExpiry (s : State) (p : Path) : State := if s.holdDue p then s.evaluate p else s

/-- The margin report timeout of a path has been reached (R48). -/
def State.reportDue (s : State) (p : Path) : Bool := s.reached (s.entry p).reportDeadline

/-- The report timeout passes (R48): STALE and PATH attention, and nothing else; it does not run again until the next
report. -/
def State.reportExpiry (s : State) (p : Path) : State :=
  if s.reportDue p then (s.modEntry p (fun e => { e with stale := true, reportDeadline := none })).raiseAll .path else s

/-! ## Commands of the Path Table -/

/-- Whether a command bound by a lock is refused LOCKED (R54). -/
def State.lockBinds (s : State) (role : Role) (p : Path) : Bool := role == .supervisor && (s.entry p).locked

/-- A DISABLED path enabled (R40, R45, R12, R16; order of log entry 24). -/
def State.enable (s : State) (p : Path) : State :=
  let s1 := s.setLocalState p .failed .starting
  let s2 := s1.modEntry p (fun e =>
    { e with window := some ⟨s.time.mono, s.time.mono + msToNs e.windowLength, 0⟩ })
  let s3 := s2.modReceiver p (fun r => { r with silence := .expired })
  (s3.modTransmitter p (fun t => { t with beacon := .ended })).arbitrate p

/-- ENABLE PATH (R40). -/
def State.enablePath (s : State) (role : Role) (index : Nat) : Except ResultCode State :=
  match Path.ofIndex index with
  | none => .error .argument
  | some p =>
    if s.lockBinds role p then .error .locked
    else if (s.entry p).state = .disabled then .ok (s.enable p)
    else .ok s

/-- A path taken out of service (R41; order of log entry 24). -/
def State.disable (s : State) (p : Path) : State :=
  let s1 := (s.setLocalState p .disabled .operator).setFar p none none
  let s2 := s1.modReceiver p (fun r => { r with silence := .stopped })
  s2.modEntry p (fun e => { e with window := none })

/-- DISABLE PATH (R41). -/
def State.disablePath (s : State) (role : Role) (index : Nat) : Except ResultCode State :=
  match Path.ofIndex index with
  | none => .error .argument
  | some p =>
    if s.lockBinds role p then .error .locked
    else if (s.entry p).state = .disabled then .ok s
    else .ok (s.disable p)

/-- SET PATH TIMERS (R51). -/
def State.setPathTimers (s : State) (a : PathTimersArgs) : Except ResultCode State :=
  match Path.ofIndex a.path with
  | none => .error .argument
  | some p =>
    if 100 ≤ a.silence ∧ a.silence ≤ 100000 ∧ 1 ≤ a.window ∧ a.window ≤ 65535 ∧ 1 ≤ a.limit ∧ a.limit ≤ 65535
        ∧ a.hold ≤ 65535 ∧ 100 ≤ a.report ∧ a.report ≤ 60000 then
      .ok ((s.modEntry p (fun e =>
        { e with
          silenceTimeout := a.silence, windowLength := a.window, errorLimit := a.limit, recoverHold := a.hold
          reportTimeout := a.report })).evaluate p)
    else .error .argument

/-- A radio path of an index: path F and an index above 4 name none (R47, R49, R50). -/
def radioPath (index : Nat) : Option Path := (Path.ofIndex index).filter (fun p => p != .f)

/-- A threshold bank replaced (R49). -/
def PathEntry.setBank (e : PathEntry) (bankOne : Bool) (b : Bank) : PathEntry :=
  if bankOne then { e with bank1 := b } else { e with bank0 := b }

/-- The order a bank's thresholds must have (R49). -/
def Bank.ordered (b : Bank) : Bool := decide (b.fl < b.wn ∧ b.wn ≤ b.k ∧ b.fl < b.rc)

/-- SET THRESHOLDS (R49). Two of them for one active bank leave the E of the one taken second (log entry 43). -/
def State.setThresholds (s : State) (a : ThresholdArgs) : Except ResultCode State :=
  match radioPath a.path, flagOfCode a.bank with
  | some p, some bankOne =>
    if a.values.ordered then
      let s1 := s.modEntry p (fun e => e.setBank bankOne a.values)
      if (s.entry p).bankOne = bankOne then .ok ((s1.recomputeDelay p).evaluate p) else .ok s1
    else .error .order
  | _, _ => .error .argument

/-- SELECT BANK (R50). Two of them for one path leave the E of the one taken second (log entry 43). -/
def State.selectBank (s : State) (role : Role) (index bank : Nat) : Except ResultCode State :=
  match radioPath index, flagOfCode bank with
  | some p, some bankOne =>
    if s.lockBinds role p then .error .locked
    else if (s.entry p).bankOne = bankOne then .ok s
    else .ok (((s.modEntry p (fun e => { e with bankOne := bankOne })).recomputeDelay p).evaluate p)
  | _, _ => .error .argument

/-- SET SMOOTHING (R52). Two of them for one path leave the E of the one taken second (log entry 43). -/
def State.setSmoothing (s : State) (a : SmoothingArgs) : Except ResultCode State :=
  match Path.ofIndex a.path with
  | none => .error .argument
  | some p =>
    if a.weight ≤ 7 ∧ 1 ≤ a.interval then
      .ok ((s.modEntry p (fun e =>
        { e with weight := a.weight, lossWeight := a.lossWeight, decayInterval := a.interval })).recomputeDelay p)
    else .error .argument

/-- One margin entry applied to a radio path (R47, R48). -/
def State.applyMargin (s : State) (p : Path) (margin : Int) : State :=
  let s1 := s.modEntry p (fun e =>
    { e with
      margin := some margin
      reportTime := s.time.mono
      stale := false
      reportDeadline := some (s.time.mono + msToNs e.reportTimeout) })
  (s1.recomputeDelay p).evaluate p

/-- The entries of a batch applied one after another (R47). -/
def State.applyMargins : List (Path × Int) → State → State
  | [], s => s
  | (p, m) :: rest, s => State.applyMargins rest (s.applyMargin p m)

/-- The radio paths a batch names, or none where an entry names path F or no path (R47). -/
def resolveEntries : List MarginEntry → Option (List (Path × Int))
  | [] => some []
  | e :: rest =>
    match radioPath e.path, resolveEntries rest with
    | some p, some l => some ((p, e.margin) :: l)
    | _, _ => none

/-- POST MARGIN (R47). -/
def State.postMargin (s : State) (entries : List MarginEntry) : Except ResultCode State :=
  match resolveEntries entries with
  | some l => .ok (s.applyMargins l)
  | none => .error .argument

/-- A path's locked flag set or cleared (R53). -/
def State.setLock (s : State) (p : Path) (locked : Bool) : State := s.modEntry p (fun e => { e with locked := locked })

/-- LOCK PATH and UNLOCK PATH (R53). -/
def State.lockPath (s : State) (index : Nat) (locked : Bool) : Except ResultCode State :=
  match Path.ofIndex index with
  | some p => .ok (s.setLock p locked)
  | none => .error .argument

/-- LOCK ALL and UNLOCK ALL (R53). -/
def State.lockAll (s : State) (locked : Bool) : State := Path.all.foldl (fun s p => s.setLock p locked) s

/-- A path's statistics returned to their reset values (R61). -/
def State.clearStats (s : State) (p : Path) : State := s.modStats p (fun _ => Stats.reset)

/-- CLEAR PATH STATS (R61): 0FFH is ALL (R173). -/
def State.clearPathStats (s : State) (index : Nat) : Except ResultCode State :=
  if index = 255 then .ok (Path.all.foldl State.clearStats s)
  else match Path.ofIndex index with
    | some p => .ok (s.clearStats p)
    | none => .error .argument

/-- SET PEER SITE (R9): 0FFH is ANY (R173). -/
def State.setPeerSite (s : State) (site : Nat) : Except ResultCode State :=
  if site = 255 then .ok { s with peerSite := none }
  else if site ≤ 15 then .ok { s with peerSite := some (BitVec.ofNat 4 site) }
  else .error .argument

end Sys2Proof.Machine
end

