-- ==== Sys2Proof/Machine/MergeUnit.lean ====
section
/-! DEFINITION. The Merge Unit and the delivery queue: taking a DATA frame, first arrivals, delivery, the release walk, the
hold deadline, advance, retirement and resynchronization, and the commands of a stream (chapter 7, R17, R102, R103). -/

namespace Sys2Proof.Machine

/-- The window size W: 16 × 2^code (R106). -/
def RxStream.window (x : RxStream) : Nat := 16 * 2 ^ x.windowCode

/-- The resync distance Q: 2^(8 + code) (R106). -/
def RxStream.resyncDistance (x : RxStream) : Nat := 2 ^ (8 + x.resyncCode)

/-- The distance of a sequence from the base, modulo 2^32 (R110). -/
def RxStream.distance (x : RxStream) (q : Seq) : Nat := (q - x.base).toNat

/-- What the path receiver passes with a valid DATA frame (R108). -/
structure DataArrival where
  copy : DataCopy
  sender : Quality
  path : Path
  stamp : Stamp
  deriving DecidableEq, Repr

/-! ## Delivery (R117, R118) -/

/-- The head frame of the delivery queue starts when the local lane is idle (R17; log entry 22). -/
def LocalPort.start (l : LocalPort) : LocalPort :=
  match l.inProgress, l.queue with
  | none, f :: rest => { l with queue := rest, inProgress := some f }
  | _, _ => l

/-- A frame joins the delivery queue at its tail (R118). -/
def LocalPort.join (l : LocalPort) (f : DeliveredFrame) : LocalPort :=
  LocalPort.start { l with queue := l.queue ++ [f] }

/-- The number of places of the delivery queue (R118). -/
def deliveryPlaces : Nat := 64

/-- One delivery as the Merge Unit hands it on (R117). `holdDelay` is absent in IMMEDIATE mode. -/
structure Delivery where
  frame : DeliveredFrame
  arrivalQuality : Quality
  origin : Tod
  sender : Quality
  holdDelay : Option Nat
  held : Bool
  eligible : Bool
  deriving DecidableEq, Repr

/-- The DELIVERY record of a delivery (R117, R129, R174); the record time is the TOD at the delivery. -/
def Delivery.record (d : Delivery) (now : Tod) (dropped : Bool) : RecordBody :=
  .delivery
    { stream := d.frame.stream
      seq := d.frame.seq
      path := d.frame.path
      arrivalOffset := arrivalOffset d.frame.arrival now
      arrivalNs := d.frame.arrival.ns
      arrivalQuality := d.arrivalQuality
      oneWay := oneWayDelay d.frame.arrival d.origin d.arrivalQuality d.sender
      holdDelay := d.holdDelay
      held := d.held
      dropped := dropped
      fromIneligible := !d.eligible }

/-- The delivery queue takes or drops a frame (R118). -/
def State.queueDelivery (s : State) (i : StreamId) (f : DeliveredFrame) : State :=
  if deliveryPlaces ≤ s.localPort.queue.length then
    (s.modRx i (fun x => { x with overflow := inc32 x.overflow })).raiseAll .drop
  else s.modLocal (fun l => l.join f)

/-- A frame delivered (R117): to the queue, and to the log when records are on. -/
def State.deliver (s : State) (i : StreamId) (d : Delivery) : State :=
  let dropped := decide (deliveryPlaces ≤ s.localPort.queue.length)
  let s1 := s.queueDelivery i d.frame
  if (s.rxStream i).records then s1.logWrite (d.record s.time.tod dropped) else s1

/-- A slot replaced, by its place from the base (log entry 19). -/
def State.setSlot (s : State) (i : StreamId) (n : Nat) (slot : Slot) : State :=
  s.modRx i (fun x => { x with slots := x.slots.set n slot })

/-- The delivery of a HELD slot's frame (R117). -/
def heldDelivery (i : StreamId) (q : Seq) (mono : Nat) (info : SlotInfo) (f : HeldFrame) : Delivery where
  frame := ⟨i, f.payload, q, info.path, f.arrival⟩
  arrivalQuality := f.arrivalQuality
  origin := f.origin
  sender := f.sender
  holdDelay := some (min max32 (mono - info.arrival))
  held := true
  eligible := f.eligible

/-- The slot at a place delivered if it is HELD, becoming DONE (R114, R119, R122). -/
def State.releaseSlot (s : State) (i : StreamId) (n : Nat) : State :=
  match (s.rxStream i).slots[n]? with
  | some (.held info f) =>
    (s.setSlot i n (.done info)).deliver i
      (heldDelivery i ((s.rxStream i).base + BitVec.ofNat 32 n) s.time.mono info f)
  | _ => s

/-- The first `n` tracked slots delivered where HELD, in ascending order (R119 step 1, R122 step 1). -/
def State.releaseFirst (s : State) (i : StreamId) (n : Nat) : State :=
  (List.range (min n (s.rxStream i).slots.length)).foldl (fun s k => s.releaseSlot i k) s

/-- The walk of R114 from the release point: consecutive HELD slots are delivered and r passes each. -/
def State.walk : Nat → State → StreamId → State
  | 0, s, _ => s
  | fuel + 1, s, i =>
    let n := (s.rxStream i).distance (s.rxStream i).release
    match (s.rxStream i).slots[n]? with
    | some (.held _ _) =>
      State.walk fuel ((s.releaseSlot i n).modRx i (fun x => { x with release := x.release + 1 })) i
    | _ => s

/-- The walk from the release point to its end: no walk passes more slots than are tracked. -/
def State.releaseWalk (s : State) (i : StreamId) : State := s.walk ((s.rxStream i).slots.length + 1) i

/-! ## The hold deadline (R114 to R116) -/

/-- Whether a slot is HELD. -/
def Slot.isHeld : Slot → Bool
  | .held _ _ => true
  | _ => false

/-- The earliest first arrival among the HELD slots, if there is one (R115). -/
def earliestHeld : List Slot → Option Nat
  | [] => none
  | .held info _ :: rest =>
    match earliestHeld rest with
    | some a => some (min info.arrival a)
    | none => some info.arrival
  | _ :: rest => earliestHeld rest

/-- The hold deadline formed anew (R115). -/
def State.formDeadline (s : State) (i : StreamId) : State :=
  s.modRx i (fun x => { x with holdDeadline := (earliestHeld x.slots).map (· + usToNs x.holdTime) })

/-- The place of the first HELD slot from a place on (R116). -/
def heldFrom (slots : List Slot) (r : Nat) : Option Nat := ((slots.drop r).findIdx? Slot.isHeld).map (· + r)

/-- An EMPTY slot becomes SKIPPED (R116). -/
def Slot.skip : Slot → Slot
  | .empty => .skipped
  | x => x

/-- The slots from place r to place h - 1 skipped (R116). -/
def skipRange (slots : List Slot) (r h : Nat) : List Slot :=
  slots.take r ++ ((slots.drop r).take (h - r)).map Slot.skip ++ slots.drop (max r h)

/-- A run of missing sequences recorded and counted (R116, R120); an empty run is none. -/
def State.gapRun (s : State) (i : StreamId) (first : Seq) (count : Nat) (cause : GapCause) : State :=
  if count = 0 then s
  else (s.logWrite (.gap i first count cause)).modRx i (fun x => { x with gaps := satAdd max32 x.gaps count })

/-- One hold expiry (R116). With no HELD slot from r on, which no run reaches, the deadline is cleared (log entry 20). -/
def State.expireOnce (s : State) (i : StreamId) : State :=
  let x := s.rxStream i
  let r := x.distance x.release
  match heldFrom x.slots r with
  | none => s.modRx i (fun x => { x with holdDeadline := none })
  | some h =>
    let s1 := s.modRx i (fun x => { x with slots := skipRange x.slots r h })
    let s2 := s1.gapRun i x.release (h - r) .hold
    let s3 := s2.modRx i (fun x => { x with release := x.base + BitVec.ofNat 32 h })
    (s3.releaseWalk i).formDeadline i

/-- Whether a stream's hold deadline has been reached (R116). -/
def State.streamHoldDue (s : State) (i : StreamId) : Bool := s.reached (s.rxStream i).holdDeadline

/-- Expiries repeated while the deadline formed anew is already past (R116 step 4; log entry 21). -/
def State.expireUpTo : Nat → State → StreamId → State
  | 0, s, _ => s
  | fuel + 1, s, i => if s.streamHoldDue i then State.expireUpTo fuel (s.expireOnce i) i else s

/-- Every expiry that is due: each delivers a HELD slot, so there are no more than the slots tracked. -/
def State.expireAll (s : State) (i : StreamId) : State := s.expireUpTo ((s.rxStream i).slots.length + 1) i

/-- The deadline formed anew, with the expiry that follows at once when it is already past (R115). -/
def State.settleHold (s : State) (i : StreamId) : State := (s.formDeadline i).expireAll i

/-- The hold expiry taken as an input (R116). -/
def State.holdExpiry (s : State) (i : StreamId) : State := s.expireAll i

/-! ## First arrival (R113, R114) -/

/-- The slot record of a first arrival (R113). -/
def DataArrival.info (d : DataArrival) : SlotInfo := ⟨d.path, d.stamp.mono, d.copy.mask, PathSet.single d.path⟩

/-- The delivery of a frame at its own arrival (R117). -/
def DataArrival.delivery (d : DataArrival) (i : StreamId) (eligible ordered : Bool) : Delivery where
  frame := ⟨i, d.copy.payload, d.copy.seq, d.path, d.stamp.tod⟩
  arrivalQuality := d.stamp.quality
  origin := d.copy.origin
  sender := d.sender
  holdDelay := if ordered then some 0 else none
  held := false
  eligible := eligible

/-- The frame a HELD slot keeps (R107). -/
def DataArrival.kept (d : DataArrival) (eligible : Bool) : HeldFrame :=
  ⟨d.copy.payload, d.copy.origin, d.stamp.tod, d.stamp.quality, d.sender, eligible⟩

/-- A HELD slot's deadline, set only in a stream that has none (R114). -/
def RxStream.noteHeld (arrival : Nat) (x : RxStream) : RxStream :=
  { x with holdDeadline := match x.holdDeadline with
      | some t => some t
      | none => some (arrival + usToNs x.holdTime) }

/-- A first arrival kept ahead of the release point (R114). -/
def State.holdArrival (s : State) (i : StreamId) (d : DataArrival) (eligible : Bool) : State :=
  let n := (s.rxStream i).distance d.copy.seq
  let s1 := (s.setSlot i n (.held d.info (d.kept eligible))).modRx i (RxStream.noteHeld d.stamp.mono)
  if (s.rxStream i).holdDeadline.isNone then s1.expireAll i else s1

/-- A first arrival delivered at once, its slot becoming DONE (R113, R114). -/
def State.deliverArrival (s : State) (i : StreamId) (d : DataArrival) (eligible ordered : Bool) : State :=
  (s.setSlot i ((s.rxStream i).distance d.copy.seq) (.done d.info)).deliver i (d.delivery i eligible ordered)

/-- The first arrival of a tracked sequence (R113, R114). In ORDERED mode a sequence other than r is kept (log entry 20). -/
def State.firstArrival (s : State) (i : StreamId) (d : DataArrival) : State :=
  let eligible := s.eligible d.path
  let s1 := (s.modRx i (fun x => { x with accepted := inc32 x.accepted })).modStats d.path
    (fun x => { x with wins := inc32 x.wins })
  if (s.rxStream i).ordered then
    if d.copy.seq = (s.rxStream i).release then
      (((s1.deliverArrival i d eligible true).modRx i (fun x => { x with release := x.release + 1 })).releaseWalk
        i).settleHold i
    else s1.holdArrival i d eligible
  else s1.deliverArrival i d eligible false

/-! ## Copies that are not first arrivals (R110, R111) -/

/-- A copy discarded as late (R110, R111). -/
def State.lateCopy (s : State) (i : StreamId) (p : Path) : State :=
  (s.modRx i (fun x => { x with late := inc32 x.late })).modStats p (fun x => { x with late := inc32 x.late })

/-- A path that has delivered a copy joins the seen mask (R111). -/
def Slot.see (p : Path) : Slot → Slot
  | .held info f => .held { info with seen := info.seen.add p } f
  | .done info => .done { info with seen := info.seen.add p }
  | x => x

/-- The lag of a duplicate: its arrival less the first arrival, kept within 0 to 4,294,967,295 (R111). -/
def lagOf (arrival first : Nat) : Nat := min max32 (arrival - first)

/-- A duplicate in the statistics of its path (R60, R111). -/
def Stats.duplicate (lag : Nat) (x : Stats) : Stats :=
  { x with copies := inc32 x.copies, lagMin := min x.lagMin lag, lagMax := max x.lagMax lag }

/-- A copy discarded as a duplicate of the slot at a place (R111). -/
def State.duplicate (s : State) (i : StreamId) (n : Nat) (slot : Slot) (first : Nat) (d : DataArrival) : State :=
  ((s.setSlot i n (slot.see d.path)).modStats d.path (Stats.duplicate (lagOf d.stamp.mono first))).modRx i
    (fun x => { x with duplicates := inc32 x.duplicates })

/-- A copy of a tracked sequence (R111). -/
def State.takeTracked (s : State) (i : StreamId) (n : Nat) (d : DataArrival) : State :=
  match (s.rxStream i).slots[n]? with
  | some .empty => s.firstArrival i d
  | some (.held info f) => s.duplicate i n (.held info f) info.arrival d
  | some (.done info) => s.duplicate i n (.done info) info.arrival d
  | some .skipped => s.lateCopy i d.path
  | none => s

/-- The window filled up to a sequence (R112). -/
def RxStream.fillTo (q : Seq) (x : RxStream) : RxStream :=
  { x with
    slots := x.slots ++ List.replicate (x.distance q + 1 - x.slots.length) .empty
    front := q + 1 }

/-! ## Advance and retirement (R119 to R121) -/

/-- The retiring range walked in ascending order (R119 step 2): `q` is the sequence of the next slot, `run` the length of
the run of gaps that ends just before it, and `untracked` the sequences of the range that were never tracked, after the
slots. A HELD slot, which only an IMMEDIATE stream could have here and no run gives it, retires as DONE (log entry 20). -/
def State.retire (i : StreamId) (untracked : Nat) : List Slot → Seq → Nat → State → State
  | [], q, run, s => s.gapRun i (q - BitVec.ofNat 32 run) (run + untracked) .advance
  | .empty :: rest, q, run, s => State.retire i untracked rest (q + 1) (run + 1) s
  | .skipped :: rest, q, run, s =>
    State.retire i untracked rest (q + 1) 0 (s.gapRun i (q - BitVec.ofNat 32 run) run .advance)
  | .done info :: rest, q, run, s =>
    State.retire i untracked rest (q + 1) 0
      ((s.gapRun i (q - BitVec.ofNat 32 run) run .advance).retireReport info.mask info.seen)
  | .held info _ :: rest, q, run, s =>
    State.retire i untracked rest (q + 1) 0
      ((s.gapRun i (q - BitVec.ofNat 32 run) run .advance).retireReport info.mask info.seen)

/-- The window moved so that `q` is its newest sequence, `n` sequences having retired (R119 steps 3 and 4). -/
def RxStream.moveWindow (q : Seq) (n : Nat) (x : RxStream) : RxStream :=
  { x with
    base := x.base + BitVec.ofNat 32 n
    front := q + 1
    slots := x.slots.drop n ++ List.replicate (x.window - (x.slots.length - n)) .empty
    release := if x.distance x.release < n then x.base + BitVec.ofNat 32 n else x.release }

/-- An advance (R119). -/
def State.advance (s : State) (i : StreamId) (d : DataArrival) : State :=
  let x := s.rxStream i
  let n := x.distance d.copy.seq + 1 - x.window
  let s1 := if x.ordered then s.releaseFirst i n else s
  let s2 := State.retire i (n - x.slots.length) ((s1.rxStream i).slots.take n) x.base 0 s1
  let s3 := s2.modRx i (RxStream.moveWindow d.copy.seq n)
  let s4 := if x.ordered then s3.releaseWalk i else s3
  let s5 := s4.firstArrival i d
  if x.ordered then s5.settleHold i else s5

/-! ## Synchronization and resynchronization (R109, R122, R123) -/

/-- A stream synchronized on a sequence: the one tracked, its slot EMPTY (R109). -/
def RxStream.synchronize (q : Seq) (x : RxStream) : RxStream :=
  { x with synced := true, base := q, front := q + 1, release := q, slots := [.empty] }

/-- A frame that synchronizes a stream (R109). -/
def State.synchronize (s : State) (i : StreamId) (d : DataArrival) : State :=
  (s.modRx i (RxStream.synchronize d.copy.seq)).firstArrival i d

/-- A resynchronization (R122). -/
def State.resync (s : State) (i : StreamId) (cause : ResyncCause) (newSeq : Option Seq) : State :=
  let x := s.rxStream i
  let s1 := if x.ordered then s.releaseFirst i x.slots.length else s
  let s2 := s1.modRx i (fun x => { x with slots := [], holdDeadline := none, synced := false })
  (s2.logWrite (.resync i x.front cause newSeq)).modRx i (fun x => { x with resyncs := inc32 x.resyncs })

/-! ## Taking a DATA frame (R108, R110) -/

/-- A valid DATA frame of a synchronized, rx-enabled stream (R110). -/
def State.mergeCopy (s : State) (i : StreamId) (d : DataArrival) : State :=
  let x := s.rxStream i
  let n := x.distance d.copy.seq
  if 2147483648 ≤ n then s.lateCopy i d.path
  else if n < x.distance x.front then s.takeTracked i n d
  else if n < x.window then (s.modRx i (RxStream.fillTo d.copy.seq)).firstArrival i d
  else if n < x.resyncDistance then s.advance i d
  else (s.resync i .jump (some d.copy.seq)).synchronize i d

/-- A valid DATA frame handed to the Merge Unit (R108). -/
def State.takeData (s : State) (d : DataArrival) : State :=
  let i := d.copy.stream
  if !(s.rxStream i).enabled then s.modRx i (fun x => { x with rejected := inc32 x.rejected })
  else if (s.rxStream i).synced then s.mergeCopy i d
  else s.synchronize i d

/-! ## Commands of a stream (R102, R124, R125) -/

/-- Whether the codes of a SET STREAM are in their ranges (R125; log entry 33 for the window and resync codes). -/
def StreamArgs.codesOk (a : StreamArgs) : Bool :=
  decide (a.rxEnable ≤ 1 ∧ a.txEnable ≤ 1 ∧ a.mode ≤ 1 ∧ a.records ≤ 1 ∧ a.windowCode ≤ 7 ∧ a.resyncCode ≤ 15)

/-- The settings of a stream that a taken SET STREAM stores, with the substitutions of R125. -/
def StreamArgs.store (a : StreamArgs) (x : RxStream) : RxStream :=
  { x with
    enabled := a.rxEnable == 1
    windowCode := min 4 a.windowCode
    ordered := a.mode == 1
    holdTime := max 1 a.holdTime
    resyncCode := min 12 a.resyncCode
    records := a.records == 1 }

/-- Whether a taken SET STREAM changes one of the three settings that resynchronize the stream (R125). -/
def StreamArgs.reshapes (a : StreamArgs) (x : RxStream) : Bool :=
  (a.store x).enabled != x.enabled || (a.store x).windowCode != x.windowCode || (a.store x).ordered != x.ordered

/-- SET STREAM (R125, R101): a CONFIG resynchronization comes before the new values act (log entry 32). -/
def State.setStream (s : State) (a : StreamArgs) : Except ResultCode State :=
  match streamOfCode a.stream with
  | none => .error .argument
  | some i =>
    if a.codesOk then
      let s1 := if a.reshapes (s.rxStream i) then s.resync i .config none else s
      .ok ((s1.modRx i a.store).modTx i (fun t => { t with enabled := a.txEnable == 1 }))
    else .error .argument

/-- RESYNC STREAM (R124). -/
def State.resyncStream (s : State) (index : Nat) : Except ResultCode State :=
  match streamOfCode index with
  | none => .error .argument
  | some i => .ok (s.resync i .command none)

/-- SET TX SEQUENCE (R102). -/
def State.setTxSequence (s : State) (index seq : Nat) : Except ResultCode State :=
  match streamOfCode index with
  | none => .error .argument
  | some i => .ok (s.modTx i (fun t => { t with next := BitVec.ofNat 32 seq }))

end Sys2Proof.Machine
end

