-- ==== Sys2Proof/Machine/Intake.lean ====
section
/-! DEFINITION. What comes in on the lanes: path frames with their receive checks, local frames with the intake decisions,
and the end of a transmission on the local lane (1.3, R17, chapter 6). -/

namespace Sys2Proof.Machine

/-! ## Path frames (R5 to R11) -/

/-- The first byte of a frame at a path port (R5): the arrival stamp is taken; a frame that starts in a soft reset period is
to be discarded. -/
def State.pathFrameStart (s : State) (p : Path) : State :=
  s.modReceiver p (fun r => { r with arriving := some ⟨s.stamp, s.resetting.isSome⟩ })

/-- A frame counted as crossed (R8, R9). -/
def State.crossedFrame (s : State) (p : Path) : State := s.modStats p (fun x => { x with crossed := inc32 x.crossed })

/-- Whether the sender site passes the peer site check (R9). -/
def State.peerAccepts (s : State) (site : BitVec 4) : Bool :=
  match s.peerSite with
  | none => true
  | some peer => site == peer

/-- A valid frame passed onward by kind (R11). -/
def State.passOnward (s : State) (p : Path) (t : Stamp) (f : PathFrame) : State :=
  match f.body with
  | .data copy => s.takeData ⟨copy, f.quality, p, t⟩
  | .beacon _ => s
  | .probe tag index => s.echoService p tag index t.mono
  | .echo tag index residence => s.takeEcho p tag index residence t.mono

/-- The checks of R7 to R9 on a frame that passed the first, and what a valid frame does (R10, R11). -/
def State.judgeFrame (s : State) (p : Path) (t : Stamp) (f : PathFrame) : State :=
  if (s.entry p).state = .disabled then
    s.modStats p (fun x => { x with discardedDisabled := inc32 x.discardedDisabled })
  else if f.pathId.toNat ≠ p.code then s.crossedFrame p
  else if s.peerAccepts f.site then (s.validFrame p t.mono f.state f.quality).passOnward p t f
  else s.crossedFrame p

/-- The last byte of a path frame (R5, R6). With no frame arriving there is nothing to end (log entry 3); a frame that met
a soft reset period is discarded uncounted (R5; log entry 12). -/
def State.pathFrameEnd (s : State) (p : Path) (bytes : List Byte) : State :=
  match (s.receiver p).arriving with
  | none => s
  | some a =>
    let s1 := s.modReceiver p (fun r => { r with arriving := none })
    if a.discard || s.resetting.isSome then s1
    else match parsePathFrame bytes with
      | none => s1.checkError p
      | some f => s1.judgeFrame p a.stamp f

/-! ## Local frames (R92 to R98) -/

/-- The first byte of a local frame (R92): the origin TOD is taken. -/
def State.localFrameStart (s : State) : State :=
  s.modLocal (fun l => { l with arriving := some ⟨s.time.tod, s.resetting.isSome⟩ })

/-- The number of places of a transmit queue (R13, R96). -/
def txPlaces : Nat := 32

/-- Whether a path's transmit queue has room (R96). -/
def State.hasRoom (s : State) (p : Path) : Bool := decide ((s.transmitter p).queue.length < txPlaces)

/-- The dispatch mask of an intake (R96): the dispatch set's paths with room. -/
def State.dispatchMask (s : State) : PathSet :=
  PathSet.ofList (Path.all.filter (fun p => s.selector.dispatchSet.has p && s.hasRoom p))

/-- A tx drop counted on a dispatch-set path left out for want of room (R96). -/
def State.countTxDrop (dispatchSet : PathSet) (s : State) (p : Path) : State :=
  if dispatchSet.has p && !s.hasRoom p then s.modStats p (fun x => { x with txDrops := inc32 x.txDrops }) else s

/-- A copy placed at the tail of a path's queue when the path is in the mask (R98). -/
def State.placeCopy (copy : DataCopy) (s : State) (p : Path) : State :=
  if copy.mask.has p then s.modTransmitter p (fun t => { t with queue := t.queue ++ [copy] }) else s

/-- A frame dispatched (R98): the sequence, the copies placed together, the count; the arbiters then run (log entry 28). -/
def State.dispatch (s : State) (i : StreamId) (origin : Tod) (mask : PathSet) (payload : List Byte) : State :=
  let copy : DataCopy := ⟨i, (s.txStream i).next, origin, mask, payload⟩
  let s1 := s.modTx i (fun t => { t with next := t.next + 1, dispatched := inc32 t.dispatched })
  let s2 := Path.all.foldl (State.placeCopy copy) s1
  Path.all.foldl (fun s p => if mask.has p then s.arbitrate p else s) s2

/-- The intake decisions on a well-formed frame (R94 to R98). -/
def State.intake (s : State) (i : StreamId) (origin : Tod) (payload : List Byte) : State :=
  if !(s.txStream i).enabled then s.modTx i (fun t => { t with rejected := inc32 t.rejected })
  else if s.selector.primary = none then
    (s.modTx i (fun t => { t with dropsNoPath := inc32 t.dropsNoPath })).raiseAll .drop
  else
    let mask := s.dispatchMask
    let s1 := Path.all.foldl (State.countTxDrop s.selector.dispatchSet) s
    if mask = 0 then (s1.modTx i (fun t => { t with dropsFull := inc32 t.dropsFull })).raiseAll .drop
    else s1.dispatch i origin mask payload

/-- The last byte of a local frame (R92, R93). -/
def State.localFrameIntake (s : State) (bytes : List Byte) : State :=
  match s.localPort.arriving with
  | none => s
  | some a =>
    let s1 := s.modLocal (fun l => { l with arriving := none })
    if a.discard || s.resetting.isSome then s1
    else match parseLocalFrame bytes with
      | none => s1.modLocal (fun l => { l with malformed := inc32 l.malformed })
      | some (i, payload) => s1.intake i a.origin payload

/-- The end of a transmission on the local lane (R17): the next frame of the delivery queue starts. -/
def State.localTransmitEnd (s : State) : State :=
  if s.localPort.inProgress.isSome then s.modLocal (fun l => LocalPort.start { l with inProgress := none }) else s

end Sys2Proof.Machine
end

