-- ==== Sys2Proof/Machine/Ports.lean ====
section
/-! DEFINITION. The Command Port Interface: transactions, the order of the checks, the rights, attention reads, and the soft,
pin and power-on resets (chapter 10). -/

namespace Sys2Proof.Machine

/-! ## Rights (R164) -/

/-- The commands open to all roles. -/
def Role.any (_ : Role) : Bool := true
/-- READ CAPTURE: every role but OBSERVER. -/
def Role.readsCapture (r : Role) : Bool := r != .observer
/-- SUPERVISOR and OPERATOR. -/
def Role.supervises (r : Role) : Bool := r == .supervisor || r == .operator
/-- GATEWAY and OPERATOR. -/
def Role.gates (r : Role) : Bool := r == .gateway || r == .operator
/-- OPERATOR. -/
def Role.operates (r : Role) : Bool := r == .operator

/-! ## Transactions (R160, R161, R163, R164) -/

/-- A transaction begins (R160, R165): the status byte is formed and clocked out, and the read before it is over (log
entries 5 and 6). A read that a soft reset cut off is then dropped with the last result as it stands: only the row for the
rise of select makes it BUSY (log entry 44). -/
def State.beginTransaction (s : State) (p : Port) : State :=
  s.modPort p (fun c => { c with statusOut := s.statusByte p, reading := none, response := [] })

/-- The last result of a port (R164). -/
def State.setResult (s : State) (p : Port) (r : ResultCode) : State := s.modPort p (fun c => { c with lastResult := r })

/-- A FRAMING refusal (R161). -/
def State.framingRefusal (s : State) (p : Port) : State :=
  (s.modPort p (fun c => { c with lastResult := .framing, framingErrors := inc16 c.framingErrors })).raiseOn p .protocol

/-- A refused read (R163): its result, and a response that is all zero bytes, clocked out until select rises (R171). -/
def State.refuseRead (s : State) (p : Port) (r : ResultCode) : State :=
  s.modPort p (fun c => { c with lastResult := r, reading := some .plain })

/-- The checks before the owning block, in their order (R164): FRAMING, BUSY in a soft reset period, RIGHTS. `refuse` is
what a BUSY or a RIGHTS refusal leaves. -/
def State.checked {α : Type} (s : State) (p : Port) (args : Option α) (right : Role → Bool) (refuse : ResultCode → State)
    (take : α → State) : State :=
  match args with
  | none => s.framingRefusal p
  | some a =>
    if s.resetting.isSome then refuse .busy
    else if right (s.port p).role then take a
    else refuse .rights

/-- What the owning block answers to a command that changes state: a refusal changes nothing but the last result. -/
def State.conclude (s : State) (p : Port) (r : Except ResultCode State) : State :=
  match r with
  | .ok t => t.setResult p .ok
  | .error e => s.setResult p e

/-- A transaction of a command that changes state, judged at the rise of select (R160, R164). -/
def State.command {α : Type} (s : State) (p : Port) (args : Option α) (right : Role → Bool)
    (take : α → State → Except ResultCode State) : State :=
  let s0 := s.beginTransaction p
  s0.checked p args right (s0.setResult p) (fun a => s0.conclude p (take a s0))

/-- What a read that is taken answers: the state after it, the response bytes, and what is being clocked out. -/
structure Answer where
  state : State
  bytes : List Byte
  reading : Reading

/-- A read concluded (R163): the response is put out, or the zero bytes of a refusal. -/
def State.concludeRead (s : State) (p : Port) (r : Except ResultCode Answer) : State :=
  match r with
  | .ok a => a.state.modPort p (fun c => { c with lastResult := .ok, response := a.bytes, reading := some a.reading })
  | .error e => s.refuseRead p e

/-- A transaction of a read, judged when its last argument byte is complete (R163, R164). -/
def State.readCommand {α : Type} (s : State) (p : Port) (args : Option α) (right : Role → Bool)
    (take : α → State → Except ResultCode Answer) : State :=
  let s0 := s.beginTransaction p
  s0.checked p args right (s0.refuseRead p) (fun a => s0.concludeRead p (take a s0))

/-- An unknown command (R161). A code of the table is not unknown, and the row's event has not happened (log entry 3). -/
def State.unknownCommand (s : State) (p : Port) (code : Byte) : State :=
  if isCommandCode code then s
  else (s.beginTransaction p).modPort p
    (fun c => { c with lastResult := .unknown, unknownCommands := inc16 c.unknownCommands })

/-! ## The data out pin (R160, R175) -/

/-- Whether a port's select line is low between two inputs: it has risen on a command, and stays low while the response of
a read is clocked out, until the row for the rise of select on it (R160, R163; log entries 6 and 42). -/
def PortCtx.selected (c : PortCtx) : Bool := c.reading.isSome

/-- The bits a port's data out pin gives from here on, most significant first, zero bytes following them; `none` while
select is high and the pin is not driven (R163, R175). -/
def PortCtx.dataOut (c : PortCtx) : Option (List Bool) :=
  if c.selected then some (c.response.flatMap byteBits) else none

/-- The bits clocked out in the whole of a transaction with `n` argument bytes: the status byte, zero bytes for the
arguments, and the response (R160, R165, R175). -/
def PortCtx.clockedOut (c : PortCtx) (n : Nat) : List Bool :=
  (c.statusOut :: List.replicate n 0#8 ++ c.response).flatMap byteBits

/-! ## Attention (R167, R168) -/

/-- SET ATTENTION MASK (R167, R173): a set with a bit above PROTOCOL names no kind. -/
def State.setAttentionMask (s : State) (p : Port) (kinds : Nat) : Except ResultCode State :=
  if 512 ≤ kinds then .error .argument else .ok (s.modPort p (fun c => { c with mask := BitVec.ofNat 16 kinds }))

/-- The last byte of a READ ATTENTION response is clocked out (R168): the copied kinds not raised since are removed. -/
def PortCtx.attentionDone (c : PortCtx) : PortCtx :=
  match c.reading with
  | some (.attention copied raised) =>
    { c with pending := c.pending &&& ~~~(copied &&& ~~~raised), reading := some .plain }
  | _ => c

/-! ## Resets (R159, R170, R171, R175) -/

/-- A port context at the start of a soft reset (R159, R170, R171): the role is kept, and a read that is being clocked out
ends. -/
def PortCtx.softReset (c : PortCtx) : PortCtx :=
  { PortCtx.reset c.role with statusOut := c.statusOut, reading := c.reading.map (fun _ => .interrupted) }

/-- A receiver at the start of a soft reset (R5, R12): a frame that is arriving is discarded at its end. -/
def Receiver.softReset (r : Receiver) : Receiver :=
  ⟨.stopped, r.arriving.map (fun a => { a with discard := true })⟩

/-- A transmitter at the start of a soft reset (R13, R15, R16): queue, echo and probe gone; a frame in progress goes on and
its end is not counted. -/
def Transmitter.softReset (t : Transmitter) : Transmitter :=
  ⟨[], t.inProgress.map (fun x => { x with uncounted := true }), none, none, .stopped⟩

/-- The Local Port Unit at the start of a soft reset (R17, R92, R93). -/
def LocalPort.softReset (l : LocalPort) : LocalPort :=
  ⟨0, l.arriving.map (fun a => { a with discard := true }), [], l.inProgress⟩

/-- The length of the soft reset period: 200 us of MONO (R170). -/
def softResetPeriod : Nat := 200000

/-- A SOFT RESET taken (R170): every block at its soft reset values, and the RESET record taken last (R142; log entry
26). -/
def State.softReset (s : State) : State :=
  State.resetLog
    { s with
      time := s.time.softReset
      paths := Vector.replicate 5 (PathEntry.reset (s.mono + softResetPeriod))
      receivers := s.receivers.map Receiver.softReset
      transmitters := s.transmitters.map Transmitter.softReset
      peerSite := none
      beaconInterval := 100
      selector := Selector.reset
      rxStreams := Vector.replicate 8 RxStream.reset
      txStreams := Vector.replicate 8 TxStream.reset
      localPort := s.localPort.softReset
      sounding := Sounding.reset
      ports := s.ports.map PortCtx.softReset
      resetting := some (s.mono + softResetPeriod) }

/-- The end of the soft reset period (R170). -/
def State.softResetPeriodEnd (s : State) : State :=
  if s.reached s.resetting then { s with resetting := none } else s

/-- Select rises on a port's read: one that a soft reset cut off gives BUSY (R171; log entry 44), any other is over and
keeps its result (R163; log entry 42). The data out pin is no longer driven (R175). -/
def State.interruptedRise (s : State) (p : Port) : State :=
  match (s.port p).reading with
  | none => s
  | some .interrupted => s.modPort p (fun c => { c with lastResult := .busy, reading := none })
  | some _ => s.modPort p (fun c => { c with reading := none })

/-- Pin reset and power-on reset with the strap levels latched at their end (R175, R159): every field at its reset value;
the inputs that wait in the model's queue stay (log entry 2). -/
def State.pinReset (s : State) (site : BitVec 4) (role0 role1 role2 : BitVec 2) : State :=
  { State.ofStraps site (Role.ofStrap role0) (Role.ofStrap role1) (Role.ofStrap role2) with pending := s.pending }

end Sys2Proof.Machine
end

