-- ==== Sys2Proof/Machine/Responses.lean ====
section
/-! DEFINITION. The responses of the reads: what each clocks out and what each changes (R173 and the read's own rule; widths
of log entry 10). -/

namespace Sys2Proof.Machine

/-- One byte. -/
def byte (n : Nat) : List Byte := leBytes 1 n

/-- One byte of a flag. -/
def flag (b : Bool) : List Byte := byte (bit01 b)

/-- A read that changes nothing but the port's result and response. -/
def State.plainRead (s : State) (bytes : List Byte) : Except ResultCode Answer := .ok ⟨s, bytes, .plain⟩

/-- READ ID (R169, R173): vendor 0A51H, part 0540H, revision, site, role. The revision is open (log entry 8). -/
def State.idBytes (s : State) (p : Port) : List Byte :=
  leBytes 2 0x0A51 ++ leBytes 2 0x0540 ++ [Config.revision] ++ byte s.siteId.toNat ++ byte (s.port p).role.code

/-- READ STATUS (R169). -/
def State.statusBytes (s : State) (p : Port) : List Byte :=
  let c := s.port p
  byte c.lastResult.code ++ byte c.role.code ++ leBytes 2 c.pending.toNat ++ leBytes 2 c.mask.toNat ++ flag c.output
    ++ flag s.resetting.isSome ++ flag s.sounding.isActive ++ leBytes 4 c.framingErrors ++ leBytes 4 c.unknownCommands

/-- READ ATTENTION (R168): the copy of the pending set and the mask. -/
def State.readAttention (s : State) (p : Port) : Answer :=
  let c := s.port p
  ⟨s, leBytes 2 c.pending.toNat ++ leBytes 2 c.mask.toNat, .attention c.pending 0⟩

/-! ## READ PATH (R38, R60, R62) -/

/-- A threshold bank: K, Wn, Fl, Rc, S, Pmax. -/
def Bank.bytes (b : Bank) : List Byte :=
  leBytesInt 1 b.k ++ leBytesInt 1 b.wn ++ leBytesInt 1 b.fl ++ leBytesInt 1 b.rc ++ byte b.s ++ leBytes 2 b.pmax

/-- The statistics in the order of R60. -/
def Stats.bytes (x : Stats) : List Byte :=
  [x.rxValid, x.checkErrors, x.crossed, x.discardedDisabled, x.wins, x.copies, x.lagMin, x.lagMax, x.late, x.txFrames,
   x.txDrops, x.flushDrops, x.probesSent, x.probesValid, x.probesLost, x.probesInvalid].flatMap (leBytes 4)

/-- A margin: a signed byte and whether one is held (R173). -/
def marginBytes (m : Option Int) : List Byte := leBytesInt 1 (m.getD 0) ++ flag m.isSome

/-- The deadline of a RUNNING silence timer. -/
def SilenceTimer.deadline : SilenceTimer → Option Nat
  | .running d => some d
  | _ => none

/-- The kind of a path: RADIO 0, FIBRE 1. -/
def Path.kindCode (p : Path) : Nat := bit01 (p == .f)

/-- The fields of R38 in their order. -/
def PathEntry.bytes (p : Path) (e : PathEntry) : List Byte :=
  byte (Path.kindCode p) ++ byte e.state.code ++ byte e.reason.code ++ leBytes 8 e.entered
    ++ byte ((e.farState.map LocalState.code).getD 7) ++ byte ((e.farQuality.map Quality.code).getD 7)
    ++ marginBytes (e.marginOf p) ++ leBytes 8 e.reportTime ++ flag e.stale ++ e.bank0.bytes ++ e.bank1.bytes
    ++ flag e.bankOne ++ leBytes 4 e.silenceTimeout ++ leBytes 2 e.windowLength ++ leBytes 2 e.errorLimit
    ++ leBytes 2 e.recoverHold ++ leBytes 2 e.reportTimeout ++ leBytesOpt 8 (e.window.map ErrorWindow.start)
    ++ leBytesOpt 4 (e.window.map ErrorWindow.count) ++ leBytesOpt 8 e.holdDeadline ++ leBytesOpt 4 e.delay
    ++ byte e.weight ++ byte e.lossWeight ++ leBytes 2 e.decayInterval ++ leBytes 8 e.decayDeadline
    ++ leBytes 4 e.score ++ leBytes 4 e.effDelay ++ flag e.locked ++ e.stats.bytes

/-- READ PATH (R62, R173): the entry, the items R62 adds, and the transmit queue depth (log entry 11). -/
def State.pathBytes (s : State) (p : Path) : List Byte :=
  let e := s.entry p
  let silence := (s.receiver p).silence
  e.bytes p ++ byte silence.code ++ leBytesOpt 8 silence.deadline ++ leBytesOpt 8 e.reportDeadline
    ++ flag (s.eligible p) ++ flag (s.promotable p) ++ leBytes 4 (s.transmitter p).queue.length

/-- READ PATH (R62). -/
def State.readPath (s : State) (index : Nat) : Except ResultCode Answer :=
  match Path.ofIndex index with
  | some p => s.plainRead (s.pathBytes p)
  | none => .error .argument

/-! ## READ SELECTION (R90) -/

def State.selectionBytes (s : State) : List Byte :=
  let x := s.selector
  byte (pathCode x.primary) ++ byte x.dispatchSet.toNat ++ byte (pathCode (x.guard.map Guard.path))
    ++ leBytesOpt 8 (x.guard.map Guard.deadline) ++ byte (pathCode x.pin) ++ leBytes 2 x.hysteresis ++ byte x.widthCode
    ++ flag x.shadow ++ leBytes 2 x.guardTime ++ x.rank.flatMap (fun p => byte p.code)
    ++ byte (pathCode (s.bestPromotable x.rank)) ++ byte (pathCode (s.bestEligible x.rank))

/-! ## READ STREAM (R103, R126) -/

/-- The four slot states as kinds, for the counts of R126. -/
def Slot.isEmpty : Slot → Bool
  | .empty => true
  | _ => false
def Slot.isDone : Slot → Bool
  | .done _ => true
  | _ => false
def Slot.isSkipped : Slot → Bool
  | .skipped => true
  | _ => false

/-- The receive side (R126). -/
def RxStream.bytes (x : RxStream) : List Byte :=
  flag x.enabled ++ byte x.windowCode ++ leBytes 4 x.window ++ flag x.ordered ++ leBytes 2 x.holdTime
    ++ byte x.resyncCode ++ leBytes 4 x.resyncDistance ++ flag x.records ++ flag x.synced
    ++ leBytes 4 x.base.toNat ++ leBytes 4 x.front.toNat ++ leBytes 4 x.release.toNat ++ leBytesOpt 8 x.holdDeadline
    ++ leBytes 4 (x.slots.countP Slot.isEmpty) ++ leBytes 4 (x.slots.countP Slot.isHeld)
    ++ leBytes 4 (x.slots.countP Slot.isDone) ++ leBytes 4 (x.slots.countP Slot.isSkipped)
    ++ [x.accepted, x.duplicates, x.late, x.gaps, x.resyncs, x.rejected, x.overflow].flatMap (leBytes 4)

/-- The transmit side with the part's intake malformed count (R103, R99). -/
def TxStream.bytes (malformed : Nat) (t : TxStream) : List Byte :=
  flag t.enabled ++ leBytes 4 t.next.toNat
    ++ [t.dispatched, t.rejected, satAdd max32 t.dropsNoPath t.dropsFull, t.dropsNoPath, t.dropsFull, malformed].flatMap
      (leBytes 4)

/-- READ STREAM (R103, R126). -/
def State.readStream (s : State) (index : Nat) : Except ResultCode Answer :=
  match streamOfCode index with
  | some i => s.plainRead ((s.rxStream i).bytes ++ (s.txStream i).bytes s.localPort.malformed)
  | none => .error .argument

/-! ## READ TIME and READ CAPTURE (R26, R33) -/

/-- A reference in READ TIME (R26): whether it is qualified, then its run count. -/
def RefState.bytes (r : RefState) : List Byte := flag r.qualified ++ byte r.run

/-- A capture channel in READ TIME (R26, R173): its edge setting, stamp source and log mode, then its status. R26 says only
"configuration and status"; the order of the three settings is the model's, that of R31 and of SET CAPTURE (log entry 45). -/
def CaptureState.configBytes (c : CaptureState) : List Byte :=
  byte c.edge.code ++ byte c.source.code ++ flag c.log ++ byte c.status

def Marker.bytes (m : Marker) : List Byte :=
  byte m.action.code ++ flag m.armed ++ m.matchAt.bytes ++ leBytes 4 m.period ++ leBytes 2 m.width ++ flag m.late
    ++ leBytes 4 m.skipped

/-- READ TIME (R26, R173); the order within a capture channel is log entry 45. -/
def TimeUnit.bytes (t : TimeUnit) : List Byte :=
  leBytes 8 t.mono ++ t.tod.bytes ++ byte t.quality.code ++ byte t.lockCount ++ leBytesInt 4 t.f ++ leBytesInt 4 t.ph
    ++ leBytesInt 4 t.rate ++ flag t.discipline ++ leBytes 4 t.ts ++ leBytes 2 t.tl ++ byte t.ki
    ++ leBytesOpt 1 (t.active.map Ref.code) ++ t.refs.toList.flatMap RefState.bytes
    ++ t.channels.toList.flatMap CaptureState.configBytes ++ t.markers.toList.flatMap Marker.bytes

/-- READ CAPTURE (R33): the oldest stamp is returned and removed. -/
def State.readCapture (s : State) (index : Nat) : Except ResultCode Answer :=
  match Channel.ofCode index with
  | some q => .ok ⟨s.modTime (fun t => t.modChannel q CaptureState.pop), (s.channel q).readBytes, .plain⟩
  | none => .error .argument

/-! ## READ SWEEP (R156) -/

def Sounding.bytes (x : Sounding) : List Byte :=
  byte x.state.code ++ leBytesOpt 1 (x.reason.map SuspendReason.code) ++ leBytesOpt 8 x.settleDeadline
    ++ [x.tag] ++ byte x.pathSet.toNat ++ byte x.remaining.toNat ++ byte x.countCode ++ leBytes 2 x.spacing
    ++ leBytes 2 x.timeout ++ leBytes 2 x.settle ++ byte (pathCode x.current) ++ byte x.probeIndex
    ++ flag x.pendingProbe.isSome ++ leBytesOpt 1 (x.outstanding.map Outstanding.index)
    ++ leBytesOpt 8 (x.outstanding.map Outstanding.t1) ++ leBytesOpt 8 (x.outstanding.map Outstanding.deadline)
    ++ leBytesOpt 4 x.minimum ++ leBytes 4 x.valid ++ leBytes 4 x.lost ++ leBytesOpt 8 x.lastT1 ++ leBytes 4 x.stale

/-! ## READ LOG and PEEK LOG (R137, R139) -/

/-- READ LOG at the end of its command byte: the head. -/
def State.readLog (s : State) (p : Port) : Answer :=
  ⟨s, s.logHead p, .log (.head (s.reader p).lost)⟩

/-- PEEK LOG at the end of its command byte: the head, and a peek position at the cursor. -/
def State.peekLog (s : State) (p : Port) : Answer :=
  ⟨s, s.logHead p, .peek (s.reader p).cursor (.head (s.reader p).lost)⟩

end Sys2Proof.Machine
end

