-- ==== Sys2Proof/Machine/Clock.lean ====
section
/-! DEFINITION. The part's own clock: one nanosecond of MONO with the inputs that its deadlines then make (log entry 1). -/

namespace Sys2Proof.Machine

/-- An input when it is due. -/
def whenDue (due : Bool) (i : Instr) : List Instr := if due then [i] else []

/-- The deadlines of a path that have been reached. -/
def State.pathDue (s : State) (p : Path) : List Instr :=
  whenDue (s.silenceDue p) (.silenceTimerExpiry p) ++ whenDue (s.windowDue p) (.errorWindowEnd p)
    ++ whenDue (s.holdDue p) (.recoverHoldExpiry p) ++ whenDue (s.reportDue p) (.reportTimeout p)
    ++ whenDue (s.decayDue p) (.scoreDecay p) ++ whenDue (s.beaconDue p) (.beaconWaitEnd p)

/-- The inputs that deadlines reached by MONO and matches reached by TOD make, in one fixed order (log entry 1). -/
def State.dueInputs (s : State) : List Instr :=
  whenDue (s.reached s.resetting) .softResetPeriodEnd
    ++ Path.all.flatMap s.pathDue
    ++ whenDue (s.reached (s.selector.guard.map Guard.deadline)) .guardExpiry
    ++ (List.finRange 8).flatMap (fun i => whenDue (s.streamHoldDue i) (.holdExpiry i))
    ++ whenDue s.probeIssueDue .probeIssue ++ whenDue s.probeTimeoutDue .probeTimeout ++ whenDue s.settleDue .settleDeadline
    ++ [Ref.ref0, Ref.ref1].flatMap (fun r => whenDue (s.refTimeoutDue r) (.refTimeout r))
    ++ [Out.out0, Out.out1].flatMap (fun o => whenDue (s.time.matchDue o) (.markerMatch o))
    ++ [Out.out0, Out.out1].flatMap (fun o => whenDue (s.reached (s.marker o).pulseEnd) (.markerPulseEnd o))

/-- One nanosecond: the Time Unit advances (R18, R19) and the inputs then due join the queue. -/
def State.tick (s : State) : State :=
  let s1 := s.modTime TimeUnit.advance
  { s1 with pending := s1.pending ++ s1.dueInputs }

end Sys2Proof.Machine
end

