-- ==== Sys2Proof/Machine/LogInputs.lean ====
section
/-! DEFINITION. The inputs of the Log Unit: one meaning per row (chapter 8). -/

namespace Sys2Proof.Machine

/-- LOG_HEAD_COMPLETE (R137, R139). -/
def execLogHeadComplete (port : Port) (s : State) : Host.Outcome State Fault Refusal :=
  .next (s.logHeadDone port)

/-- LOG_IMAGE_COMPLETE (R137, R139). -/
def execLogImageComplete (port : Port) (s : State) : Host.Outcome State Fault Refusal :=
  .next (s.logImageDone port)

/-- EMPTY_IMAGE_COMPLETE (R138, R139). -/
def execEmptyImageComplete (port : Port) (s : State) : Host.Outcome State Fault Refusal :=
  .next (s.emptyImageDone port)

/-- SET_LOG_FILTER (R135, R136). -/
def execSetLogFilter (port : Port) (args : List Byte) (s : State) : Host.Outcome State Fault Refusal :=
  .next (s.command port (wordPair args) Role.any
    (fun a t => t.setLogFilter port a.1 a.2))

/-- READ_LOG (R137). -/
def execReadLog (port : Port) (s : State) : Host.Outcome State Fault Refusal :=
  .next (s.readCommand port (some ()) Role.any
    (fun _ t => .ok (t.readLog port)))

/-- PEEK_LOG (R139). -/
def execPeekLog (port : Port) (s : State) : Host.Outcome State Fault Refusal :=
  .next (s.readCommand port (some ()) Role.any
    (fun _ t => .ok (t.peekLog port)))

/-- SEEK_LOG (R140). -/
def execSeekLog (port : Port) (args : List Byte) (s : State) : Host.Outcome State Fault Refusal :=
  .next (s.command port (oneByte args) Role.any
    (fun target t => t.seekLog port target))

end Sys2Proof.Machine
end

