-- ==== Sys2Proof/Machine/PathInputs.lean ====
section
/-! DEFINITION. The inputs of the path receivers, the path transmitters and the Path Table: one meaning per row (chapters 1, 3 and 4). -/

namespace Sys2Proof.Machine

/-- PATH_FRAME_START (R5). -/
def execPathFrameStart (path : Path) (s : State) : Host.Outcome State Fault Refusal :=
  .next (s.pathFrameStart path)

/-- PATH_FRAME_END (R5 to R11). -/
def execPathFrameEnd (path : Path) (bytes : List Byte) (s : State) : Host.Outcome State Fault Refusal :=
  .next (s.pathFrameEnd path bytes)

/-- SILENCE_TIMER_EXPIRY (R12). -/
def execSilenceTimerExpiry (path : Path) (s : State) : Host.Outcome State Fault Refusal :=
  .next (s.silenceExpiry path)

/-- ERROR_WINDOW_END (R45). -/
def execErrorWindowEnd (path : Path) (s : State) : Host.Outcome State Fault Refusal :=
  .next (s.windowEnd path)

/-- RECOVER_HOLD_EXPIRY (R46). -/
def execRecoverHoldExpiry (path : Path) (s : State) : Host.Outcome State Fault Refusal :=
  .next (s.recoverHoldExpiry path)

/-- REPORT_TIMEOUT (R48). -/
def execReportTimeout (path : Path) (s : State) : Host.Outcome State Fault Refusal :=
  .next (s.reportExpiry path)

/-- SCORE_DECAY (R58). -/
def execScoreDecay (path : Path) (s : State) : Host.Outcome State Fault Refusal :=
  .next (s.scoreDecay path)

/-- FRAME_TRANSMIT_END (R13, R14). -/
def execFrameTransmitEnd (path : Path) (s : State) : Host.Outcome State Fault Refusal :=
  .next (s.frameTransmitEnd path)

/-- BEACON_WAIT_END (R16). -/
def execBeaconWaitEnd (path : Path) (s : State) : Host.Outcome State Fault Refusal :=
  .next (s.beaconWaitEnd path)

/-- READ_PATH (R62). -/
def execReadPath (port : Port) (args : List Byte) (s : State) : Host.Outcome State Fault Refusal :=
  .next (s.readCommand port (firstByte args) Role.any
    (fun index t => t.readPath index))

/-- ENABLE_PATH (R40, R54). -/
def execEnablePath (port : Port) (args : List Byte) (s : State) : Host.Outcome State Fault Refusal :=
  .next (s.command port (oneByte args) Role.supervises
    (fun index t => t.enablePath (t.port port).role index))

/-- DISABLE_PATH (R41, R54). -/
def execDisablePath (port : Port) (args : List Byte) (s : State) : Host.Outcome State Fault Refusal :=
  .next (s.command port (oneByte args) Role.supervises
    (fun index t => t.disablePath (t.port port).role index))

/-- SET_PATH_TIMERS (R51). -/
def execSetPathTimers (port : Port) (args : List Byte) (s : State) : Host.Outcome State Fault Refusal :=
  .next (s.command port (pathTimersArgs args) Role.operates
    (fun a t => t.setPathTimers a))

/-- SET_THRESHOLDS (R49). -/
def execSetThresholds (port : Port) (args : List Byte) (s : State) : Host.Outcome State Fault Refusal :=
  .next (s.command port (thresholdArgs args) Role.operates
    (fun a t => t.setThresholds a))

/-- SELECT_BANK (R50, R54). -/
def execSelectBank (port : Port) (args : List Byte) (s : State) : Host.Outcome State Fault Refusal :=
  .next (s.command port (bytePair args) Role.supervises
    (fun a t => t.selectBank (t.port port).role a.1 a.2))

/-- SET_SMOOTHING (R52). -/
def execSetSmoothing (port : Port) (args : List Byte) (s : State) : Host.Outcome State Fault Refusal :=
  .next (s.command port (smoothingArgs args) Role.operates
    (fun a t => t.setSmoothing a))

/-- POST_MARGIN (R47, R162). -/
def execPostMargin (port : Port) (args : List Byte) (s : State) : Host.Outcome State Fault Refusal :=
  .next (s.command port (postMarginArgs args) Role.supervises
    (fun entries t => t.postMargin entries))

/-- LOCK_PATH (R53). -/
def execLockPath (port : Port) (args : List Byte) (s : State) : Host.Outcome State Fault Refusal :=
  .next (s.command port (oneByte args) Role.operates
    (fun index t => t.lockPath index true))

/-- UNLOCK_PATH (R53). -/
def execUnlockPath (port : Port) (args : List Byte) (s : State) : Host.Outcome State Fault Refusal :=
  .next (s.command port (oneByte args) Role.operates
    (fun index t => t.lockPath index false))

/-- LOCK_ALL (R53). -/
def execLockAll (port : Port) (args : List Byte) (s : State) : Host.Outcome State Fault Refusal :=
  .next (s.command port (noArgs args) Role.operates
    (fun _ t => .ok (t.lockAll true)))

/-- UNLOCK_ALL (R53). -/
def execUnlockAll (port : Port) (args : List Byte) (s : State) : Host.Outcome State Fault Refusal :=
  .next (s.command port (noArgs args) Role.operates
    (fun _ t => .ok (t.lockAll false)))

/-- CLEAR_PATH_STATS (R61). -/
def execClearPathStats (port : Port) (args : List Byte) (s : State) : Host.Outcome State Fault Refusal :=
  .next (s.command port (oneByte args) Role.supervises
    (fun index t => t.clearPathStats index))

/-- SET_PEER_SITE (R9). -/
def execSetPeerSite (port : Port) (args : List Byte) (s : State) : Host.Outcome State Fault Refusal :=
  .next (s.command port (oneByte args) Role.operates
    (fun site t => t.setPeerSite site))

/-- SET_LINK (R16). -/
def execSetLink (port : Port) (args : List Byte) (s : State) : Host.Outcome State Fault Refusal :=
  .next (s.command port (twoBytes args) Role.operates
    (fun us t => t.setLink us))

end Sys2Proof.Machine
end

