-- ==== Sys2Proof/Machine/PortInputs.lean ====
section
/-! DEFINITION. The resets and the inputs of the Command Port Interface: one meaning per row (chapter 10, R175). -/

namespace Sys2Proof.Machine

/-- PIN_RESET (R175). -/
def execPinReset (site : BitVec 4) (role0 : BitVec 2) (role1 : BitVec 2) (role2 : BitVec 2) (s : State) :
    Host.Outcome State Fault Refusal :=
  .next (s.pinReset site role0 role1 role2)

/-- POWER_ON_RESET (R175): the same effects as pin reset. -/
def execPowerOnReset (site : BitVec 4) (role0 : BitVec 2) (role1 : BitVec 2) (role2 : BitVec 2) (s : State) :
    Host.Outcome State Fault Refusal :=
  .next (s.pinReset site role0 role1 role2)

/-- SOFT_RESET (R170). -/
def execSoftReset (port : Port) (args : List Byte) (s : State) : Host.Outcome State Fault Refusal :=
  .next (s.command port (noArgs args) Role.operates
    (fun _ t => .ok t.softReset))

/-- SOFT_RESET_PERIOD_END (R170). -/
def execSoftResetPeriodEnd (s : State) : Host.Outcome State Fault Refusal :=
  .next (s.softResetPeriodEnd)

/-- ATTENTION_READ_COMPLETE (R168). -/
def execAttentionReadComplete (port : Port) (s : State) : Host.Outcome State Fault Refusal :=
  .next (s.modPort port PortCtx.attentionDone)

/-- UNKNOWN_COMMAND (R161): the bytes after the command byte are ignored. -/
def execUnknownCommand (port : Port) (code : Byte) (_args : List Byte) (s : State) :
    Host.Outcome State Fault Refusal :=
  .next (s.unknownCommand port code)

/-- READ_ID (R169): answered in every state, BUSY periods included (R164, R170). -/
def execReadId (port : Port) (s : State) : Host.Outcome State Fault Refusal :=
  .next ((s.beginTransaction port).concludeRead port
    ((s.beginTransaction port).plainRead ((s.beginTransaction port).idBytes port)))

/-- READ_STATUS (R169). -/
def execReadStatus (port : Port) (s : State) : Host.Outcome State Fault Refusal :=
  .next (s.readCommand port (some ()) Role.any
    (fun _ t => t.plainRead (t.statusBytes port)))

/-- READ_ATTENTION (R168). -/
def execReadAttention (port : Port) (s : State) : Host.Outcome State Fault Refusal :=
  .next (s.readCommand port (some ()) Role.any
    (fun _ t => .ok (t.readAttention port)))

/-- SET_ATTENTION_MASK (R167). -/
def execSetAttentionMask (port : Port) (args : List Byte) (s : State) : Host.Outcome State Fault Refusal :=
  .next (s.command port (twoBytes args) Role.any
    (fun kinds t => t.setAttentionMask port kinds))

/-- INTERRUPTED_READ_SELECT_RISE (R171), and the rise of select on any other read (log entry 42). -/
def execInterruptedReadSelectRise (port : Port) (s : State) : Host.Outcome State Fault Refusal :=
  .next (s.interruptedRise port)

end Sys2Proof.Machine
end

