-- ==== Sys2Proof/Machine/RouteInputs.lean ====
section
/-! DEFINITION. The inputs of the Route Selector: one meaning per row (chapter 5). -/

namespace Sys2Proof.Machine

/-- GUARD_EXPIRY (R84). -/
def execGuardExpiry (s : State) : Host.Outcome State Fault Refusal :=
  .next (s.guardExpiry)

/-- READ_SELECTION (R90). -/
def execReadSelection (port : Port) (s : State) : Host.Outcome State Fault Refusal :=
  .next (s.readCommand port (some ()) Role.any
    (fun _ t => t.plainRead t.selectionBytes))

/-- SET_SELECTION (R87). -/
def execSetSelection (port : Port) (args : List Byte) (s : State) : Host.Outcome State Fault Refusal :=
  .next (s.command port (selectionArgs args) Role.operates
    (fun a t => t.setSelection a))

/-- PIN_PRIMARY (R88). -/
def execPinPrimary (port : Port) (args : List Byte) (s : State) : Host.Outcome State Fault Refusal :=
  .next (s.command port (oneByte args) Role.operates
    (fun index t => t.pinPrimary index))

/-- UNPIN_PRIMARY (R89). -/
def execUnpinPrimary (port : Port) (args : List Byte) (s : State) : Host.Outcome State Fault Refusal :=
  .next (s.command port (noArgs args) Role.operates
    (fun _ t => .ok t.unpinPrimary))

end Sys2Proof.Machine
end

