-- ==== Sys2Proof/Machine/SoundingInputs.lean ====
section
/-! DEFINITION. The inputs of the Sounding Unit, and SET BASE DELAY, which its sweep holds off: one meaning per row (chapter 9, R67). -/

namespace Sys2Proof.Machine

/-- PROBE_ISSUE (R146). -/
def execProbeIssue (s : State) : Host.Outcome State Fault Refusal :=
  .next (s.probeIssue)

/-- PROBE_TIMEOUT (R149). -/
def execProbeTimeout (s : State) : Host.Outcome State Fault Refusal :=
  .next (s.probeTimeout)

/-- SETTLE_DEADLINE (R154). -/
def execSettleDeadline (s : State) : Host.Outcome State Fault Refusal :=
  .next (s.settleDeadline)

/-- SET_BASE_DELAY (R67, R155). -/
def execSetBaseDelay (port : Port) (args : List Byte) (s : State) : Host.Outcome State Fault Refusal :=
  .next (s.command port (byteAndLong args) Role.operates
    (fun a t => t.setBaseDelay a.1 a.2))

/-- START_SWEEP (R144, R145). -/
def execStartSweep (port : Port) (args : List Byte) (s : State) : Host.Outcome State Fault Refusal :=
  .next (s.command port (sweepArgs args) Role.supervises
    (fun a t => t.startSweep a))

/-- SUSPEND_SWEEP (R152). -/
def execSuspendSweep (port : Port) (args : List Byte) (s : State) : Host.Outcome State Fault Refusal :=
  .next (s.command port (noArgs args) Role.supervises
    (fun _ t => .ok t.suspendSweep))

/-- RESUME_SWEEP (R152). -/
def execResumeSweep (port : Port) (args : List Byte) (s : State) : Host.Outcome State Fault Refusal :=
  .next (s.command port (noArgs args) Role.supervises
    (fun _ t => .ok t.resumeSweep))

/-- CANCEL_SWEEP (R153). -/
def execCancelSweep (port : Port) (args : List Byte) (s : State) : Host.Outcome State Fault Refusal :=
  .next (s.command port (noArgs args) Role.supervises
    (fun _ t => .ok t.cancelSweep))

/-- READ_SWEEP (R156). -/
def execReadSweep (port : Port) (s : State) : Host.Outcome State Fault Refusal :=
  .next (s.readCommand port (some ()) Role.any
    (fun _ t => t.plainRead t.sounding.bytes))

end Sys2Proof.Machine
end

