-- ==== Sys2Proof/Machine/StreamInputs.lean ====
section
/-! DEFINITION. The inputs of the local port, the Dispatch Unit and the Merge Unit: one meaning per row (chapters 6 and 7). -/

namespace Sys2Proof.Machine

/-- LOCAL_FRAME_START (R92). -/
def execLocalFrameStart (s : State) : Host.Outcome State Fault Refusal :=
  .next (s.localFrameStart)

/-- LOCAL_FRAME_INTAKE (R92 to R98). -/
def execLocalFrameIntake (bytes : List Byte) (s : State) : Host.Outcome State Fault Refusal :=
  .next (s.localFrameIntake bytes)

/-- LOCAL_TRANSMIT_END (R17). -/
def execLocalTransmitEnd (s : State) : Host.Outcome State Fault Refusal :=
  .next (s.localTransmitEnd)

/-- HOLD_EXPIRY (R116). -/
def execHoldExpiry (stream : StreamId) (s : State) : Host.Outcome State Fault Refusal :=
  .next (s.holdExpiry stream)

/-- READ_STREAM (R103, R126). -/
def execReadStream (port : Port) (args : List Byte) (s : State) : Host.Outcome State Fault Refusal :=
  .next (s.readCommand port (firstByte args) Role.any
    (fun index t => t.readStream index))

/-- SET_STREAM (R125, R101). -/
def execSetStream (port : Port) (args : List Byte) (s : State) : Host.Outcome State Fault Refusal :=
  .next (s.command port (streamArgs args) Role.gates
    (fun a t => t.setStream a))

/-- RESYNC_STREAM (R124). -/
def execResyncStream (port : Port) (args : List Byte) (s : State) : Host.Outcome State Fault Refusal :=
  .next (s.command port (oneByte args) Role.gates
    (fun index t => t.resyncStream index))

/-- SET_TX_SEQUENCE (R102). -/
def execSetTxSequence (port : Port) (args : List Byte) (s : State) : Host.Outcome State Fault Refusal :=
  .next (s.command port (byteAndLong args) Role.gates
    (fun a t => t.setTxSequence a.1 a.2))

end Sys2Proof.Machine
end

