-- ==== Sys2Proof/Machine/TimeInputs.lean ====
section
/-! DEFINITION. The inputs of the Time Unit: one meaning per row (chapter 2). -/

namespace Sys2Proof.Machine

/-- REF_PULSE (R27 to R29, R32). -/
def execRefPulse (ref : Ref) (dir : EdgeDir) (s : State) : Host.Outcome State Fault Refusal :=
  .next (s.refPulse ref dir)

/-- REF_TIMEOUT (R27, R28). -/
def execRefTimeout (ref : Ref) (s : State) : Host.Outcome State Fault Refusal :=
  .next (s.refTimeout ref)

/-- MARK_EDGE (R32). -/
def execMarkEdge (mark : Mark) (dir : EdgeDir) (s : State) : Host.Outcome State Fault Refusal :=
  .next (s.markEdge mark dir)

/-- MARKER_MATCH (R35). -/
def execMarkerMatch (out : Out) (s : State) : Host.Outcome State Fault Refusal :=
  .next (s.markerMatch out)

/-- MARKER_PULSE_END (R35). -/
def execMarkerPulseEnd (out : Out) (s : State) : Host.Outcome State Fault Refusal :=
  .next (s.markerPulseEnd out)

/-- READ_TIME (R26). -/
def execReadTime (port : Port) (s : State) : Host.Outcome State Fault Refusal :=
  .next (s.readCommand port (some ()) Role.any
    (fun _ t => t.plainRead t.time.bytes))

/-- SET_TIME (R22). -/
def execSetTime (port : Port) (args : List Byte) (s : State) : Host.Outcome State Fault Refusal :=
  .next (s.command port (longPair args) Role.operates
    (fun a t => t.setTime a.1 a.2))

/-- STEP_TIME (R23). -/
def execStepTime (port : Port) (args : List Byte) (s : State) : Host.Outcome State Fault Refusal :=
  .next (s.command port (signedLong args) Role.operates
    (fun offset t => t.stepTime offset))

/-- SET_FREQUENCY (R24). -/
def execSetFrequency (port : Port) (args : List Byte) (s : State) : Host.Outcome State Fault Refusal :=
  .next (s.command port (signedLong args) Role.operates
    (fun ppb t => t.setFrequency ppb))

/-- SET_DISCIPLINE (R25). -/
def execSetDiscipline (port : Port) (args : List Byte) (s : State) : Host.Outcome State Fault Refusal :=
  .next (s.command port (disciplineArgs args) Role.operates
    (fun a t => t.setDiscipline a))

/-- SET_CAPTURE (R31): the Time Unit itself checks the right (R164). -/
def execSetCapture (port : Port) (args : List Byte) (s : State) : Host.Outcome State Fault Refusal :=
  .next (s.command port (captureArgs args) Role.any
    (fun a t => t.setCapture (t.port port).role a))

/-- READ_CAPTURE (R33). -/
def execReadCapture (port : Port) (args : List Byte) (s : State) : Host.Outcome State Fault Refusal :=
  .next (s.readCommand port (firstByte args) Role.readsCapture
    (fun index t => t.readCapture index))

/-- SET_MARKER (R34). -/
def execSetMarker (port : Port) (args : List Byte) (s : State) : Host.Outcome State Fault Refusal :=
  .next (s.command port (markerArgs args) Role.gates
    (fun a t => t.setMarker a))

end Sys2Proof.Machine
end

