-- ==== Sys2Proof/Machine/Dispatch.lean ====
section
/-! DEFINITION. The meaning of every input: one arm per row of spec/opcode_table.json. -/

namespace Sys2Proof.Machine

def exec (i : Instr) (s : State) : Host.Outcome State Fault Refusal :=
  match i with
  | .pinReset site role0 role1 role2 => Sys2Proof.Machine.execPinReset site role0 role1 role2 s
  | .powerOnReset site role0 role1 role2 => Sys2Proof.Machine.execPowerOnReset site role0 role1 role2 s
  | .softReset port args => Sys2Proof.Machine.execSoftReset port args s
  | .softResetPeriodEnd => Sys2Proof.Machine.execSoftResetPeriodEnd s
  | .pathFrameStart path => Sys2Proof.Machine.execPathFrameStart path s
  | .pathFrameEnd path bytes => Sys2Proof.Machine.execPathFrameEnd path bytes s
  | .silenceTimerExpiry path => Sys2Proof.Machine.execSilenceTimerExpiry path s
  | .errorWindowEnd path => Sys2Proof.Machine.execErrorWindowEnd path s
  | .recoverHoldExpiry path => Sys2Proof.Machine.execRecoverHoldExpiry path s
  | .reportTimeout path => Sys2Proof.Machine.execReportTimeout path s
  | .scoreDecay path => Sys2Proof.Machine.execScoreDecay path s
  | .guardExpiry => Sys2Proof.Machine.execGuardExpiry s
  | .frameTransmitEnd path => Sys2Proof.Machine.execFrameTransmitEnd path s
  | .beaconWaitEnd path => Sys2Proof.Machine.execBeaconWaitEnd path s
  | .localFrameStart => Sys2Proof.Machine.execLocalFrameStart s
  | .localFrameIntake bytes => Sys2Proof.Machine.execLocalFrameIntake bytes s
  | .localTransmitEnd => Sys2Proof.Machine.execLocalTransmitEnd s
  | .holdExpiry stream => Sys2Proof.Machine.execHoldExpiry stream s
  | .probeIssue => Sys2Proof.Machine.execProbeIssue s
  | .probeTimeout => Sys2Proof.Machine.execProbeTimeout s
  | .settleDeadline => Sys2Proof.Machine.execSettleDeadline s
  | .refPulse ref dir => Sys2Proof.Machine.execRefPulse ref dir s
  | .refTimeout ref => Sys2Proof.Machine.execRefTimeout ref s
  | .markEdge mark dir => Sys2Proof.Machine.execMarkEdge mark dir s
  | .markerMatch out => Sys2Proof.Machine.execMarkerMatch out s
  | .markerPulseEnd out => Sys2Proof.Machine.execMarkerPulseEnd out s
  | .logHeadComplete port => Sys2Proof.Machine.execLogHeadComplete port s
  | .logImageComplete port => Sys2Proof.Machine.execLogImageComplete port s
  | .emptyImageComplete port => Sys2Proof.Machine.execEmptyImageComplete port s
  | .attentionReadComplete port => Sys2Proof.Machine.execAttentionReadComplete port s
  | .unknownCommand port code args => Sys2Proof.Machine.execUnknownCommand port code args s
  | .readId port => Sys2Proof.Machine.execReadId port s
  | .readStatus port => Sys2Proof.Machine.execReadStatus port s
  | .readAttention port => Sys2Proof.Machine.execReadAttention port s
  | .setAttentionMask port args => Sys2Proof.Machine.execSetAttentionMask port args s
  | .readPath port args => Sys2Proof.Machine.execReadPath port args s
  | .enablePath port args => Sys2Proof.Machine.execEnablePath port args s
  | .disablePath port args => Sys2Proof.Machine.execDisablePath port args s
  | .setPathTimers port args => Sys2Proof.Machine.execSetPathTimers port args s
  | .setThresholds port args => Sys2Proof.Machine.execSetThresholds port args s
  | .selectBank port args => Sys2Proof.Machine.execSelectBank port args s
  | .setBaseDelay port args => Sys2Proof.Machine.execSetBaseDelay port args s
  | .setSmoothing port args => Sys2Proof.Machine.execSetSmoothing port args s
  | .postMargin port args => Sys2Proof.Machine.execPostMargin port args s
  | .lockPath port args => Sys2Proof.Machine.execLockPath port args s
  | .unlockPath port args => Sys2Proof.Machine.execUnlockPath port args s
  | .lockAll port args => Sys2Proof.Machine.execLockAll port args s
  | .unlockAll port args => Sys2Proof.Machine.execUnlockAll port args s
  | .clearPathStats port args => Sys2Proof.Machine.execClearPathStats port args s
  | .setPeerSite port args => Sys2Proof.Machine.execSetPeerSite port args s
  | .readSelection port => Sys2Proof.Machine.execReadSelection port s
  | .setSelection port args => Sys2Proof.Machine.execSetSelection port args s
  | .pinPrimary port args => Sys2Proof.Machine.execPinPrimary port args s
  | .unpinPrimary port args => Sys2Proof.Machine.execUnpinPrimary port args s
  | .readStream port args => Sys2Proof.Machine.execReadStream port args s
  | .setStream port args => Sys2Proof.Machine.execSetStream port args s
  | .resyncStream port args => Sys2Proof.Machine.execResyncStream port args s
  | .setTxSequence port args => Sys2Proof.Machine.execSetTxSequence port args s
  | .readTime port => Sys2Proof.Machine.execReadTime port s
  | .setTime port args => Sys2Proof.Machine.execSetTime port args s
  | .stepTime port args => Sys2Proof.Machine.execStepTime port args s
  | .setFrequency port args => Sys2Proof.Machine.execSetFrequency port args s
  | .setDiscipline port args => Sys2Proof.Machine.execSetDiscipline port args s
  | .setCapture port args => Sys2Proof.Machine.execSetCapture port args s
  | .readCapture port args => Sys2Proof.Machine.execReadCapture port args s
  | .setMarker port args => Sys2Proof.Machine.execSetMarker port args s
  | .startSweep port args => Sys2Proof.Machine.execStartSweep port args s
  | .suspendSweep port args => Sys2Proof.Machine.execSuspendSweep port args s
  | .resumeSweep port args => Sys2Proof.Machine.execResumeSweep port args s
  | .cancelSweep port args => Sys2Proof.Machine.execCancelSweep port args s
  | .readSweep port => Sys2Proof.Machine.execReadSweep port s
  | .setLogFilter port args => Sys2Proof.Machine.execSetLogFilter port args s
  | .readLog port => Sys2Proof.Machine.execReadLog port s
  | .peekLog port => Sys2Proof.Machine.execPeekLog port s
  | .seekLog port args => Sys2Proof.Machine.execSeekLog port args s
  | .setLink port args => Sys2Proof.Machine.execSetLink port args s
  | .interruptedReadSelectRise port => Sys2Proof.Machine.execInterruptedReadSelectRise port s

end Sys2Proof.Machine
end

