-- ==== Sys2Proof/Safety.lean ====
section
/-! DEFINITION. What the statements speak of: the framing and rights tables as the manual prints them, the state a judged
transaction leaves on its port, the frames of the route inputs, and the invariants of the part. -/

namespace Sys2Proof

open Sys2Proof.Machine

/-- Whether a command's transaction is well framed, from the argument counts of R173 (R161, R162): `none` for a row that is
no known command. A read with one argument takes more bytes without harm (R160). -/
def Instr.framing : Instr → Option Bool
  | .pinReset _ _ _ _ => none
  | .powerOnReset _ _ _ _ => none
  | .softReset _ args => some (args.length == 0)
  | .softResetPeriodEnd => none
  | .pathFrameStart _ => none
  | .pathFrameEnd _ _ => none
  | .silenceTimerExpiry _ => none
  | .errorWindowEnd _ => none
  | .recoverHoldExpiry _ => none
  | .reportTimeout _ => none
  | .scoreDecay _ => none
  | .guardExpiry => none
  | .frameTransmitEnd _ => none
  | .beaconWaitEnd _ => none
  | .localFrameStart => none
  | .localFrameIntake _ => none
  | .localTransmitEnd => none
  | .holdExpiry _ => none
  | .probeIssue => none
  | .probeTimeout => none
  | .settleDeadline => none
  | .refPulse _ _ => none
  | .refTimeout _ => none
  | .markEdge _ _ => none
  | .markerMatch _ => none
  | .markerPulseEnd _ => none
  | .logHeadComplete _ => none
  | .logImageComplete _ => none
  | .emptyImageComplete _ => none
  | .attentionReadComplete _ => none
  | .unknownCommand _ _ _ => none
  | .readId _ => some true
  | .readStatus _ => some true
  | .readAttention _ => some true
  | .setAttentionMask _ args => some (args.length == 2)
  | .readPath _ args => some (args.length != 0)
  | .enablePath _ args => some (args.length == 1)
  | .disablePath _ args => some (args.length == 1)
  | .setPathTimers _ args => some (args.length == 13)
  | .setThresholds _ args => some (args.length == 9)
  | .selectBank _ args => some (args.length == 2)
  | .setBaseDelay _ args => some (args.length == 5)
  | .setSmoothing _ args => some (args.length == 5)
  | .postMargin _ args => some (args.length % 2 == 0 && args.length != 0)
  | .lockPath _ args => some (args.length == 1)
  | .unlockPath _ args => some (args.length == 1)
  | .lockAll _ args => some (args.length == 0)
  | .unlockAll _ args => some (args.length == 0)
  | .clearPathStats _ args => some (args.length == 1)
  | .setPeerSite _ args => some (args.length == 1)
  | .readSelection _ => some true
  | .setSelection _ args => some (args.length == 6)
  | .pinPrimary _ args => some (args.length == 1)
  | .unpinPrimary _ args => some (args.length == 0)
  | .readStream _ args => some (args.length != 0)
  | .setStream _ args => some (args.length == 9)
  | .resyncStream _ args => some (args.length == 1)
  | .setTxSequence _ args => some (args.length == 5)
  | .readTime _ => some true
  | .setTime _ args => some (args.length == 8)
  | .stepTime _ args => some (args.length == 4)
  | .setFrequency _ args => some (args.length == 4)
  | .setDiscipline _ args => some (args.length == 8)
  | .setCapture _ args => some (args.length == 4)
  | .readCapture _ args => some (args.length != 0)
  | .setMarker _ args => some (args.length == 16)
  | .startSweep _ args => some (args.length == 8)
  | .suspendSweep _ args => some (args.length == 0)
  | .resumeSweep _ args => some (args.length == 0)
  | .cancelSweep _ args => some (args.length == 0)
  | .readSweep _ => some true
  | .setLogFilter _ args => some (args.length == 4)
  | .readLog _ => some true
  | .peekLog _ => some true
  | .seekLog _ args => some (args.length == 1)
  | .setLink _ args => some (args.length == 2)
  | .interruptedReadSelectRise _ => none

/-- Whether an input is a read command: its command byte is one of the reads of R163. -/
def Instr.isRead (i : Instr) : Bool :=
  match i.code with
  | some code => [0x01#8, 0x02#8, 0x03#8, 0x10#8, 0x20#8, 0x30#8, 0x40#8, 0x46#8, 0x54#8, 0x61#8, 0x62#8].contains code
  | none => false

/-- Whether a port's role may issue an input, from the rights table of R164. For SET CAPTURE the channel byte decides (R31);
a channel above 3 is judged before the right. -/
def Instr.permits : Instr → Role → Bool
  | .pinReset _ _ _ _, _ => true
  | .powerOnReset _ _ _ _, _ => true
  | .softReset _ _, role => role == .operator
  | .softResetPeriodEnd, _ => true
  | .pathFrameStart _, _ => true
  | .pathFrameEnd _ _, _ => true
  | .silenceTimerExpiry _, _ => true
  | .errorWindowEnd _, _ => true
  | .recoverHoldExpiry _, _ => true
  | .reportTimeout _, _ => true
  | .scoreDecay _, _ => true
  | .guardExpiry, _ => true
  | .frameTransmitEnd _, _ => true
  | .beaconWaitEnd _, _ => true
  | .localFrameStart, _ => true
  | .localFrameIntake _, _ => true
  | .localTransmitEnd, _ => true
  | .holdExpiry _, _ => true
  | .probeIssue, _ => true
  | .probeTimeout, _ => true
  | .settleDeadline, _ => true
  | .refPulse _ _, _ => true
  | .refTimeout _, _ => true
  | .markEdge _ _, _ => true
  | .markerMatch _, _ => true
  | .markerPulseEnd _, _ => true
  | .logHeadComplete _, _ => true
  | .logImageComplete _, _ => true
  | .emptyImageComplete _, _ => true
  | .attentionReadComplete _, _ => true
  | .unknownCommand _ _ _, _ => true
  | .readId _, _ => true
  | .readStatus _, _ => true
  | .readAttention _, _ => true
  | .setAttentionMask _ _, _ => true
  | .readPath _ _, _ => true
  | .enablePath _ _, role => role == .supervisor || role == .operator
  | .disablePath _ _, role => role == .supervisor || role == .operator
  | .setPathTimers _ _, role => role == .operator
  | .setThresholds _ _, role => role == .operator
  | .selectBank _ _, role => role == .supervisor || role == .operator
  | .setBaseDelay _ _, role => role == .operator
  | .setSmoothing _ _, role => role == .operator
  | .postMargin _ _, role => role == .supervisor || role == .operator
  | .lockPath _ _, role => role == .operator
  | .unlockPath _ _, role => role == .operator
  | .lockAll _ _, role => role == .operator
  | .unlockAll _ _, role => role == .operator
  | .clearPathStats _ _, role => role == .supervisor || role == .operator
  | .setPeerSite _ _, role => role == .operator
  | .readSelection _, _ => true
  | .setSelection _ _, role => role == .operator
  | .pinPrimary _ _, role => role == .operator
  | .unpinPrimary _ _, role => role == .operator
  | .readStream _ _, _ => true
  | .setStream _ _, role => role == .gateway || role == .operator
  | .resyncStream _ _, role => role == .gateway || role == .operator
  | .setTxSequence _ _, role => role == .gateway || role == .operator
  | .readTime _, _ => true
  | .setTime _ _, role => role == .operator
  | .stepTime _ _, role => role == .operator
  | .setFrequency _ _, role => role == .operator
  | .setDiscipline _ _, role => role == .operator
  | .setCapture _ args, role =>
    match (args.headD 0).toNat with
    | 0 => role == .operator
    | 1 => role == .operator
    | 2 => role == .gateway || role == .operator
    | 3 => role == .gateway || role == .operator
    | _ => true
  | .readCapture _ _, role => role == .supervisor || role == .gateway || role == .operator
  | .setMarker _ _, role => role == .gateway || role == .operator
  | .startSweep _ _, role => role == .supervisor || role == .operator
  | .suspendSweep _ _, role => role == .supervisor || role == .operator
  | .resumeSweep _ _, role => role == .supervisor || role == .operator
  | .cancelSweep _ _, role => role == .supervisor || role == .operator
  | .readSweep _, _ => true
  | .setLogFilter _ _, _ => true
  | .readLog _, _ => true
  | .peekLog _, _ => true
  | .seekLog _ _, _ => true
  | .setLink _ _, role => role == .operator
  | .interruptedReadSelectRise _, _ => true

end Sys2Proof

namespace Sys2Proof.Machine

/-! ## What a judged transaction leaves -/

/-- The state after a transaction that does nothing but set the result: the port has clocked out its status byte and has no
read in progress, and nothing else differs. -/
def State.answered (s : State) (p : Port) (r : ResultCode) : State :=
  s.modPort p (fun c => { c with lastResult := r, statusOut := s.statusByte p, reading := none, response := [] })

/-- The state after a read refused BUSY, RIGHTS or ARGUMENT: the result and the status byte are the port's, and zero bytes
are clocked out until select rises (R163, R171). -/
def State.readRefused (s : State) (p : Port) (r : ResultCode) : State :=
  s.modPort p (fun c =>
    { c with lastResult := r, statusOut := s.statusByte p, reading := some .plain, response := [] })

/-- The state after a refusal of a command that changes state, or of a read. -/
def State.refused (s : State) (i : Instr) (p : Port) (r : ResultCode) : State :=
  if i.isRead then s.readRefused p r else s.answered p r

/-- The issuing port's command is taken: the soft reset period is over and the role holds the right. -/
def State.mayTake (s : State) (p : Port) (i : Instr) : Prop := s.resetting = none ∧ i.permits (s.port p).role = true

/-! ## Frames -/

/-- Nothing differs outside the route: the path entries, the transmitters, the selection, the sweep, the log and the port
contexts. -/
def State.routeOnly (s t : State) : Prop :=
  t = { s with
    paths := t.paths, transmitters := t.transmitters, selector := t.selector, sounding := t.sounding, log := t.log
    ports := t.ports }

/-- The selection parameters and the pin do not differ. -/
def State.sameParameters (s t : State) : Prop :=
  t.selector = { s.selector with
    primary := t.selector.primary, dispatchSet := t.selector.dispatchSet, guard := t.selector.guard
    rank := t.selector.rank }

/-- No entry but p's differs. -/
def State.entriesBut (s t : State) (p : Path) : Prop := ∀ q, q ≠ p → t.entry q = s.entry q

/-- An evaluation moves nothing of an entry but its state fields, what a closed burst moves, E and the flush drops. -/
def PathEntry.evaluatedFrom (e e' : PathEntry) : Prop :=
  e' = { e with
    state := e'.state, reason := e'.reason, entered := e'.entered, holdDeadline := e'.holdDeadline
    delay := e'.delay, score := e'.score, effDelay := e'.effDelay
    stats := { e.stats with flushDrops := e'.stats.flushDrops } }

/-- A port context differs only in its pending set and in what a READ ATTENTION has noted as raised. -/
def PortCtx.raisedFrom (c c' : PortCtx) : Prop :=
  c' = { c with pending := c'.pending, reading := c'.reading } ∧ c.pending &&& ~~~c'.pending = 0

/-- No port context differs but by attention raised. -/
def State.portsRaised (s t : State) : Prop := ∀ p, (s.port p).raisedFrom (t.port p)

/-! ## What the statements say of evaluations, sweeps and deliveries -/

/-- The path is neither silent nor out of errors (R42, R45). -/
def State.inContact (s : State) (p : Path) : Prop :=
  (s.receiver p).silence.silent = false ∧ (s.entry p).exhausted = false

/-- The state and the reason that an evaluation at `mono` leaves (R42 to R44, R46), for a path in contact whose thresholds
are in order. A RECOVERING path whose hold deadline `mono` has reached is recovered, whatever input evaluates it (log entry
23). -/
def PathEntry.evaluatesTo (e : PathEntry) (p : Path) (mono : Nat) : LocalState × Reason :=
  let below (threshold : Int) : Bool := match (if p = .f then none else e.margin) with
    | none => false
    | some m => decide (m < threshold)
  let bank : Bank := if e.bankOne then e.bank1 else e.bank0
  let recovered : LocalState × Reason := if below bank.wn then (.fading, .margin) else (.active, e.reason)
  match e.state with
  | .disabled => (.disabled, e.reason)
  | .failed =>
    if below bank.rc then (.failed, e.reason)
    else if e.recoverHold = 0 then recovered
    else (.recovering, e.reason)
  | .recovering =>
    if below bank.rc then (.failed, .margin)
    else match e.holdDeadline with
      | some d => if d ≤ mono then recovered else (.recovering, e.reason)
      | none => (.recovering, e.reason)
  | .active => if below bank.fl then (.failed, .margin) else recovered
  | .fading =>
    if below bank.fl then (.failed, .margin) else if below bank.k then (.fading, e.reason) else (.active, .margin)

/-- The thresholds in force on a radio path are in order (R49). -/
def PathEntry.inOrder (e : PathEntry) (p : Path) : Prop :=
  let bank : Bank := if e.bankOne then e.bank1 else e.bank0
  p ≠ .f → bank.fl < bank.wn ∧ bank.wn ≤ bank.k ∧ bank.fl < bank.rc

/-- What an evaluation at `mono` leaves of the state, the reason, the time entered and the recover hold (R39, R42 to R44,
R46): a state that stays keeps its hold deadline, entry to RECOVERING starts a hold, any other change ends it. R46 says the
last of FAILED and DISABLED; that a path which becomes ACTIVE or FADING has no hold deadline either is log entry 23. -/
def PathEntry.settles (e e' : PathEntry) (p : Path) (mono : Nat) : Prop :=
  (e'.state, e'.reason) = e.evaluatesTo p mono
    ∧ (e'.state = e.state → e'.entered = e.entered ∧ e'.holdDeadline = e.holdDeadline)
    ∧ (e'.state ≠ e.state → e'.entered = mono
        ∧ e'.holdDeadline = if e'.state = .recovering then some (mono + e.recoverHold * 1000000) else none)

/-- The result of a burst whose path enters FAILED: OK with a valid sample, ABORTED without one (R151). -/
def Sounding.closure (x : Sounding) : BurstResult := if 1 ≤ x.valid then .ok else .aborted

/-- An entry after a burst report on its path (R59): OK halves the score and, unless the path is locked, applies the least
sample to D; FAILED adds 64 to the score; ABORTED changes nothing. -/
def PathEntry.afterBurst (e : PathEntry) (p : Path) (result : BurstResult) (least : Nat) : PathEntry :=
  let reported : PathEntry := { e with
    score := if result = .ok then e.score / 2 else min 255 (e.score + 64)
    delay := if result = .ok ∧ e.locked = false then some (match e.delay with
        | none => least
        | some d => ((d : Int) + ((least : Int) - d) / (2 ^ (e.weight + 1) : Nat)).toNat)
      else e.delay }
  if result = .ok ∨ result = .failed then { reported with effDelay := reported.formDelay p } else e

/-- The entry of a path that fails (R39, R42): the new state and reason, the hold ended (R46; from a state other than
RECOVERING by log entry 23), the flushed copies counted, and the report of a burst on it that the failure closes (R151). -/
def PathEntry.afterFailure (e : PathEntry) (p : Path) (reason : Reason) (mono flushed : Nat) (x : Sounding) : PathEntry :=
  let failed : PathEntry := { e with
    state := .failed, reason := reason, entered := mono, holdDeadline := none
    stats := { e.stats with flushDrops := min 4294967295 (e.stats.flushDrops + flushed) } }
  if x.current = some p then failed.afterBurst p x.closure (x.minimum.getD 0) else failed

/-- The records written between two states, oldest first, when the log has not given any up. -/
def State.written (s t : State) : List RecordBody := (t.log.records.drop s.log.records.length).map LogRecord.body

/-- `t` is a state after an input in which path `p`, whose entry the input made `e`, entered FAILED with `reason` (R39,
R13, R151): its entry, its flushed queue, PATH attention, the STATE record, and the SOUND record of a burst on it. -/
def State.pathFailed (s t : State) (p : Path) (e : PathEntry) (reason : Reason) : Prop :=
  let x := s.sounding
  t.entry p = e.afterFailure p reason s.mono (s.transmitter p).queue.length x ∧ (t.transmitter p).queue = []
    ∧ t.sounding.current ≠ some p ∧ (∀ q, AttnSet.has (t.port q).pending .path = true)
    ∧ (s.log.records.length ≤ 1000 →
        .state p e.state .failed reason (if p = .f then none else e.margin) ∈ s.written t
        ∧ (x.current = some p →
            .sound p x.closure x.valid x.lost x.minimum (t.entry p).delay (decide (1 ≤ x.valid) && e.locked)
              ∈ s.written t))

/-- What a lock holds of an entry (R54): the thresholds, the active bank, the timers with the smoothing settings, D, the
lock itself, and whether the path is DISABLED. -/
def PathEntry.configurationKept (e e' : PathEntry) : Prop :=
  e'.bank0 = e.bank0 ∧ e'.bank1 = e.bank1 ∧ e'.bankOne = e.bankOne
    ∧ e'.silenceTimeout = e.silenceTimeout ∧ e'.windowLength = e.windowLength ∧ e'.errorLimit = e.errorLimit
    ∧ e'.recoverHold = e.recoverHold ∧ e'.reportTimeout = e.reportTimeout
    ∧ e'.weight = e.weight ∧ e'.lossWeight = e.lossWeight ∧ e'.decayInterval = e.decayInterval
    ∧ e'.delay = e.delay ∧ e'.locked = e.locked ∧ (e'.state = .disabled ↔ e.state = .disabled)

/-- Whether a sweep passes over a path at its turn (R145). -/
def State.outOfService (s : State) (p : Path) : Bool :=
  (s.entry p).state == .disabled || (s.entry p).state == .failed

/-- The remaining paths whose turn passes at once (R145). -/
def State.skippedTurns (s : State) : List Path :=
  (Path.all.filter s.sounding.remaining.has).takeWhile s.outOfService

/-- The path whose burst the next turn begins, if there is one (R145). -/
def State.turnPath (s : State) : Option Path :=
  ((Path.all.filter s.sounding.remaining.has).dropWhile s.outOfService).head?

/-- `t` is what the issue of the next probe on `p` leaves of `s` (R146, R14): an idle transmitter starts it, with t1 and its
timeout deadline held, unless a pending echo goes first; a busy one, and that of a DISABLED path, keeps it pending. -/
def State.probeIssued (s t : State) (p : Path) : Prop :=
  let x := s.sounding
  let k := x.probeIndex
  let m := s.transmitter p
  let head (body : FrameBody) : InProgress :=
    ⟨⟨s.siteId, BitVec.ofNat 4 p.idx.val, (s.entry p).state, s.time.quality, body⟩, false⟩
  ((m.inProgress ≠ none ∨ (s.entry p).state = .disabled) →
      t.sounding = { x with probeIndex := k + 1, pendingProbe := some k }
      ∧ t.transmitter p = { m with probe := some ⟨x.tag, k⟩ })
    ∧ (m.inProgress = none → (s.entry p).state ≠ .disabled → m.echo = none →
      t.sounding = { x with
        probeIndex := k + 1, pendingProbe := none, lastT1 := some s.mono
        outstanding := some ⟨k, s.mono, s.mono + x.timeout * 1000⟩ }
      ∧ t.transmitter p = { m with probe := none, inProgress := some (head (.probe x.tag k)) })
    ∧ (∀ e, m.inProgress = none → (s.entry p).state ≠ .disabled → m.echo = some e →
      t.sounding = { x with probeIndex := k + 1, pendingProbe := some k }
      ∧ t.transmitter p = { m with
        echo := none, probe := some ⟨x.tag, k⟩
        inProgress := some (head (.echo e.tag e.index (min 4294967295 (s.mono - e.arrival)))) })
    ∧ (∀ q, q ≠ p → t.transmitter q = s.transmitter q)
    ∧ t = { s with sounding := t.sounding, transmitters := t.transmitters }

/-- `t` is what the next turn of the sweep leaves of `s` (R145, R146): a SKIPPED record for each path passed over, then
probe 0 of a burst on the first path in service, or the end of the sweep. -/
def State.turnTaken (s t : State) : Prop :=
  let x := s.sounding
  t.log.next = s.log.next + BitVec.ofNat 32 s.skippedTurns.length
    ∧ (s.log.records.length ≤ 1000 → ∀ (k : Nat) (q : Path), s.skippedTurns[k]? = some q →
        t.log.records[s.log.records.length + k]? = some ⟨s.log.next + BitVec.ofNat 32 k, s.time.tod, s.time.quality,
          .sound q .skipped 0 0 none (s.entry q).delay false⟩)
    ∧ (∀ p, s.turnPath = some p →
        (∀ q, t.sounding.remaining.has q = (x.remaining.has q && decide (p.idx.val < q.idx.val)))
          ∧ State.probeIssued { s with
              log := t.log, ports := t.ports
              sounding := { x with
                current := some p, remaining := t.sounding.remaining, probeIndex := 0, minimum := none, valid := 0
                lost := 0, lastT1 := none } } t p)
    ∧ (s.turnPath = none →
        t.sounding = { x with
            state := .idle, reason := none, settleDeadline := none, current := none, remaining := 0 }
          ∧ t.transmitters = s.transmitters ∧ ∀ q, AttnSet.has (t.port q).pending .sweep = true)
    ∧ s.portsRaised t ∧ t = { s with sounding := t.sounding, transmitters := t.transmitters, log := t.log, ports := t.ports }

/-- `t` is what the end of a burst with `result` leaves of the sweep and the log (R150, R145), `s` holding the burst with its
samples and neither a pending nor an outstanding probe: the SOUND record after the report; then a RUNNING sweep takes the
next turn, a sweep with no path left ends, and a SUSPENDED one with paths left waits without a current path. -/
def State.burstOver (s t : State) (p : Path) (result : BurstResult) : Prop :=
  let x := s.sounding
  let now : State := { t with sounding := { x with current := none }, transmitters := s.transmitters, ports := s.ports }
  let passed : Nat := if x.state = .running then now.skippedTurns.length else 0
  let written : Nat := t.log.records.length - passed
  let next : Seq := t.log.next - BitVec.ofNat 32 passed
  t.log.records[written - 1]? = some ⟨next - 1, s.time.tod, s.time.quality,
      .sound p result x.valid x.lost x.minimum (t.entry p).delay (decide (result = .ok) && (s.entry p).locked)⟩
    ∧ (x.state ≠ .running → x.remaining ≠ 0 → t.sounding = now.sounding ∧ t.transmitters = s.transmitters)
    ∧ ((x.state = .running ∨ x.remaining = 0) →
        State.turnTaken { now with log := { t.log with records := t.log.records.take written, next := next } } t)

/-- `t` is what the end of the burst on `p` leaves of `s` (R150, R59): OK with a valid sample, FAILED without one; then the
next turn, or the end of the sweep. -/
def State.burstEnded (s t : State) (p : Path) : Prop :=
  let x := s.sounding
  let result : BurstResult := if 1 ≤ x.valid then .ok else .failed
  t.entry p = (s.entry p).afterBurst p result (x.minimum.getD 0)
    ∧ (s.skippedTurns = [] → t.log.records.getLast? = some ⟨t.log.next - 1, s.time.tod, s.time.quality,
        .sound p result x.valid x.lost x.minimum (t.entry p).delay (decide (result = .ok) && (s.entry p).locked)⟩)
    ∧ (x.remaining = 0 → t.sounding.state = .idle ∧ t.sounding.current = none
        ∧ ∀ q, AttnSet.has (t.port q).pending .sweep = true)
    ∧ ((∀ y, s.selector.primary = some y → s.eligible y = true) → s.burstOver t p result)
    ∧ s.entriesBut t p ∧ s.sameParameters t ∧ s.portsRaised t ∧ s.routeOnly t

/-- A pending probe withdrawn from the transmitter of the current path and an outstanding one abandoned (R15, R151 to
R154). -/
def State.probeDropped (s : State) : State :=
  let x : Sounding := { s.sounding with pendingProbe := none, outstanding := none }
  match s.sounding.current, s.sounding.pendingProbe with
  | some p, some _ => { s.modTransmitter p (fun m => { m with probe := none }) with sounding := x }
  | _, _ => { s with sounding := x }

/-- Whether the entries given take the primary out of eligibility with no eligible pin to follow it, which makes a change of
kind FALLBACK or LOSS (R79, R80). -/
def State.losesPrimary (s : State) (paths : Vector PathEntry 5) : Bool :=
  let eligible := State.eligible { s with paths := paths }
  s.selector.primary.any (fun y => !eligible y) && !s.selector.pin.any eligible

/-- The sweep after a FALLBACK or LOSS, if one is reported (R154): without a settle time as it was; a RUNNING one SUSPENDED
until the settle deadline, its probe dropped; one suspended on fallback with its deadline started anew. -/
def State.afterLoss (s : State) (lost : Bool) : State :=
  let u := s.probeDropped
  let deadline := some (s.mono + s.sounding.settle * 1000000)
  if lost = false ∨ s.sounding.settle = 0 then s
  else match s.sounding.state, s.sounding.reason with
    | .running, _ => { u with
        sounding := { u.sounding with state := .suspended, reason := some .fallback, settleDeadline := deadline } }
    | .suspended, some .fallback => { s with sounding := { s.sounding with settleDeadline := deadline } }
    | _, _ => s

/-- `t` is what taking `p` out of service leaves of the sweep and the transmitters of `s` (R39, R151, R154), `stop` being
what p's transmitter itself loses: first a fallback it causes suspends the sweep, then a burst on `p` drops its probe and
ends with `result`. -/
def State.sweepLeft (s t : State) (p : Path) (result : BurstResult) (stop : Transmitter → Transmitter) : Prop :=
  let u := (s.afterLoss (s.losesPrimary t.paths)).modTransmitter p stop
  (s.sounding.current = some p → u.probeDropped.burstOver t p result)
    ∧ (s.sounding.current ≠ some p → t.sounding = u.sounding ∧ t.transmitters = u.transmitters)

/-- The first arrivals of the HELD slots (R115). -/
def RxStream.heldArrivals (x : RxStream) : List Nat :=
  x.slots.filterMap (fun y => match y with | .held info _ => some info.arrival | _ => none)

/-- The hold deadline that R115 forms: the earliest first arrival of a HELD slot plus the hold time, none without one. -/
def RxStream.deadlineFormed (x : RxStream) : Option Nat := x.heldArrivals.min?.map (fun a => a + x.holdTime * 1000)

/-- A slot after the delivery of its frame (R114). -/
def Slot.delivered : Slot → Slot
  | .held info _ => .done info
  | y => y

/-- The frames of the HELD slots, in sequence order; the first slot is that of sequence `q` (R117). -/
def heldFrames (i : StreamId) (q : Seq) (slots : List Slot) : List DeliveredFrame :=
  (List.range slots.length).filterMap (fun k : Nat => match (slots[k]? : Option Slot) with
    | some (.held info f) => some ⟨i, f.payload, q + BitVec.ofNat 32 k, info.path, f.arrival⟩
    | _ => none)

/-- The DELIVERY record of a frame delivered at `now` (R117, R129, R174). -/
def deliveryBody (now : Tod) (f : DeliveredFrame) (arrivalQuality sender : Quality) (origin : Tod) (holdDelay : Option Nat)
    (held dropped eligible : Bool) : RecordBody :=
  let ahead : Int := (f.arrival.sec - now.sec).toInt
  let oneWay : Int := (f.arrival.sec - origin.sec).toInt * 1000000000 + ((f.arrival.ns : Int) - origin.ns)
  .delivery
    { stream := f.stream, seq := f.seq, path := f.path
      arrivalOffset := if -127 ≤ ahead ∧ ahead ≤ 127 then some ahead else none
      arrivalNs := f.arrival.ns, arrivalQuality := arrivalQuality
      oneWay := if arrivalQuality = .locked ∧ sender = .locked then some (max (-2147483647) (min 2147483647 oneWay))
        else none
      holdDelay := holdDelay, held := held, dropped := dropped, fromIneligible := !eligible }

/-- The DELIVERY records of the HELD slots delivered at `now`, none of them dropped; the first slot is that of `q`. -/
def heldRecords (i : StreamId) (q : Seq) (slots : List Slot) (now : Stamp) : List RecordBody :=
  (List.range slots.length).filterMap (fun k : Nat => match (slots[k]? : Option Slot) with
    | some (.held info f) => some (deliveryBody now.tod ⟨i, f.payload, q + BitVec.ofNat 32 k, info.path, f.arrival⟩
        f.arrivalQuality f.sender f.origin (some (min 4294967295 (now.mono - info.arrival))) true false f.eligible)
    | _ => none)

/-- `t` shows on the port the image chosen from a position (R137 to R139): the first record from it on that passes the
port's filter, or without one the EMPTY image, with the next serial and the moment of the choice. -/
def State.imageChosen (s t : State) (port : Port) (position : Seq) (reading : LogPhase → Reading) : Prop :=
  let passes (r : LogRecord) : Bool := (s.reader port).filter.getLsbD r.body.kindCode
  (∀ r, (s.log.since position).find? passes = some r →
      (t.port port).reading = some (reading (.image r.serial)) ∧ (t.port port).response = r.image)
    ∧ ((∀ r ∈ s.log.since position, passes r = false) →
      (t.port port).reading = some (reading (.empty s.log.next))
        ∧ (t.port port).response = leBytes 4 s.log.next.toNat ++ [BitVec.ofNat 8 (16 * s.time.quality.code)]
          ++ s.time.tod.bytes ++ List.replicate 19 0#8)

/-! ## What the statements say of resets, references and TOD steps -/

/-- The entries, the peer site, the beacon interval, the selection, the streams, intake malformed, the delivery queue and the
sweep hold the values the chapters give after a reset (R9, R16, R38 with R64, R77, R93, R100, R106, R118, R143); the first
score decay period ends 1,000 ms after `endOfReset` (R58; log entry 26). -/
def State.hasResetValues (t : State) (endOfReset : Nat) : Prop :=
  (∀ p, t.entry p =
      { state := .disabled, reason := .operator, entered := 0, farState := none, farQuality := none
        margin := none, reportTime := 0, stale := false, reportDeadline := none
        bank0 := ⟨40, 24, 8, 32, 20, 20000⟩, bank1 := ⟨40, 24, 8, 32, 20, 20000⟩, bankOne := false
        silenceTimeout := 2000, windowLength := 100, errorLimit := 50, recoverHold := 10000, reportTimeout := 5000
        window := none, holdDeadline := none, delay := none, weight := 2, lossWeight := 8, decayInterval := 1000
        decayDeadline := endOfReset + 1000000000, score := 0, effDelay := 16777215, locked := false
        stats := ⟨0, 0, 0, 0, 0, 0, 4294967295, 0, 0, 0, 0, 0, 0, 0, 0, 0⟩ })
    ∧ t.peerSite = none ∧ t.beaconInterval = 100
    ∧ t.selector =
      { primary := none, dispatchSet := 0, guard := none, pin := none, hysteresis := 200, widthCode := 1
        shadow := true, guardTime := 500, rank := [.a, .b, .c, .d, .f] }
    ∧ (∀ i, t.rxStream i = ⟨false, 4, false, 200, 8, true, false, 0, 0, 0, none, 0, 0, 0, 0, 0, 0, 0, []⟩
        ∧ t.txStream i = ⟨false, 0, 0, 0, 0, 0⟩)
    ∧ t.localPort.malformed = 0 ∧ t.localPort.queue = []
    ∧ t.sounding =
      { state := .idle, reason := none, tag := 0, pathSet := 0, remaining := 0, countCode := 0, spacing := 10
        timeout := 1, settle := 0, current := none, probeIndex := 0, pendingProbe := none, outstanding := none
        minimum := none, valid := 0, lost := 0, lastT1 := none, settleDeadline := none, stale := 0 }

/-- The clock after the active reference is chosen to be `new` (R28): a change acts on ph, the lock count and the quality of
a disciplined clock, and on nothing else. -/
def TimeUnit.afterSwitch (u : TimeUnit) (new : Option Ref) : TimeUnit :=
  if u.discipline = false ∨ u.active = new then { u with active := new }
  else match u.active, new, u.quality with
    | _, none, .locking => { u with active := new, ph := 0, lockCount := 0, quality := .holdover }
    | _, none, .locked => { u with active := new, ph := 0, lockCount := 0, quality := .holdover }
    | _, none, _ => { u with active := new, ph := 0 }
    | none, some _, .holdover => { u with active := new, lockCount := 0, quality := .locking }
    | none, some _, _ => { u with active := new }
    | some _, some _, .locked => { u with active := new, ph := 0, lockCount := 0, quality := .locking }
    | some _, some _, _ => { u with active := new, ph := 0, lockCount := 0 }

/-- What `t` has written and raised since `s` for the choice of `new` as the active reference (R28, R21): a change writes
first of all a REFERENCE SWITCH record with offset 0 for REF0, 1 for REF1 or -1 for none, then a QUALITY record with offset
0 if the quality changes by it, and raises TIME; without a change no REFERENCE SWITCH record is written. That the records
show the quality after the change is log entry 15. -/
def State.switchNoted (s t : State) (new : Option Ref) : Prop :=
  let n := s.log.records.length
  let quality := (s.time.afterSwitch new).quality
  let offset : Int := match new with | some .ref0 => 0 | some .ref1 => 1 | none => -1
  (new ≠ s.time.active → (∀ q, AttnSet.has (t.port q).pending .time = true)
      ∧ (n ≤ 1000 →
          t.log.records[n]? = some ⟨s.log.next, s.time.tod, quality, .time .refSwitch offset⟩
          ∧ (quality ≠ s.time.quality →
              t.log.records[n + 1]? = some ⟨s.log.next + 1, s.time.tod, quality, .time .quality 0⟩)))
    ∧ (new = s.time.active → n ≤ 1000 →
        (s.written t).all (fun b => match b with | .time .refSwitch _ => false | _ => true) = true)

/-- The marker outputs of `t` are those of `s` after a TOD step of `moved` ns (R36): a forward step that passes k match times
of an armed output, by the difference of R19, fires one LATE pulse and counts k - 1 as skipped. -/
def State.markersStepped (s t : State) (moved : Int) : Prop :=
  ∀ o, let m := s.marker o
    let since : Int := (s.time.tod.sec - m.matchAt.sec).toInt * 1000000000 + ((s.time.tod.ns : Int) - m.matchAt.ns)
    let reached (x : Int) : Nat := if x < 0 then 0 else if m.period = 0 then 1 else (x / m.period).toNat + 1
    let k : Nat := reached (since + moved) - reached since
    ((m.armed = false ∨ moved ≤ 0 ∨ k = 0) → t.marker o = m)
    ∧ (m.armed = true → 0 < moved → 1 ≤ k → t.marker o = { m with
        armed := decide (m.period ≠ 0), late := true, skipped := min 65535 (m.skipped + (k - 1))
        pulseEnd := some (s.mono + m.width * 100)
        matchAt := if m.period = 0 then m.matchAt
          else m.matchAt.add ((reached (since + moved) * m.period : Nat) : Int) })

/-! ## Invariants -/

/-- The counters of R60 keep within their 32 bits. -/
def Stats.bounded (x : Stats) : Prop :=
  x.rxValid ≤ max32 ∧ x.checkErrors ≤ max32 ∧ x.crossed ≤ max32 ∧ x.discardedDisabled ≤ max32 ∧ x.wins ≤ max32
    ∧ x.copies ≤ max32 ∧ x.lagMin ≤ max32 ∧ x.lagMax ≤ max32 ∧ x.late ≤ max32 ∧ x.txFrames ≤ max32
    ∧ x.txDrops ≤ max32 ∧ x.flushDrops ≤ max32 ∧ x.probesSent ≤ max32 ∧ x.probesValid ≤ max32
    ∧ x.probesLost ≤ max32 ∧ x.probesInvalid ≤ max32

/-- A threshold bank's values lie in the ranges of R38. -/
def Bank.bounded (b : Bank) : Prop :=
  (-128 ≤ b.k ∧ b.k ≤ 127) ∧ (-128 ≤ b.wn ∧ b.wn ≤ 127) ∧ (-128 ≤ b.fl ∧ b.fl ≤ 127) ∧ (-128 ≤ b.rc ∧ b.rc ≤ 127)
    ∧ b.s ≤ 255 ∧ b.pmax ≤ 65535

/-- The margin and the settings of a path entry lie in the ranges of R38. -/
def PathEntry.configured (e : PathEntry) : Prop :=
  (∀ m, e.margin = some m → -128 ≤ m ∧ m ≤ 127) ∧ e.bank0.bounded ∧ e.bank1.bounded
    ∧ (100 ≤ e.silenceTimeout ∧ e.silenceTimeout ≤ 100000) ∧ (1 ≤ e.windowLength ∧ e.windowLength ≤ 65535)
    ∧ (1 ≤ e.errorLimit ∧ e.errorLimit ≤ 65535) ∧ e.recoverHold ≤ 65535
    ∧ (100 ≤ e.reportTimeout ∧ e.reportTimeout ≤ 60000) ∧ e.weight ≤ 7 ∧ e.lossWeight ≤ 255
    ∧ (1 ≤ e.decayInterval ∧ e.decayInterval ≤ 65535)

/-- A path entry's values lie in the ranges of R38. -/
def PathEntry.bounded (e : PathEntry) : Prop :=
  e.score ≤ 255 ∧ e.effDelay ≤ 16777215 ∧ (∀ d, e.delay = some d → d ≤ 16777215)
    ∧ (∀ w, e.window = some w → w.count ≤ 65535) ∧ e.stats.bounded ∧ e.configured

/-- A port context's counts lie in the ranges of R159. -/
def PortCtx.bounded (c : PortCtx) : Prop := c.framingErrors ≤ 65535 ∧ c.unknownCommands ≤ 65535

/-- A capture FIFO holds at most two stamps, and LOST shows only while it holds two (R32). -/
def CaptureState.bounded (c : CaptureState) : Prop := c.fifo.length ≤ 2 ∧ (c.lost = true → c.fifo.length = 2)

/-- The Time Unit's values lie in their ranges (R19, R21, R24, R27). -/
def TimeUnit.bounded (t : TimeUnit) : Prop :=
  t.tod.ns < 1000000000 ∧ t.rem < 1000000000 ∧ t.lockCount ≤ 4 ∧ -500000 ≤ t.f ∧ t.f ≤ 500000
    ∧ (∀ r : Ref, t.refs[r.idx].run ≤ 3) ∧ (∀ k : Channel, t.channels[k.idx].bounded)

/-- The counters of a stream's receive side keep within their 32 bits (R106). -/
def RxStream.counted (x : RxStream) : Prop :=
  x.accepted ≤ max32 ∧ x.duplicates ≤ max32 ∧ x.late ≤ max32 ∧ x.gaps ≤ max32 ∧ x.resyncs ≤ max32
    ∧ x.rejected ≤ max32 ∧ x.overflow ≤ max32

/-- The counters of a stream's transmit side keep within their 32 bits (R99, R100). -/
def TxStream.counted (x : TxStream) : Prop :=
  x.dispatched ≤ max32 ∧ x.rejected ≤ max32 ∧ x.dropsNoPath ≤ max32 ∧ x.dropsFull ≤ max32

/-- Every count outside the entries and the ports keeps its bits: those of the streams (R99, R100, R106), intake malformed
(R99), the stale echoes (R143) and the skipped matches of a marker output (R34). -/
def State.Counted (s : State) : Prop :=
  (∀ i, (s.rxStream i).counted) ∧ (∀ i, (s.txStream i).counted) ∧ s.localPort.malformed ≤ max32
    ∧ s.sounding.stale ≤ max32 ∧ (∀ o, (s.marker o).skipped ≤ max16)

/-- The retained records have consecutive serials that end before the next serial, and each port's cursor lies between the
oldest retained serial and the next, judged by its distance from the oldest modulo 2^32 (R133). -/
def Log.inOrder (l : Log) : Prop :=
  (∀ (k : Nat) (r : LogRecord), l.records[k]? = some r → r.serial = l.oldest + BitVec.ofNat 32 k)
    ∧ ∀ p : Port, (l.readers[p.idx].cursor - l.oldest).toNat ≤ l.records.length

/-- Every setting outside the entries lies in the range of its command: the beacon interval (R16), the selection parameters
(R77), the discipline thresholds and gain (R25), the watermarks (R135), the hold times (R106) and the sweep settings
(R143). -/
def State.Configured (s : State) : Prop :=
  (10 ≤ s.beaconInterval ∧ s.beaconInterval ≤ 10000)
    ∧ (s.selector.hysteresis ≤ 65535 ∧ s.selector.widthCode ≤ 4 ∧ s.selector.guardTime ≤ 65535)
    ∧ (1000 ≤ s.time.ts ∧ s.time.ts ≤ 1000000 ∧ 1 ≤ s.time.tl ∧ s.time.tl ≤ 65535 ∧ s.time.ki ≤ 15)
    ∧ (∀ p, 1 ≤ (s.reader p).watermark ∧ (s.reader p).watermark ≤ 1024)
    ∧ (∀ i, 1 ≤ (s.rxStream i).holdTime ∧ (s.rxStream i).holdTime ≤ 65535)
    ∧ (s.sounding.countCode ≤ 15 ∧ 10 ≤ s.sounding.spacing ∧ s.sounding.spacing ≤ 65535 ∧ 1 ≤ s.sounding.timeout
      ∧ s.sounding.timeout ≤ 65535 ∧ s.sounding.settle ≤ 65535)

/-- Every queue, count and value keeps the bound the manual gives it: the entries (R38, R56, R60), the transmit queues of 32
(R13, R104), the delivery queue of 64 (R118), the log of 1,024 records with its serials and cursors (R133), the lost counts
(R134), the port counts (R159), the Time Unit, the sweep's minimum (R148), the counts of the streams, the local port, the
sweep and the marker outputs, and the settings. The sweep's valid and lost counts are bounded by its probe index
(State.Swept). -/
def State.Bounded (s : State) : Prop :=
  (∀ p, (s.entry p).bounded) ∧ (∀ p, (s.transmitter p).queue.length ≤ 32) ∧ s.localPort.queue.length ≤ 64
    ∧ s.log.records.length ≤ 1024 ∧ (∀ p, (s.reader p).lost ≤ 65535) ∧ (∀ p, (s.port p).bounded) ∧ s.time.bounded
    ∧ (∀ m, s.sounding.minimum = some m → m ≤ 16777215) ∧ s.Counted ∧ s.log.inOrder ∧ s.Configured

/-- Every path's E is the one R72 forms from its D, P and L (R73). -/
def State.DelaysFormed (s : State) : Prop := ∀ p, (s.entry p).effDelay = (s.entry p).formDelay p

/-- The selection agrees with the entries: the rank order is the one of the entries as they stand (R75, R78), the primary is
NONE or eligible and NONE exactly when no path is eligible (R78), an eligible pinned path is primary (R79), a guard-held path
is eligible (R84), and the dispatch set is the one R85 forms. -/
def State.Selected (s : State) : Prop :=
  s.selector.rank = s.rankOrder ∧ (∀ x, s.selector.primary = some x → s.eligible x = true)
    ∧ (s.selector.primary = none → ∀ p, s.eligible p = false)
    ∧ (∀ q, s.selector.pin = some q → s.eligible q = true → s.selector.primary = some q)
    ∧ (∀ g, s.selector.guard = some g → s.eligible g.path = true) ∧ s.selector.dispatchSet = s.dispatchSetOf

/-- The route is settled: every E formed and the selection in agreement with the entries. -/
def State.Routed (s : State) : Prop := s.DelaysFormed ∧ s.Selected

/-- A slot after the release point of an ORDERED stream is EMPTY or HELD (R114). -/
def Slot.waiting : Slot → Bool
  | .empty => true
  | .held _ _ => true
  | _ => false

/-- A slot before the release point of an ORDERED stream is DONE or SKIPPED (R114). -/
def Slot.settled : Slot → Bool
  | .done _ => true
  | .skipped => true
  | _ => false

/-- The release point of an ORDERED stream divides its slots: those before it are DONE or SKIPPED, the slot of r itself is
not HELD, those after it are EMPTY or HELD, and a hold deadline exists exactly while a slot is HELD (R114, R115). -/
def RxStream.released (x : RxStream) : Prop :=
  let r := x.distance x.release
  r ≤ x.slots.length ∧ (∀ y ∈ x.slots.take r, y.settled = true) ∧ (∀ y ∈ x.slots.drop r, y.waiting = true)
    ∧ (∀ y, x.slots[r]? = some y → y.isHeld = false)
    ∧ (x.holdDeadline = none ↔ ∀ y ∈ x.slots, y.isHeld = false)

/-- A stream's window is in order: the slots are the tracked sequences from b to f, at most W of them (R106, R107); an
unsynchronized stream tracks nothing (R122); an IMMEDIATE stream holds nothing and has no deadline (R115); an ORDERED stream
is divided at its release point. -/
def RxStream.Windowed (x : RxStream) : Prop :=
  x.windowCode ≤ 4 ∧ x.resyncCode ≤ 12 ∧ (x.synced = false → x.slots = [] ∧ x.holdDeadline = none)
    ∧ (x.synced = true → x.slots.length = x.distance x.front ∧ x.slots.length ≤ x.window)
    ∧ (x.ordered = false → x.holdDeadline = none ∧ ∀ y ∈ x.slots, y.isHeld = false)
    ∧ (x.ordered = true → x.synced = true → x.released)

/-- Every stream's window is in order. -/
def State.Windows (s : State) : Prop := ∀ i, (s.rxStream i).Windowed

/-- The sweep is in order: the current path is never DISABLED (R143, R151) and never FAILED (R151); probes are pending or
outstanding only in a RUNNING sweep's burst and never both (R143, R146, R152); the pending probe, with its tag and index, is
the one its path's transmitter holds, and no other transmitter holds one (R15, R146); the probe index stays within the
burst; the probes counted valid or lost and the one pending or outstanding are among those issued, so that neither count
passes 16 (R143, R148, R149); the valid minimum is absent exactly while the valid count is 0 (R143). -/
def State.Swept (s : State) : Prop :=
  (∀ p, s.sounding.current = some p →
      (s.entry p).state ≠ .disabled ∧ (s.entry p).state ≠ .failed ∧ s.sounding.state ≠ .idle)
    ∧ (s.sounding.pendingProbe ≠ none → s.sounding.current ≠ none ∧ s.sounding.state = .running
        ∧ s.sounding.outstanding = none)
    ∧ (s.sounding.outstanding ≠ none → s.sounding.current ≠ none ∧ s.sounding.state = .running)
    ∧ (∀ p, (s.transmitter p).probe =
        if s.sounding.current = some p then s.sounding.pendingProbe.map (fun k => ⟨s.sounding.tag, k⟩) else none)
    ∧ (s.sounding.state = .suspended ↔ s.sounding.reason ≠ none)
    ∧ (s.sounding.settleDeadline ≠ none ↔ s.sounding.reason = some .fallback)
    ∧ s.sounding.countCode ≤ 15 ∧ s.sounding.probeIndex ≤ 16
    ∧ (s.sounding.current ≠ none → s.sounding.probeIndex ≤ s.sounding.countCode + 1)
    ∧ s.sounding.valid + s.sounding.lost
        + (if s.sounding.pendingProbe = none ∧ s.sounding.outstanding = none then 0 else 1) ≤ s.sounding.probeIndex
    ∧ (s.sounding.minimum = none ↔ s.sounding.valid = 0)

end Sys2Proof.Machine
end

