-- ==== Sys2Proof/WellFormed.lean ====
section
/-! DEFINITION. Well-formed inputs. Every row admits every value of its operands but one: UNKNOWN_COMMAND is the row of a
command byte that is no command code (R161). A wrong number of argument bytes is not ill formed: it is the FRAMING
refusal. -/

namespace Sys2Proof

/-- Whether an input is one the outside can make. -/
def Instr.wellFormed : Instr → Bool
  | .unknownCommand _ code _ => !isCommandCode code
  | _ => true

end Sys2Proof
end

