-- ==== Sys2Proof/Certificates/Slice0/Obligations.lean ====
section
/-! DEFINITION. The statements for the provers, one `def Obligations.<Name> : Prop` each. -/

open Sys2Proof Sys2Proof.Machine

/-- For every input i and state s, a step of s with i at the front of its queue is exec of i on s with the queue's
rest. -/
def Obligations.StepRunsFrontInput : Prop :=
  ∀ (i : Instr) (rest : List Instr) (s : State),
    step { s with pending := i :: rest } = exec i { s with pending := rest }

/-- On an empty queue a step adds 1 to MONO, advances TOD and its remainder by 1,000,000,000 plus the clamped rate
adjustment in parts per billion, and changes nothing else but the queue. That a step is one nanosecond is the model's
choice (log entry 1). -/
def Obligations.IdleStepAdvancesClock : Prop :=
  ∀ s : State, s.pending = [] → ∃ (t : State) (k : Nat), step s = .next t ∧ t.time.mono = s.time.mono + 1
    ∧ s.time.rem + (1000000000 + max (-500000) (min 500000 (s.time.f + s.time.ph))).toNat
        = k * 1000000000 + t.time.rem
    ∧ t.time.rem < 1000000000 ∧ t.time.tod = s.time.tod.add k
    ∧ t = { s with time := { s.time with mono := t.time.mono, tod := t.time.tod, rem := t.time.rem }
                   pending := t.pending }

/-- On an empty queue a step puts into the queue the row of each deadline that MONO then has reached: the soft reset
period, silence timers, error windows, recover holds, report timeouts, score decays, beacon waits, the guard, stream
holds, the probe spacing, the probe timeout, the settle deadline, reference timeouts, marker pulses, and the match of
an armed output that TOD then has reached. The queue is the model's (log entry 1). -/
def Obligations.ReachedDeadlinesQueueInputs : Prop :=
  ∀ s : State, s.pending = [] → ∃ t : State, step s = .next t
    ∧ (∀ d, s.resetting = some d → d ≤ s.mono + 1 → Instr.softResetPeriodEnd ∈ t.pending)
    ∧ (∀ p d, (s.receiver p).silence = .running d → d ≤ s.mono + 1 → Instr.silenceTimerExpiry p ∈ t.pending)
    ∧ (∀ p w, (s.entry p).window = some w → w.endAt ≤ s.mono + 1 → Instr.errorWindowEnd p ∈ t.pending)
    ∧ (∀ p d, (s.entry p).state = .recovering → (s.entry p).holdDeadline = some d → d ≤ s.mono + 1 →
        Instr.recoverHoldExpiry p ∈ t.pending)
    ∧ (∀ p d, (s.entry p).reportDeadline = some d → d ≤ s.mono + 1 → Instr.reportTimeout p ∈ t.pending)
    ∧ (∀ p, (s.entry p).decayDeadline ≤ s.mono + 1 → Instr.scoreDecay p ∈ t.pending)
    ∧ (∀ p since, (s.transmitter p).beacon = .running since → since + s.beaconInterval * 1000 ≤ s.mono + 1 →
        Instr.beaconWaitEnd p ∈ t.pending)
    ∧ (∀ g, s.selector.guard = some g → g.deadline ≤ s.mono + 1 → Instr.guardExpiry ∈ t.pending)
    ∧ (∀ i d, (s.rxStream i).holdDeadline = some d → d ≤ s.mono + 1 → Instr.holdExpiry i ∈ t.pending)
    ∧ (∀ o, s.sounding.outstanding = some o → o.deadline ≤ s.mono + 1 → Instr.probeTimeout ∈ t.pending)
    ∧ (∀ o d, (s.marker o).pulseEnd = some d → d ≤ s.mono + 1 → Instr.markerPulseEnd o ∈ t.pending)
    ∧ (∀ p, s.sounding.state = .running → s.sounding.current = some p → s.sounding.pendingProbe = none →
        s.sounding.outstanding = none → s.sounding.probeIndex < s.sounding.countCode + 1 →
        (∀ t1, s.sounding.lastT1 = some t1 → t1 + s.sounding.spacing * 1000 ≤ s.mono + 1) →
        Instr.probeIssue ∈ t.pending)
    ∧ (∀ d, s.sounding.state = .suspended → s.sounding.reason = some .fallback → s.sounding.settleDeadline = some d →
        d ≤ s.mono + 1 → Instr.settleDeadline ∈ t.pending)
    ∧ (∀ r l, (s.ref r).run ≠ 0 → (s.ref r).lastPulse = some l → l + 1500000000 ≤ s.mono + 1 →
        Instr.refTimeout r ∈ t.pending)
    ∧ (∀ o, (s.marker o).armed = true →
        0 ≤ (t.time.tod.sec - (s.marker o).matchAt.sec).toInt * 1000000000
          + ((t.time.tod.ns : Int) - (s.marker o).matchAt.ns) →
        Instr.markerMatch o ∈ t.pending)

/-- Every input is taken in every state: exec answers a next state, never a fault and never a refusal. -/
def Obligations.NoInputStops : Prop :=
  ∀ (i : Instr) (s : State), ∃ t : State, exec i s = .next t

/-- No input but PIN_RESET and POWER_ON_RESET changes the site id or the role of a port, and no command and no event
writes MONO; only pin and power-on reset return it to 0. That no input, a reset included, moves the queue of waiting
inputs is the model's own choice (log entry 2), since the queue is no register of the part. -/
def Obligations.InputsKeepStrapsQueueAndMono : Prop :=
  (∀ (i : Instr) (s t : State), exec i s = .next t → t.pending = s.pending
        ∧ ((∀ site r0 r1 r2, i ≠ .pinReset site r0 r1 r2 ∧ i ≠ .powerOnReset site r0 r1 r2) →
            t.siteId = s.siteId ∧ ∀ p, (t.port p).role = (s.port p).role))
    ∧ (∀ (i : Instr) (s t : State), exec i s = .next t →
        (∀ site r0 r1 r2, i ≠ .pinReset site r0 r1 r2 ∧ i ≠ .powerOnReset site r0 r1 r2) → t.mono = s.mono)

/-- Every command whose bytes do not fit its argument count (R173; pairs for POST MARGIN; at least the argument for a
read) is discarded whole: last result FRAMING, framing errors raised by 1 and saturating, PROTOCOL pending on that
port alone, and nothing else changed, in every state and from every role. While the soft reset period is in progress a
well-framed command other than READ ID sets the port's last result to BUSY and changes nothing else, whatever the
role. For every command of the rights table, a well-framed transaction from a role that lacks the right sets the
port's last result to RIGHTS and changes nothing else; for SET CAPTURE the right is the one of its channel. A read so
refused goes on clocking out zero bytes until select rises, and another command leaves no read in progress. A
transaction whose command byte is no command code sets the last result UNKNOWN, raises the unknown commands count by 1
and saturating, raises no attention and changes nothing else, in every state, the soft reset period included. -/
def Obligations.PortChecksRefuse : Prop :=
  (∀ (i : Instr) (port : Port) (args : List Byte) (s : State), i.portArgs = some (port, args) → i.framing = some false →
        exec i s = .next (s.modPort port (fun c =>
          { c with
            lastResult := .framing, statusOut := s.statusByte port, reading := none, response := []
            framingErrors := min 65535 (c.framingErrors + 1), pending := c.pending ||| 0x0100#16 })))
    ∧ (∀ (i : Instr) (port : Port) (args : List Byte) (s : State), i.portArgs = some (port, args) → i.framing = some true →
        s.resetting ≠ none → i ≠ .readId port → exec i s = .next (s.refused i port .busy))
    ∧ (∀ (i : Instr) (port : Port) (args : List Byte) (s : State), i.portArgs = some (port, args) → i.framing = some true →
        s.resetting = none → i.permits (s.port port).role = false → exec i s = .next (s.refused i port .rights))
    ∧ (∀ (s : State) (port : Port) (code : Byte) (args : List Byte), isCommandCode code = false →
        exec (.unknownCommand port code args) s = .next (s.modPort port (fun c =>
          { c with
            lastResult := .unknown, statusOut := s.statusByte port, reading := none, response := []
            unknownCommands := min 65535 (c.unknownCommands + 1) })))

/-- Whatever transaction an OBSERVER port makes, with any bytes, only that port's own context and its own reading context
in the Log Unit can differ afterwards. -/
def Obligations.ObserverChangesNothingShared : Prop :=
  ∀ (i : Instr) (port : Port) (args : List Byte) (s t : State), i.wellFormed = true → i.portArgs = some (port, args) →
    (s.port port).role = .observer → exec i s = .next t →
      t = { s with ports := t.ports, log := { s.log with readers := t.log.readers } }
        ∧ (∀ q, q ≠ port → t.port q = s.port q ∧ t.reader q = s.reader q)

/-- After any transaction the status byte the port has shown carries the last result before it in bits 3 to 0, the
attention output in bit 4, RESETTING in bit 5, sweep active in bit 6 and 0 in bit 7. That the byte stands in a field
of the port is the model's (log entry 5). After a well-framed read the port goes on driving data out until select
rises; after any other transaction select has risen and the pin is not driven. A read that a soft reset cut off and
whose row for the rise of select was not given is dropped by the transaction, and the last result shown is the one
that stands, not BUSY (log entry 44, the model's choice). -/
def Obligations.StatusByteShown : Prop :=
  ∀ (i : Instr) (port : Port) (args : List Byte) (s t : State), i.wellFormed = true → i.portArgs = some (port, args) →
    exec i s = .next t →
      (t.port port).statusOut.toNat % 16 = (s.port port).lastResult.code
        ∧ (t.port port).statusOut.getLsbD 4 = decide ((s.port port).pending &&& (s.port port).mask ≠ 0)
        ∧ (t.port port).statusOut.getLsbD 5 = s.resetting.isSome
        ∧ (t.port port).statusOut.getLsbD 6 = decide (s.sounding.state ≠ .idle)
        ∧ (t.port port).statusOut.getLsbD 7 = false
        ∧ ((t.port port).dataOut = none ↔ ¬(i.isRead = true ∧ i.framing = some true))

/-- READ ID answers the vendor code 0A51H, the part code 0540H, the revision (open: an opaque byte, log entry 8), the site
id and the port's role, sets OK and changes nothing else, in every state, the soft reset period included. Outside the
soft reset period READ STATUS returns the last result before it, the role, the pending set, the mask, the output,
RESETTING (0), sweep active and the two counts, sets OK and changes nothing else. The byte widths are those of log
entry 10. -/
def Obligations.IdentityAndStatusRead : Prop :=
  (∀ (s : State) (port : Port),
        exec (.readId port) s = .next (s.modPort port (fun c =>
          { c with
            lastResult := .ok, statusOut := s.statusByte port, reading := some .plain
            response := [0x51#8, 0x0A#8, 0x40#8, 0x05#8, Config.revision, BitVec.ofNat 8 s.siteId.toNat,
              BitVec.ofNat 8 (match c.role with | .supervisor => 0 | .gateway => 1 | .operator => 2 | .observer => 3)] })))
    ∧ (∀ (s : State) (port : Port), s.resetting = none →
        exec (.readStatus port) s = .next (s.modPort port (fun c =>
          { c with
            lastResult := .ok, statusOut := s.statusByte port, reading := some .plain
            response := [BitVec.ofNat 8 c.lastResult.code, BitVec.ofNat 8 c.role.code] ++ leBytes 2 c.pending.toNat
              ++ leBytes 2 c.mask.toNat
              ++ [if c.pending &&& c.mask = 0 then 0 else 1, 0, if s.sounding.state = .idle then 0 else 1]
              ++ leBytes 4 c.framingErrors ++ leBytes 4 c.unknownCommands })))

/-- READ ATTENTION copies the pending set and returns it with the mask; a kind raised afterwards is noted; when the last
response byte is out, exactly the copied kinds that were not raised since are removed, and nothing else changes. From
any role, SET ATTENTION MASK with no bit above PROTOCOL replaces the mask and nothing else; a set with any of bits 9
to 15 is refused ARGUMENT. -/
def Obligations.AttentionReadAndMasked : Prop :=
  (∀ (s : State) (port : Port),
        (s.resetting = none →
          exec (.readAttention port) s = .next (s.modPort port (fun c =>
            { c with
              lastResult := .ok, statusOut := s.statusByte port, reading := some (.attention c.pending 0)
              response := leBytes 2 c.pending.toNat ++ leBytes 2 c.mask.toNat })))
        ∧ (∀ copied raised : AttnSet, (s.port port).reading = some (.attention copied raised) →
            ∃ t : State, exec (.attentionReadComplete port) s = .next t
              ∧ t = s.modPort port (fun c => { c with pending := (t.port port).pending, reading := some .plain })
              ∧ ∀ k : AttnKind, AttnSet.has (t.port port).pending k
                  = (AttnSet.has (s.port port).pending k && !(AttnSet.has copied k && !AttnSet.has raised k)))
        ∧ (∀ (c : PortCtx) (copied raised : AttnSet) (k : AttnKind), c.reading = some (.attention copied raised) →
            ∃ noted : AttnSet, (c.raise k).reading = some (.attention copied noted) ∧ AttnSet.has noted k = true
              ∧ AttnSet.has (c.raise k).pending k = true))
    ∧ (∀ (s : State) (port : Port) (a b : Byte), s.resetting = none →
        (b.toNat < 2 → exec (.setAttentionMask port [a, b]) s =
          .next ((s.answered port .ok).modPort port (fun c => { c with mask := BitVec.ofNat 16 (a.toNat + 256 * b.toNat) })))
        ∧ (2 ≤ b.toNat → exec (.setAttentionMask port [a, b]) s = .next (s.answered port .argument)))

/-- From any role, outside the soft reset period, each of the five reads answers OK with its response bytes and changes
nothing but the issuing port's own result and response; a path index above 4 or a stream above 7 is refused ARGUMENT
with zero response bytes. -/
def Obligations.PlainReadsChangeNothing : Prop :=
  ∀ (s : State) (port : Port), s.resetting = none →
    let answer (bytes : List Byte) : Host.Outcome State Fault Refusal :=
      .next (s.modPort port (fun c =>
        { c with lastResult := .ok, statusOut := s.statusByte port, reading := some .plain, response := bytes }))
    (∀ (p : Path) (b : Byte) (more : List Byte), b.toNat = p.idx.val →
        exec (.readPath port (b :: more)) s = answer (s.pathBytes p))
    ∧ (∀ (b : Byte) (more : List Byte), 4 < b.toNat →
        exec (.readPath port (b :: more)) s = .next (s.readRefused port .argument))
    ∧ (∀ (i : StreamId) (b : Byte) (more : List Byte), b.toNat = i.val →
        exec (.readStream port (b :: more)) s = answer ((s.rxStream i).bytes ++ (s.txStream i).bytes s.localPort.malformed))
    ∧ (∀ (b : Byte) (more : List Byte), 7 < b.toNat →
        exec (.readStream port (b :: more)) s = .next (s.readRefused port .argument))
    ∧ exec (.readSelection port) s = answer s.selectionBytes
    ∧ exec (.readTime port) s = answer s.time.bytes
    ∧ exec (.readSweep port) s = answer s.sounding.bytes

/-- READ PATH gives 183 bytes: every field of R38 in that table's order, with both banks, the margin and its presence,
window, hold deadline, D, scores, E and the sixteen statistics, then the silence timer with its deadline, the report
deadline, whether the path is eligible and promotable, and the queue depth. READ STREAM gives 109 bytes: rx enable,
window code with W, mode, hold time, resync code with Q, records, synchronized, b, f, r, the hold deadline (all ones
when none), the numbers of EMPTY, HELD, DONE and SKIPPED slots, the seven counts of R106, then the transmit side: tx
enable, next sequence, dispatched, rejected, the drops with their NO PATH and FULL parts, and intake malformed; READ
TIME gives 101 bytes: MONO, TOD, quality, lock count, f, ph, the rate adjustment, the discipline with Ts, Tl and ki,
the active reference, both references, the four capture channels and the two marker outputs. READ SWEEP gives 64
bytes: state, suspend reason and settle deadline (all ones when absent), tag, sets, settings, current path, probe
index, pending and outstanding probe, the samples, last t1 and the stale echo count. READ SELECTION gives 25 bytes:
the primary, the dispatch set, the guard-held path with its deadline, the pin, H, the width code, the fibre shadow, G,
the five paths of the rank order, and its best promotable and best eligible path. A record image has 32 bytes, and
each field of the common part and of its kind is read back at the offset R174 gives it; that the absent new sequence
of a RESYNC image reads 0 is log entry 39. Widths are those of log entry 10, the order of READ PATH's added items that
of log entry 11, and the order of a capture channel's fields in READ TIME (edge, source, log mode, status) that of log
entry 45. -/
def Obligations.ResponseFieldsPlaced : Prop :=
  ∀ (s : State) (p : Path) (i : StreamId),
    (s.pathBytes p).length = 183 ∧ (s.pathBytes p).take 3 =
        [if p = .f then 1 else 0, BitVec.ofNat 8 (s.entry p).state.code, BitVec.ofNat 8 (s.entry p).reason.code]
    ∧ ((s.pathBytes p).drop 91).take 4 = leBytes 4 (s.entry p).effDelay
    ∧ (s.pathBytes p).drop 179 = leBytes 4 (s.transmitter p).queue.length
    ∧ ((s.rxStream i).bytes ++ (s.txStream i).bytes s.localPort.malformed).length = 109
    ∧ (let x := s.rxStream i
        let y := s.txStream i
        let read := x.bytes ++ y.bytes s.localPort.malformed
        let at_ (offset width : Nat) : List Byte := (read.drop offset).take width
        let count (slots : Slot → Bool) : List Byte := leBytes 4 (x.slots.filter slots).length
        at_ 0 1 = [if x.enabled then 1 else 0] ∧ at_ 1 1 = [BitVec.ofNat 8 x.windowCode]
        ∧ at_ 2 4 = leBytes 4 (16 * 2 ^ x.windowCode) ∧ at_ 6 1 = [if x.ordered then 1 else 0]
        ∧ at_ 7 2 = leBytes 2 x.holdTime ∧ at_ 9 1 = [BitVec.ofNat 8 x.resyncCode]
        ∧ at_ 10 4 = leBytes 4 (2 ^ (8 + x.resyncCode))
        ∧ at_ 14 2 = [if x.records then 1 else 0, if x.synced then 1 else 0]
        ∧ at_ 16 4 = leBytes 4 x.base.toNat ∧ at_ 20 4 = leBytes 4 x.front.toNat ∧ at_ 24 4 = leBytes 4 x.release.toNat
        ∧ at_ 28 8 = (match x.holdDeadline with | none => List.replicate 8 0xFF#8 | some d => leBytes 8 d)
        ∧ at_ 36 4 = count Slot.isEmpty ∧ at_ 40 4 = count Slot.isHeld ∧ at_ 44 4 = count Slot.isDone
        ∧ at_ 48 4 = count Slot.isSkipped
        ∧ at_ 52 4 = leBytes 4 x.accepted ∧ at_ 56 4 = leBytes 4 x.duplicates ∧ at_ 60 4 = leBytes 4 x.late
        ∧ at_ 64 4 = leBytes 4 x.gaps ∧ at_ 68 4 = leBytes 4 x.resyncs ∧ at_ 72 4 = leBytes 4 x.rejected
        ∧ at_ 76 4 = leBytes 4 x.overflow
        ∧ at_ 80 1 = [if y.enabled then 1 else 0] ∧ at_ 81 4 = leBytes 4 y.next.toNat
        ∧ at_ 85 4 = leBytes 4 y.dispatched ∧ at_ 89 4 = leBytes 4 y.rejected
        ∧ at_ 93 4 = leBytes 4 (min 4294967295 (y.dropsNoPath + y.dropsFull)) ∧ at_ 97 4 = leBytes 4 y.dropsNoPath
        ∧ at_ 101 4 = leBytes 4 y.dropsFull ∧ read.drop 105 = leBytes 4 s.localPort.malformed)
    ∧ s.time.bytes.length = 101 ∧ s.time.bytes.take 16 = leBytes 8 s.mono ++ s.time.tod.bytes
    ∧ s.sounding.bytes.length = 64
    ∧ s.sounding.bytes.drop 60 = leBytes 4 s.sounding.stale
    ∧ s.sounding.bytes.take 2 = [BitVec.ofNat 8 s.sounding.state.code,
        match s.sounding.reason with | none => 0xFF#8 | some .command => 0 | some .fallback => 1]
    ∧ (let e := s.entry p
        let at_ (offset width : Nat) : List Byte := ((s.pathBytes p).drop offset).take width
        let opt (width : Nat) (v : Option Nat) : List Byte :=
          match v with | none => List.replicate width 0xFF#8 | some n => leBytes width n
        let code (n : Nat) : List Byte := [BitVec.ofNat 8 n]
        let yes (v : Bool) : List Byte := [if v then 1 else 0]
        let bank (offset : Nat) (b : Bank) : Prop := at_ offset 1 = leBytesInt 1 b.k ∧ at_ (offset + 1) 1 = leBytesInt 1 b.wn
          ∧ at_ (offset + 2) 1 = leBytesInt 1 b.fl ∧ at_ (offset + 3) 1 = leBytesInt 1 b.rc
          ∧ at_ (offset + 4) 1 = code b.s ∧ at_ (offset + 5) 2 = leBytes 2 b.pmax
        at_ 3 8 = leBytes 8 e.entered
        ∧ at_ 11 1 = (match e.farState with | none => [7#8] | some x => code x.code)
        ∧ at_ 12 1 = (match e.farQuality with | none => [7#8] | some x => code x.code)
        ∧ at_ 13 2 = (match (if p = .f then none else e.margin) with | none => [0#8, 0#8] | some m => [BitVec.ofInt 8 m, 1#8])
        ∧ at_ 15 8 = leBytes 8 e.reportTime ∧ at_ 23 1 = yes e.stale ∧ bank 24 e.bank0 ∧ bank 31 e.bank1
        ∧ at_ 38 1 = yes e.bankOne ∧ at_ 39 4 = leBytes 4 e.silenceTimeout ∧ at_ 43 2 = leBytes 2 e.windowLength
        ∧ at_ 45 2 = leBytes 2 e.errorLimit ∧ at_ 47 2 = leBytes 2 e.recoverHold ∧ at_ 49 2 = leBytes 2 e.reportTimeout
        ∧ at_ 51 8 = opt 8 (e.window.map ErrorWindow.start) ∧ at_ 59 4 = opt 4 (e.window.map ErrorWindow.count)
        ∧ at_ 63 8 = opt 8 e.holdDeadline ∧ at_ 71 4 = opt 4 e.delay ∧ at_ 75 1 = code e.weight
        ∧ at_ 76 1 = code e.lossWeight ∧ at_ 77 2 = leBytes 2 e.decayInterval ∧ at_ 79 8 = leBytes 8 e.decayDeadline
        ∧ at_ 87 4 = leBytes 4 e.score ∧ at_ 95 1 = yes e.locked
        ∧ at_ 96 4 = leBytes 4 e.stats.rxValid ∧ at_ 100 4 = leBytes 4 e.stats.checkErrors
        ∧ at_ 104 4 = leBytes 4 e.stats.crossed ∧ at_ 108 4 = leBytes 4 e.stats.discardedDisabled
        ∧ at_ 112 4 = leBytes 4 e.stats.wins ∧ at_ 116 4 = leBytes 4 e.stats.copies
        ∧ at_ 120 4 = leBytes 4 e.stats.lagMin ∧ at_ 124 4 = leBytes 4 e.stats.lagMax
        ∧ at_ 128 4 = leBytes 4 e.stats.late ∧ at_ 132 4 = leBytes 4 e.stats.txFrames
        ∧ at_ 136 4 = leBytes 4 e.stats.txDrops ∧ at_ 140 4 = leBytes 4 e.stats.flushDrops
        ∧ at_ 144 4 = leBytes 4 e.stats.probesSent ∧ at_ 148 4 = leBytes 4 e.stats.probesValid
        ∧ at_ 152 4 = leBytes 4 e.stats.probesLost ∧ at_ 156 4 = leBytes 4 e.stats.probesInvalid
        ∧ at_ 160 9 = (match (s.receiver p).silence with
            | .stopped => 0 :: List.replicate 8 0xFF#8
            | .expired => 1 :: List.replicate 8 0xFF#8
            | .running d => 2 :: leBytes 8 d)
        ∧ at_ 169 8 = opt 8 e.reportDeadline ∧ at_ 177 2 = yes (s.eligible p) ++ yes (s.promotable p))
    ∧ (let u := s.time
        let at_ (offset width : Nat) : List Byte := (u.bytes.drop offset).take width
        let code (n : Nat) : List Byte := [BitVec.ofNat 8 n]
        let yes (v : Bool) : List Byte := [if v then 1 else 0]
        at_ 16 2 = [BitVec.ofNat 8 u.quality.code, BitVec.ofNat 8 u.lockCount] ∧ at_ 18 4 = leBytesInt 4 u.f
        ∧ at_ 22 4 = leBytesInt 4 u.ph ∧ at_ 26 4 = leBytesInt 4 (max (-500000) (min 500000 (u.f + u.ph)))
        ∧ at_ 30 1 = yes u.discipline ∧ at_ 31 4 = leBytes 4 u.ts ∧ at_ 35 2 = leBytes 2 u.tl ∧ at_ 37 1 = code u.ki
        ∧ at_ 38 1 = [match u.active with | none => 0xFF#8 | some .ref0 => 0 | some .ref1 => 1]
        ∧ (∀ r : Ref, at_ (39 + 2 * r.idx.val) 2 = yes (s.ref r).qualified ++ code (s.ref r).run)
        ∧ (∀ k : Channel, at_ (43 + 4 * k.idx.val) 4 = code (s.channel k).edge.code ++ code (s.channel k).source.code
            ++ yes (s.channel k).log ++ code (if (s.channel k).lost then 3 else (s.channel k).fifo.length))
        ∧ (∀ o : Out, let m := s.marker o
            let base := 59 + 21 * o.idx.val
            at_ base 2 = code m.action.code ++ yes m.armed
            ∧ at_ (base + 2) 8 = leBytes 4 m.matchAt.sec.toNat ++ leBytes 4 m.matchAt.ns
            ∧ at_ (base + 10) 4 = leBytes 4 m.period ∧ at_ (base + 14) 2 = leBytes 2 m.width
            ∧ at_ (base + 16) 1 = yes m.late ∧ at_ (base + 17) 4 = leBytes 4 m.skipped))
    ∧ (let x := s.sounding
        let at_ (offset width : Nat) : List Byte := (x.bytes.drop offset).take width
        let opt (width : Nat) (v : Option Nat) : List Byte :=
          match v with | none => List.replicate width 0xFF#8 | some n => leBytes width n
        let code (n : Nat) : List Byte := [BitVec.ofNat 8 n]
        at_ 2 8 = opt 8 x.settleDeadline ∧ at_ 10 1 = [x.tag] ∧ at_ 11 1 = code x.pathSet.toNat
        ∧ at_ 12 1 = code x.remaining.toNat ∧ at_ 13 1 = code x.countCode ∧ at_ 14 2 = leBytes 2 x.spacing
        ∧ at_ 16 2 = leBytes 2 x.timeout ∧ at_ 18 2 = leBytes 2 x.settle
        ∧ at_ 20 1 = code (match x.current with | none => 7 | some q => q.idx.val) ∧ at_ 21 1 = code x.probeIndex
        ∧ at_ 22 1 = [if x.pendingProbe = none then 0 else 1] ∧ at_ 23 1 = opt 1 (x.outstanding.map Outstanding.index)
        ∧ at_ 24 8 = opt 8 (x.outstanding.map Outstanding.t1)
        ∧ at_ 32 8 = opt 8 (x.outstanding.map Outstanding.deadline) ∧ at_ 40 4 = opt 4 x.minimum
        ∧ at_ 44 4 = leBytes 4 x.valid ∧ at_ 48 4 = leBytes 4 x.lost ∧ at_ 52 8 = opt 8 x.lastT1)
    ∧ (s.selector.rank.length = 5 →
        let x := s.selector
        let code (q : Option Path) : Byte := match q with | none => 7 | some q => BitVec.ofNat 8 q.idx.val
        s.selectionBytes.length = 25
        ∧ s.selectionBytes.take 3 = [code x.primary, BitVec.ofNat 8 x.dispatchSet.toNat, code (x.guard.map Guard.path)]
        ∧ (s.selectionBytes.drop 3).take 8 = (match x.guard with
            | none => List.replicate 8 0xFF#8 | some g => leBytes 8 g.deadline)
        ∧ (s.selectionBytes.drop 11).take 7 = [code x.pin] ++ leBytes 2 x.hysteresis
            ++ [BitVec.ofNat 8 x.widthCode, if x.shadow then 1 else 0] ++ leBytes 2 x.guardTime
        ∧ (s.selectionBytes.drop 18).take 5 = x.rank.map (fun q => BitVec.ofNat 8 q.idx.val)
        ∧ s.selectionBytes.drop 23 = [code (x.rank.find? s.promotable),
            code (match x.rank with | q :: _ => if s.eligible q then some q else none | [] => none)])
    ∧ (∀ r : LogRecord,
        let at_ (offset width : Nat) : Nat := leNat ((r.image.drop offset).take width)
        let opt (v : Option Nat) : Nat := v.getD 4294967295
        r.image.length = 32 ∧ at_ 0 4 = r.serial.toNat ∧ at_ 5 4 = r.tod.sec.toNat
        ∧ (r.tod.ns < 4294967296 → at_ 9 4 = r.tod.ns) ∧ at_ 4 1 / 16 = r.quality.code
        ∧ at_ 4 1 % 16 = (match r.body with
            | .delivery _ => 1 | .gap .. => 2 | .resync .. => 3 | .state .. => 4 | .primary .. => 5
            | .sound .. => 6 | .time .. => 7 | .mark .. => 8 | .reset => 9)
        ∧ (∀ d, r.body = .delivery d → at_ 13 1 = d.stream.val + 16 * d.path.idx.val
            ∧ at_ 14 1 = (if d.held then 1 else 0) + (if d.dropped then 2 else 0) + (if d.fromIneligible then 4 else 0)
                + (if d.oneWay = none then 0 else 8) + (if d.holdDelay = none then 0 else 16) + 32 * d.arrivalQuality.code
            ∧ at_ 15 4 = d.seq.toNat ∧ (d.arrivalOffset = none → at_ 19 1 = 0x80)
            ∧ (∀ v, d.arrivalOffset = some v → -127 ≤ v → v ≤ 127 → (BitVec.ofNat 8 (at_ 19 1)).toInt = v)
            ∧ (d.arrivalNs < 4294967296 → at_ 20 4 = d.arrivalNs) ∧ (d.oneWay = none → at_ 24 4 = 0)
            ∧ (∀ v, d.oneWay = some v → -2147483647 ≤ v → v ≤ 2147483647 → (BitVec.ofNat 32 (at_ 24 4)).toInt = v)
            ∧ (d.holdDelay = none → at_ 28 4 = 0) ∧ (∀ v, d.holdDelay = some v → v ≤ 4294967295 → at_ 28 4 = v))
        ∧ (∀ i first n cause, r.body = .gap i first n cause → at_ 13 1 = i.val
            ∧ at_ 14 1 = (match cause with | .advance => 0 | .hold => 1) ∧ at_ 15 4 = first.toNat
            ∧ (n < 4294967296 → at_ 19 4 = n))
        ∧ (∀ i front cause new, r.body = .resync i front cause new → at_ 13 1 = i.val
            ∧ at_ 14 1 = (match cause with | .jump => 0 | .config => 1 | .command => 2)
            ∧ at_ 15 1 = (if new = none then 0 else 1) ∧ at_ 16 4 = front.toNat ∧ at_ 20 4 = (new.getD 0).toNat)
        ∧ (∀ p old new reason m, r.body = .state p old new reason m → at_ 13 1 = p.idx.val ∧ at_ 14 1 = old.code
            ∧ at_ 15 1 = new.code ∧ at_ 16 1 = reason.code ∧ (m = none → at_ 17 2 = 0)
            ∧ (∀ v, m = some v → -128 ≤ v → v ≤ 127 → (BitVec.ofNat 8 (at_ 17 1)).toInt = v ∧ at_ 18 1 = 1))
        ∧ (∀ old new kind eOld eNew, r.body = .primary old new kind eOld eNew →
            at_ 13 1 = (match old with | none => 7 | some q => q.idx.val)
            ∧ at_ 14 1 = (match new with | none => 7 | some q => q.idx.val) ∧ at_ 15 1 = kind.code
            ∧ (opt eOld ≤ 4294967295 → at_ 16 4 = opt eOld) ∧ (opt eNew ≤ 4294967295 → at_ 20 4 = opt eNew))
        ∧ (∀ p result valid lost minimum delay held, r.body = .sound p result valid lost minimum delay held →
            at_ 13 1 = p.idx.val ∧ at_ 14 1 = result.code ∧ (valid < 256 → at_ 15 1 = valid)
            ∧ (lost < 256 → at_ 16 1 = lost) ∧ at_ 17 1 = (if held then 1 else 0)
            ∧ (opt minimum ≤ 4294967295 → at_ 18 4 = opt minimum) ∧ (opt delay ≤ 4294967295 → at_ 22 4 = opt delay))
        ∧ (∀ event offset, r.body = .time event offset →
            at_ 13 1 = (match event with | .step => 0 | .refSwitch => 1 | .quality => 2)
            ∧ (-2147483648 ≤ offset → offset ≤ 2147483647 → (BitVec.ofNat 32 (at_ 14 4)).toInt = offset))
        ∧ (∀ k time, r.body = .mark k (.tod time) → at_ 13 1 = k.idx.val ∧ at_ 14 1 = 0 ∧ at_ 15 4 = time.sec.toNat
            ∧ (time.ns < 4294967296 → at_ 19 4 = time.ns))
        ∧ (∀ k n, r.body = .mark k (.mono n) → at_ 13 1 = k.idx.val ∧ at_ 14 1 = 1
            ∧ (n < 18446744073709551616 → at_ 15 8 = n))
        ∧ (r.body = .reset → r.image.drop 13 = List.replicate 19 0#8))

/-- From a SUPERVISOR, GATEWAY or OPERATOR port READ CAPTURE returns the status before the read, VALUE or EMPTY, the
source and the oldest stamp (zero when empty), removes that stamp and clears LOST, and changes nothing else but the
port's own result, status byte and response, which it then clocks out: its mask, pending set and counts stay; a
channel above 3 is refused ARGUMENT and an OBSERVER port RIGHTS. -/
def Obligations.CaptureReadRemovesOldest : Prop :=
  ∀ (s : State) (port : Port) (more : List Byte), s.resetting = none →
    ((s.port port).role = .observer → ∀ b, exec (.readCapture port (b :: more)) s = .next (s.readRefused port .rights))
    ∧ ((s.port port).role ≠ .observer →
      (∀ b : Byte, 3 < b.toNat → exec (.readCapture port (b :: more)) s = .next (s.readRefused port .argument))
      ∧ ∀ (k : Channel) (b : Byte), b.toNat = k.idx.val → ∃ t : State, exec (.readCapture port (b :: more)) s = .next t
          ∧ (t.channel k).fifo = (s.channel k).fifo.tail ∧ (t.channel k).lost = false
          ∧ t.channel k = { s.channel k with fifo := (t.channel k).fifo, lost := (t.channel k).lost }
          ∧ (∀ j, j ≠ k → t.channel j = s.channel j)
          ∧ t.port port = { s.port port with
              lastResult := .ok, statusOut := s.statusByte port, reading := some .plain
              response := (t.port port).response }
          ∧ (t.port port).response = BitVec.ofNat 8 (if (s.channel k).lost then 3 else (s.channel k).fifo.length)
              :: (match (s.channel k).fifo with | [] => 0#8 | _ => 1#8)
              :: (match (s.channel k).source with | .tod => 0#8 | .mono => 1#8)
              :: (match (s.channel k).fifo with
                | [] => [0#8, 0#8, 0#8, 0#8, 0#8, 0#8, 0#8, 0#8]
                | .tod v :: _ => leBytes 4 v.sec.toNat ++ leBytes 4 v.ns
                | .mono v :: _ => leBytes 8 v)
          ∧ (∀ q, q ≠ port → t.port q = s.port q)
          ∧ t = { s with time := { s.time with channels := t.time.channels }, ports := t.ports })

/-- READ LOG and PEEK LOG answer the port's lost count, unread count and cursor in eight bytes, PEEK LOG with a peek
position at the cursor, and change nothing but the port's own result and response. When the last byte of a READ LOG
head is out, the lost count falls by the value the head showed, and the image of the first retained record from the
cursor that matches the filter is due, or an EMPTY image with the next serial; PEEK LOG leaves the lost count. A READ
LOG image whose last byte is out moves the cursor to its serial plus one, an EMPTY image to the serial it carries,
from a cursor that lies before it among the retained serials; the lost count and the filter stay; PEEK LOG images move
no cursor. After an image the next is chosen from the cursor in the same way, and PEEK LOG chooses from its own
position as it moves. Where overwrites have meanwhile moved the cursor to that serial or beyond it, the cursor stays
(log entry 17). That an image is chosen at the end of the bytes before it, and that these completion rows serve PEEK
LOG too, is log entry 18. -/
def Obligations.LogReadsMoveCursor : Prop :=
  ((∀ (s : State) (port : Port), s.resetting = none →
            let head : List Byte := leBytes 2 (s.reader port).lost ++ leBytes 2 (s.unread port)
              ++ leBytes 4 (s.reader port).cursor.toNat
            exec (.readLog port) s = .next (s.modPort port (fun c =>
                { c with
                  lastResult := .ok, statusOut := s.statusByte port, response := head
                  reading := some (.log (.head (s.reader port).lost)) }))
            ∧ exec (.peekLog port) s = .next (s.modPort port (fun c =>
                { c with
                  lastResult := .ok, statusOut := s.statusByte port, response := head
                  reading := some (.peek (s.reader port).cursor (.head (s.reader port).lost)) })))
        ∧ (∀ (s : State) (port : Port) (shown : Nat),
            ((s.port port).reading = some (.log (.head shown)) → ∃ t : State, exec (.logHeadComplete port) s = .next t
              ∧ (t.reader port).lost = (s.reader port).lost - shown
              ∧ t.reader port = { s.reader port with lost := (t.reader port).lost }
              ∧ (∀ q, q ≠ port → t.reader q = s.reader q ∧ t.port q = s.port q)
              ∧ s.imageChosen t port (s.reader port).cursor .log
              ∧ t = { s with log := { s.log with readers := t.log.readers }, ports := t.ports })
            ∧ (∀ position : Seq, (s.port port).reading = some (.peek position (.head shown)) →
                ∃ t : State, exec (.logHeadComplete port) s = .next t ∧ t = { s with ports := t.ports }
                  ∧ s.imageChosen t port position (.peek position))))
    ∧ (∀ (s : State) (port : Port) (serial : Seq),
        ((s.port port).reading = some (.log (.image serial)) →
          ((s.reader port).cursor - s.log.oldest).toNat < (serial + 1 - s.log.oldest).toNat →
          (serial + 1 - s.log.oldest).toNat ≤ s.log.records.length →
          ∃ t : State, exec (.logImageComplete port) s = .next t ∧ t.reader port = { s.reader port with cursor := serial + 1 }
            ∧ (∀ q, q ≠ port → t.reader q = s.reader q ∧ t.port q = s.port q)
            ∧ s.imageChosen t port (serial + 1) .log
            ∧ t = { s with log := { s.log with readers := t.log.readers }, ports := t.ports })
        ∧ ((s.port port).reading = some (.log (.image serial)) →
          ((serial + 1 - s.log.oldest).toNat ≤ ((s.reader port).cursor - s.log.oldest).toNat
            ∨ s.log.records.length < (serial + 1 - s.log.oldest).toNat) →
          ∃ t : State, exec (.logImageComplete port) s = .next t ∧ t.reader port = s.reader port
            ∧ s.imageChosen t port (s.reader port).cursor .log
            ∧ t = { s with ports := t.ports })
        ∧ ((s.port port).reading = some (.log (.empty serial)) →
          ((s.reader port).cursor - s.log.oldest).toNat < (serial - s.log.oldest).toNat →
          (serial - s.log.oldest).toNat ≤ s.log.records.length →
          ∃ t : State, exec (.emptyImageComplete port) s = .next t ∧ t.reader port = { s.reader port with cursor := serial }
            ∧ (∀ q, q ≠ port → t.reader q = s.reader q ∧ t.port q = s.port q)
            ∧ s.imageChosen t port serial .log
            ∧ t = { s with log := { s.log with readers := t.log.readers }, ports := t.ports })
        ∧ ((s.port port).reading = some (.log (.empty serial)) →
          ((serial - s.log.oldest).toNat ≤ ((s.reader port).cursor - s.log.oldest).toNat
            ∨ s.log.records.length < (serial - s.log.oldest).toNat) →
          ∃ t : State, exec (.emptyImageComplete port) s = .next t ∧ t.reader port = s.reader port
            ∧ s.imageChosen t port (s.reader port).cursor .log
            ∧ t = { s with ports := t.ports })
        ∧ (∀ position : Seq, (s.port port).reading = some (.peek position (.image serial)) →
            ∃ t : State, exec (.logImageComplete port) s = .next t ∧ t = { s with ports := t.ports }
              ∧ ((position - s.log.oldest).toNat < (serial + 1 - s.log.oldest).toNat →
                  (serial + 1 - s.log.oldest).toNat ≤ s.log.records.length → s.imageChosen t port (serial + 1) (.peek (serial + 1)))
              ∧ (((serial + 1 - s.log.oldest).toNat ≤ (position - s.log.oldest).toNat
                  ∨ s.log.records.length < (serial + 1 - s.log.oldest).toNat) → s.imageChosen t port position (.peek position)))
        ∧ (∀ position : Seq, (s.port port).reading = some (.peek position (.empty serial)) →
            ∃ t : State, exec (.emptyImageComplete port) s = .next t ∧ t = { s with ports := t.ports }
              ∧ ((position - s.log.oldest).toNat < (serial - s.log.oldest).toNat →
                  (serial - s.log.oldest).toNat ≤ s.log.records.length → s.imageChosen t port serial (.peek serial))
              ∧ (((serial - s.log.oldest).toNat ≤ (position - s.log.oldest).toNat
                  ∨ s.log.records.length < (serial - s.log.oldest).toNat) → s.imageChosen t port position (.peek position))))

/-- From any role, SET LOG FILTER with record kinds 1 to 9 and a watermark of 1 to 1,024 replaces the port's filter and
watermark, and otherwise is refused ARGUMENT; SEEK LOG sets the port's cursor to the oldest retained serial (0) or the
next serial (1), any other value is refused ARGUMENT; the lost count and, for SEEK LOG, the filter stay, and LOG is
raised on that port alone when its log condition then holds. -/
def Obligations.LogSettingsTaken : Prop :=
  ∀ (s : State) (port : Port), s.resetting = none →
    (∀ (a b w0 w1 : Byte),
      ((a.toNat % 2 = 0 ∧ b.toNat < 4 ∧ 1 ≤ w0.toNat + 256 * w1.toNat ∧ w0.toNat + 256 * w1.toNat ≤ 1024) →
        ∃ t : State, exec (.setLogFilter port [a, b, w0, w1]) s = .next t
          ∧ t.reader port = { s.reader port with
              filter := BitVec.ofNat 16 (a.toNat + 256 * b.toNat), watermark := w0.toNat + 256 * w1.toNat }
          ∧ (∀ q, q ≠ port → t.reader q = s.reader q ∧ t.port q = s.port q)
          ∧ (t.port port).pending = (if (t.reader port).watermark ≤ t.unread port then (s.port port).pending ||| 1#16
              else (s.port port).pending)
          ∧ t = { s with log := { s.log with readers := t.log.readers }, ports := t.ports })
      ∧ ((a.toNat % 2 = 1 ∨ 4 ≤ b.toNat ∨ w0.toNat + 256 * w1.toNat = 0 ∨ 1024 < w0.toNat + 256 * w1.toNat) →
          exec (.setLogFilter port [a, b, w0, w1]) s = .next (s.answered port .argument)))
    ∧ (∀ (b : Byte), 1 < b.toNat → exec (.seekLog port [b]) s = .next (s.answered port .argument))
    ∧ (∀ (b : Byte), b.toNat ≤ 1 → ∃ t : State, exec (.seekLog port [b]) s = .next t
        ∧ t.reader port = { s.reader port with
            cursor := if b.toNat = 0 then s.log.next - BitVec.ofNat 32 s.log.records.length else s.log.next }
        ∧ (∀ q, q ≠ port → t.reader q = s.reader q ∧ t.port q = s.port q)
        ∧ (t.port port).pending = (if (t.reader port).watermark ≤ t.unread port then (s.port port).pending ||| 1#16
            else (s.port port).pending)
        ∧ (t.port port).lastResult = .ok
        ∧ t = { s with log := { s.log with readers := t.log.readers }, ports := t.ports })

/-- The shared operation by which every block writes the log: the record gets the next serial and the TOD and quality of
the moment; a full log gives up its oldest record; a port whose cursor stands at the overwritten serial moves on by
one, counts one lost record and gets LOST on that port alone; LOG is raised on a port exactly when the record matches
its filter and the unread count is at or above its watermark; no other attention kind changes, and of a port context
nothing changes but the pending set and what a read in progress holds: the position of a PEEK LOG that an overwrite
moves, and the kinds raised since a READ ATTENTION copied. -/
def Obligations.RecordTaken : Prop :=
  ∀ (s : State) (body : RecordBody),
    let t := s.logWrite body
    let full := 1024 ≤ s.log.records.length
    t.log.next = s.log.next + 1
      ∧ t.log.records = (if full then s.log.records.tail else s.log.records)
          ++ [⟨s.log.next, s.time.tod, s.time.quality, body⟩]
      ∧ (∀ p, full → (s.reader p).cursor = s.log.oldest →
          t.reader p = { s.reader p with
              cursor := (s.reader p).cursor + 1, lost := min 65535 ((s.reader p).lost + 1) }
            ∧ AttnSet.has (t.port p).pending .lost = true)
      ∧ (∀ p, ¬(full ∧ (s.reader p).cursor = s.log.oldest) → t.reader p = s.reader p
          ∧ AttnSet.has (t.port p).pending .lost = AttnSet.has (s.port p).pending .lost)
      ∧ (∀ p, (s.reader p).filter.getLsbD body.kindCode = true → (t.reader p).watermark ≤ t.unread p →
          AttnSet.has (t.port p).pending .log = true)
      ∧ (∀ p, ((s.reader p).filter.getLsbD body.kindCode = false ∨ t.unread p < (t.reader p).watermark) →
          AttnSet.has (t.port p).pending .log = AttnSet.has (s.port p).pending .log)
      ∧ (∀ p k, k ≠ .log → k ≠ .lost → AttnSet.has (t.port p).pending k = AttnSet.has (s.port p).pending k)
      ∧ s.portsRaised t
      ∧ t = { s with log := t.log, ports := t.ports }

/-- From every state pin reset and power-on reset have the same effects: the site id and the three roles are those of the
strap levels given, and every other register, queue and counter has the reset value its chapter gives, the first score
decay deadline lying 1,000 ms after MONO 0 (log entry 26). A path frame that was arriving is forgotten (log entry 36),
and so is a read that was being clocked out (log entry 41). The waiting inputs stay in the model's queue (log entry
2). -/
def Obligations.PinResetValues : Prop :=
  ∀ (s : State) (site : BitVec 4) (r0 r1 r2 : BitVec 2),
    exec (.powerOnReset site r0 r1 r2) s = exec (.pinReset site r0 r1 r2) s
      ∧ ∃ t : State, exec (.pinReset site r0 r1 r2) s = .next t
        ∧ t.siteId = site ∧ (t.port .p0).role.code = r0.toNat ∧ (t.port .p1).role.code = r1.toNat
        ∧ (t.port .p2).role.code = r2.toNat
        ∧ (∀ p, (t.port p).lastResult = .ok ∧ (t.port p).mask = 0 ∧ (t.port p).pending = 0
            ∧ (t.port p).framingErrors = 0 ∧ (t.port p).unknownCommands = 0 ∧ (t.port p).reading = none)
        ∧ t.time.mono = 0 ∧ t.time.tod = ⟨0, 0⟩ ∧ t.time.rem = 0 ∧ t.time.quality = .free ∧ t.time.lockCount = 0
        ∧ t.time.f = 0 ∧ t.time.ph = 0 ∧ t.time.discipline = false ∧ t.time.ts = 100000 ∧ t.time.tl = 100
        ∧ t.time.ki = 4 ∧ t.time.active = none ∧ (∀ r, (t.ref r).run = 0 ∧ (t.ref r).qualified = false)
        ∧ (∀ k, (t.channel k).fifo = [] ∧ (t.channel k).lost = false ∧ (t.channel k).source = .tod ∧ (t.channel k).log = false)
        ∧ (t.channel .ref0).edge = .rising ∧ (t.channel .ref1).edge = .rising ∧ (t.channel .mark0).edge = .none
        ∧ (t.channel .mark1).edge = .none
        ∧ (∀ o, t.marker o = ⟨.forcedLow, ⟨0, 0⟩, 0, 1, false, false, 0, none⟩)
        ∧ (∀ p, (t.entry p).state = .disabled ∧ (t.entry p).reason = .operator ∧ (t.entry p).farState = none
            ∧ (t.entry p).margin = none ∧ (t.entry p).bank0 = ⟨40, 24, 8, 32, 20, 20000⟩
            ∧ (t.entry p).bank1 = ⟨40, 24, 8, 32, 20, 20000⟩ ∧ (t.entry p).silenceTimeout = 2000
            ∧ (t.entry p).windowLength = 100 ∧ (t.entry p).errorLimit = 50 ∧ (t.entry p).recoverHold = 10000
            ∧ (t.entry p).reportTimeout = 5000 ∧ (t.entry p).delay = none ∧ (t.entry p).effDelay = 16777215
            ∧ (t.entry p).weight = 2 ∧ (t.entry p).lossWeight = 8 ∧ (t.entry p).decayInterval = 1000
            ∧ (t.entry p).score = 0 ∧ (t.entry p).locked = false ∧ (t.entry p).stats.lagMin = 4294967295
            ∧ (t.receiver p).silence = .stopped ∧ (t.transmitter p).queue = [] ∧ (t.transmitter p).inProgress = none)
        ∧ t.hasResetValues 0 ∧ t.localPort = ⟨0, none, [], none⟩
        ∧ (∀ p, t.receiver p = ⟨.stopped, none⟩ ∧ t.transmitter p = ⟨[], none, none, none, .stopped⟩)
        ∧ t.peerSite = none ∧ t.beaconInterval = 100 ∧ t.selector.primary = none ∧ t.selector.dispatchSet = 0
        ∧ t.selector.guard = none ∧ t.selector.pin = none ∧ t.selector.hysteresis = 200 ∧ t.selector.widthCode = 1
        ∧ t.selector.shadow = true ∧ t.selector.guardTime = 500 ∧ t.selector.rank = [.a, .b, .c, .d, .f]
        ∧ (∀ i, t.rxStream i = ⟨false, 4, false, 200, 8, true, false, 0, 0, 0, none, 0, 0, 0, 0, 0, 0, 0, []⟩
            ∧ t.txStream i = ⟨false, 0, 0, 0, 0, 0⟩)
        ∧ t.localPort.malformed = 0 ∧ t.localPort.queue = [] ∧ t.sounding.state = .idle ∧ t.sounding.tag = 0
        ∧ t.log.records = [] ∧ t.log.next = 0
        ∧ (∀ p, t.reader p = ⟨0, 0x3FE#16, 1, 0⟩) ∧ t.resetting = none ∧ t.pending = s.pending

/-- Outside a soft reset period SOFT RESET on an OPERATOR port is taken in every state: the 200 us period begins; every
port context is reset with its role kept and LOG alone pending; a read on another port is cut off, with zero bytes
from then on; the log holds the RESET record alone, with the serial that was next and every cursor on it; MONO, TOD,
the discipline, the references and the capture settings are kept, FIFOs emptied and markers reset; every field of the
entries (banks, timers, smoothing settings, windows, deadlines and statistics among them), the whole selection (no
parameter and no pin is kept), the peer site and beacon interval, the streams, the local port and every field of the
sweep have their reset values; receivers and transmitters are stopped and emptied; frames in progress go on, their end
uncounted. The site id stays. Frames that are arriving are marked to be discarded at their end (log entry 12); the
first score decay deadline lies 1,000 ms after the end of the period (log entry 26); the model's queue stays (log
entry 2). -/
def Obligations.SoftResetTaken : Prop :=
  ∀ (s : State) (port : Port), s.resetting = none → (s.port port).role = .operator →
    ∃ t : State, exec (.softReset port []) s = .next t ∧ t.resetting = some (s.mono + 200000)
      ∧ (∀ q, t.port q =
          { role := (s.port q).role, lastResult := .ok, mask := 0, pending := 1#16, framingErrors := 0
            unknownCommands := 0, reading := if q = port then none else (s.port q).reading.map (fun _ => .interrupted)
            statusOut := if q = port then s.statusByte port else (s.port q).statusOut, response := [] })
      ∧ (∀ q, q ≠ port → (s.port q).reading ≠ none → (t.port q).reading = some .interrupted ∧ (t.port q).response = [])
      ∧ t.log.records = [⟨s.log.next, s.time.tod, s.time.quality, .reset⟩] ∧ t.log.next = s.log.next + 1
      ∧ (∀ q, t.reader q = ⟨s.log.next, 0x3FE#16, 1, 0⟩)
      ∧ t.time = { s.time with channels := t.time.channels, markers := t.time.markers }
      ∧ (∀ k, t.channel k = { s.channel k with fifo := [], lost := false })
      ∧ (∀ o, t.marker o = ⟨.forcedLow, ⟨0, 0⟩, 0, 1, false, false, 0, none⟩)
      ∧ t.hasResetValues (s.mono + 200000)
      ∧ (∀ p, t.receiver p = ⟨.stopped, (s.receiver p).arriving.map (fun a => { a with discard := true })⟩
          ∧ t.transmitter p = { queue := [], echo := none, probe := none, beacon := .stopped
                                inProgress := (s.transmitter p).inProgress.map (fun x => { x with uncounted := true }) })
      ∧ t.localPort = ⟨0, s.localPort.arriving.map (fun a => { a with discard := true }), [], s.localPort.inProgress⟩
      ∧ t.siteId = s.siteId ∧ t.pending = s.pending

/-- When the 200 us have passed RESETTING clears and nothing else changes; before that, and with no period in progress,
nothing changes (log entry 3). When select rises on a read that a soft reset cut off, the port's last result becomes
BUSY, the read is over and nothing else changes; the row given to a port whose read was not cut off is the rise of
select that ends that read, with its result kept, and without a read it changes nothing (log entries 42 and 3, the
model's choice). In each case the data out pin is not driven after it. A path frame or local frame that began in the
period, or whose end falls in it, is discarded at its end: the arrival ends, nothing is counted and nothing else
changes (log entry 12 for a frame that was arriving when the period began). -/
def Obligations.SoftResetPeriodEnds : Prop :=
  (∀ s : State, (∀ d, s.resetting = some d → d ≤ s.mono → exec .softResetPeriodEnd s = .next { s with resetting := none })
        ∧ (∀ d, s.resetting = some d → s.mono < d → exec .softResetPeriodEnd s = .next s)
        ∧ (s.resetting = none → exec .softResetPeriodEnd s = .next s))
    ∧ (∀ (s : State) (port : Port),
        ((s.port port).reading = some .interrupted → exec (.interruptedReadSelectRise port) s =
          .next (s.modPort port (fun c => { c with lastResult := .busy, reading := none })))
        ∧ ((s.port port).reading = none → exec (.interruptedReadSelectRise port) s = .next s)
        ∧ ((s.port port).reading ≠ none → (s.port port).reading ≠ some .interrupted →
          exec (.interruptedReadSelectRise port) s = .next (s.modPort port (fun c => { c with reading := none })))
        ∧ ∃ t : State, exec (.interruptedReadSelectRise port) s = .next t ∧ (t.port port).dataOut = none)
    ∧ (∀ (s : State) (p : Path) (bytes : List Byte) (a : Arriving), (s.receiver p).arriving = some a →
        (a.discard = true ∨ s.resetting ≠ none) →
        exec (.pathFrameEnd p bytes) s = .next (s.modReceiver p (fun r => { r with arriving := none })))
    ∧ (∀ (s : State) (bytes : List Byte) (a : LocalArriving), s.localPort.arriving = some a →
        (a.discard = true ∨ s.resetting ≠ none) →
        exec (.localFrameIntake bytes) s = .next { s with localPort := { s.localPort with arriving := none } })

/-- For every path frame whose fields lie in the ranges of R2, R3 and R6, the bytes the transmitter sends (layout of R172,
CRC of R4) have the length R172 gives and pass the receiver's first check, which reads back the same head and the same
fields. The bytes of a local frame in the layout of R172 are read back as its stream and payload when the payload has
1 to 1,408 bytes, and are malformed otherwise (R93). A delivered frame is the stream, the payload length and the
payload, then the trailer of 13 bytes (sequence, path, arrival seconds and nanoseconds) and the CRC over all of it. -/
def Obligations.FramesRoundTrip : Prop :=
  (∀ (f : PathFrame),
        (match f.body with
          | .data c => c.origin.ns < 1000000000 ∧ c.mask ≠ 0 ∧ 1 ≤ c.payload.length ∧ c.payload.length ≤ 1408
          | .beacon t => t.ns < 1000000000
          | .probe _ index => index ≤ 15
          | .echo _ index residence => index ≤ 15 ∧ residence ≤ 4294967295) →
          parsePathFrame f.bytes = some f
            ∧ f.bytes.length = (match f.body with
                | .data c => 23 + c.payload.length | .beacon _ => 16 | .probe _ _ => 10 | .echo _ _ _ => 14))
    ∧ (∀ (i : StreamId) (payload : List Byte), payload.length < 65536 →
        parseLocalFrame (localFrameBytes i payload)
            = (if 1 ≤ payload.length ∧ payload.length ≤ 1408 then some (i, payload) else none)
          ∧ (localFrameBytes i payload).length = 7 + payload.length)
    ∧ (∀ f : DeliveredFrame, f.payload.length < 65536 → f.arrival.ns < 4294967296 →
        let n := f.payload.length
        f.bytes.length = 20 + n ∧ f.bytes.take 3 = BitVec.ofNat 8 f.stream.val :: leBytes 2 n
          ∧ (f.bytes.drop 3).take n = f.payload
          ∧ leNat ((f.bytes.drop (3 + n)).take 4) = f.seq.toNat ∧ leNat ((f.bytes.drop (7 + n)).take 1) = f.path.idx.val
          ∧ leNat ((f.bytes.drop (8 + n)).take 4) = f.arrival.sec.toNat
          ∧ leNat ((f.bytes.drop (12 + n)).take 4) = f.arrival.ns
          ∧ leNat (f.bytes.drop (16 + n)) = (crc (f.bytes.take (16 + n))).toNat)

/-- For every command the transaction written with its code of R173 decodes to it; and every transaction with a complete
byte decodes to a well-formed command on its port whose own bytes begin the transaction (a read without arguments
ignores the rest). The bits of a transaction, each byte most significant bit first, spell what its whole bytes spell;
the bits of an incomplete last byte do not count. -/
def Obligations.TransactionRoundTrip : Prop :=
  (∀ (i : Instr) (port : Port) (bytes : List Byte), i.wellFormed = true → encodeTransaction i = some (port, bytes) →
      decodeTransaction port bytes = some i)
    ∧ (∀ (port : Port) (bytes : List Byte) (i : Instr), decodeTransaction port bytes = some i →
        i.wellFormed = true ∧ ∃ sent : List Byte, encodeTransaction i = some (port, sent) ∧ sent <+: bytes)
    ∧ (∀ (port : Port) (bytes : List Byte) (rest : List Bool), rest.length < 8 →
        decodeSerial port (bytes.flatMap (fun b => [b.getLsbD 7, b.getLsbD 6, b.getLsbD 5, b.getLsbD 4, b.getLsbD 3,
          b.getLsbD 2, b.getLsbD 1, b.getLsbD 0]) ++ rest) = decodeTransaction port bytes)

/-- The first byte of a frame at a path port makes the receiver hold MONO, TOD and quality of that instant, marked for
discarding in a soft reset period, and changes nothing else. On a path that is not DISABLED, a well-formed frame whose
path id is not the port's, or whose sender site is not the peer site, raises the path's crossed statistic by 1 and
changes no other state. A frame that fails the first check raises check errors by 1; on a DISABLED path nothing else
changes; on another path the running error window's count rises by 1 up to 65,535 and the path is evaluated: while no
transition of R42 applies (below the limit, or a FAILED path with errors exhausted or silent) nothing else changes at
all; in contact the state, reason and hold follow PathEntry.settles; and when the count reaches the limit on a path in
service whose silence timer runs, the path becomes FAILED with reason ERRORS, its queue is flushed and a burst on it
closes as R151 gives, OK with a valid sample and ABORTED without one. Far state, far quality, margin and settings
never change. Time, streams and the other entries do not change. That the path has no hold deadline where
PathEntry.settles makes it ACTIVE or FADING, or where it fails from one of these, and that a hold whose deadline MONO
has reached counts as expired at this evaluation, is log entry 23 (DEDUCED; R46 says of FAILED and DISABLED alone that
the deadline becomes none). That the probe index, the samples and last t1 keep
their values past the end of a burst that a failure by errors closes, or of the sweep that ends with it, until a burst
or a sweep sets them anew, is log entry 40, a deduction of the model. -/
def Obligations.FrameChecksCount : Prop :=
  (∀ (s : State) (p : Path), exec (.pathFrameStart p) s = .next (s.modReceiver p (fun r =>
        { r with arriving := some ⟨⟨s.time.mono, s.time.tod, s.time.quality⟩, s.resetting.isSome⟩ })))
    ∧ (∀ (s : State) (p : Path) (bytes : List Byte) (f : PathFrame) (stamp : Stamp),
        (s.receiver p).arriving = some ⟨stamp, false⟩ → s.resetting = none → parsePathFrame bytes = some f →
        (s.entry p).state ≠ .disabled →
        (f.pathId.toNat ≠ p.idx.val ∨ ∃ peer, s.peerSite = some peer ∧ f.site ≠ peer) →
          exec (.pathFrameEnd p bytes) s = .next ((s.modReceiver p (fun r => { r with arriving := none })).modEntry p
            (fun e => { e with stats := { e.stats with crossed := min 4294967295 (e.stats.crossed + 1) } })))
    ∧ (∀ (s : State) (p : Path) (bytes : List Byte) (stamp : Stamp),
        (s.receiver p).arriving = some ⟨stamp, false⟩ → s.resetting = none → parsePathFrame bytes = none →
          ((s.entry p).state = .disabled →
            exec (.pathFrameEnd p bytes) s = .next ((s.modReceiver p (fun r => { r with arriving := none })).modEntry p
              (fun e => { e with stats := { e.stats with checkErrors := min 4294967295 (e.stats.checkErrors + 1) } })))
          ∧ ((s.entry p).state ≠ .disabled → ∃ t : State, exec (.pathFrameEnd p bytes) s = .next t
              ∧ (t.entry p).stats.checkErrors = min 4294967295 ((s.entry p).stats.checkErrors + 1)
              ∧ (t.entry p).window = (s.entry p).window.map (fun w => { w with count := min 65535 (w.count + 1) })
              ∧ (t.receiver p).silence = (s.receiver p).silence
              ∧ (let e := s.entry p
                let counted : PathEntry := { e with
                  window := e.window.map (fun w => { w with count := min 65535 (w.count + 1) })
                  stats := { e.stats with checkErrors := min 4294967295 (e.stats.checkErrors + 1) } }
                let silent := (s.receiver p).silence.silent
                counted.evaluatedFrom (t.entry p)
                ∧ (silent = false → counted.exhausted = false → counted.inOrder p → counted.settles (t.entry p) p s.mono)
                ∧ (((silent = false ∧ counted.exhausted = false ∧ (counted.evaluatesTo p s.mono).1 = e.state)
                    ∨ (e.state = .failed ∧ (silent = true ∨ counted.exhausted = true))) →
                  t = (s.modReceiver p (fun r => { r with arriving := none })).modEntry p (fun _ => counted))
                ∧ (∀ w d, e.window = some w → (s.receiver p).silence = .running d →
                    e.errorLimit ≤ min 65535 (w.count + 1) → e.state ≠ .failed →
                      (t.entry p).state = .failed ∧ (t.entry p).reason = .errors ∧ (t.transmitter p).queue = []
                      ∧ s.pathFailed t p counted .errors
                      ∧ s.sweepLeft t p s.sounding.closure (fun m => { m with queue := [] })))
              ∧ s.entriesBut t p ∧ s.sameParameters t ∧ s.portsRaised t
              ∧ t = { s with
                  paths := t.paths, receivers := t.receivers, transmitters := t.transmitters, selector := t.selector
                  sounding := t.sounding, log := t.log, ports := t.ports }))

/-- A frame that passes the first check on a DISABLED path, whatever its path id and sender site, raises the path's
discarded-disabled statistic by 1 and changes no other state (the arrival ends). -/
def Obligations.DisabledPathDiscards : Prop :=
  ∀ (s : State) (p : Path) (bytes : List Byte) (f : PathFrame) (stamp : Stamp),
    (s.receiver p).arriving = some ⟨stamp, false⟩ → s.resetting = none → parsePathFrame bytes = some f →
    (s.entry p).state = .disabled →
      exec (.pathFrameEnd p bytes) s = .next ((s.modReceiver p (fun r => { r with arriving := none })).modEntry p
        (fun e => { e with stats := { e.stats with discardedDisabled := min 4294967295 (e.stats.discardedDisabled + 1) } }))

/-- A frame that passes the four receive checks, of any kind: the silence timer is RUNNING to the arrival MONO plus the
silence timeout, far state and far time quality are the frame's, rx valid rises by 1, and the path is evaluated (a
FAILED path that is not out of errors nor below Rc becomes RECOVERING with its hold); another receiver, the clock, the
transmit sides and the selection parameters do not change. The frame is then passed onward from that state: DATA to
the Merge Unit, PROBE to the echo service, ECHO to the sweep, each with path and arrival stamp, a BEACON to none; only
DATA touches the streams and the local port. That it is passed onward after the evaluation is log entry 14; that a
RECOVERING path whose hold deadline MONO has reached recovers at this evaluation is log entry 23. -/
def Obligations.ValidFrameReported : Prop :=
  ∀ (s : State) (p : Path) (bytes : List Byte) (f : PathFrame) (stamp : Stamp),
    (s.receiver p).arriving = some ⟨stamp, false⟩ → s.resetting = none → parsePathFrame bytes = some f →
    (s.entry p).state ≠ .disabled → f.pathId.toNat = p.idx.val → (∀ peer, s.peerSite = some peer → f.site = peer) →
      let u := (s.modReceiver p (fun r => { r with arriving := none })).validFrame p stamp.mono f.state f.quality
      ∃ t : State, exec (.pathFrameEnd p bytes) s = .next t
        ∧ (t.receiver p).silence = .running (stamp.mono + (s.entry p).silenceTimeout * 1000)
        ∧ (t.receiver p).arriving = none
        ∧ (t.entry p).farState = some f.state ∧ (t.entry p).farQuality = some f.quality
        ∧ (t.entry p).stats.rxValid = min 4294967295 ((s.entry p).stats.rxValid + 1)
        ∧ (t.entry p).stats.checkErrors = (s.entry p).stats.checkErrors
        ∧ (∀ q, q ≠ p → t.receiver q = s.receiver q) ∧ s.sameParameters t ∧ s.portsRaised t
        ∧ t.time = s.time ∧ t.txStreams = s.txStreams ∧ t.peerSite = s.peerSite
        ∧ ((∀ c, f.body ≠ .data c) → t.rxStreams = s.rxStreams ∧ t.localPort = s.localPort ∧ s.entriesBut t p)
        ∧ PathEntry.evaluatedFrom { s.entry p with
            farState := some f.state, farQuality := some f.quality
            stats := { (s.entry p).stats with rxValid := min 4294967295 ((s.entry p).stats.rxValid + 1) } } (u.entry p)
        ∧ ((s.entry p).exhausted = false → (p ≠ .f → (s.entry p).bank.ordered = true) →
            ((u.entry p).state, (u.entry p).reason) = (s.entry p).evaluatesTo p s.mono
            ∧ ((s.entry p).state = .failed → (u.entry p).state = .recovering →
                (u.entry p).entered = s.mono
                ∧ (u.entry p).holdDeadline = some (s.mono + (s.entry p).recoverHold * 1000000)))
        ∧ (∀ q, q ≠ p → u.entry q = s.entry q)
        ∧ u = { s with
            paths := u.paths, receivers := u.receivers, transmitters := u.transmitters, selector := u.selector
            sounding := u.sounding, log := u.log, ports := u.ports }
        ∧ (∀ c, f.body = .data c → t = u.takeData ⟨c, f.quality, p, stamp⟩)
        ∧ (∀ tod, f.body = .beacon tod → t = u)
        ∧ (∀ tag index, f.body = .probe tag index → t = u.echoService p tag index stamp.mono)
        ∧ (∀ tag index residence, f.body = .echo tag index residence →
            t = u.takeEcho p tag index residence stamp.mono)

/-- The echo service replaces any older pending echo of the path; with no frame in progress the ECHO starts at once, its
head filled at that moment, with residence MONO less the PROBE's arrival, saturated; nothing else changes. An ECHO
that does not match the outstanding probe in path, tag and index is counted stale and nothing else. A match whose
round trip is not above the residence is invalid; otherwise half the difference, floored and at most 16,777,215, is a
sample, and the burst keeps the least. With probes left the next one waits for its spacing, or is issued at once when
the spacing since last t1 has passed. After the last probe, its echo valid or not and with paths remaining or not, the
burst ends, OK with a valid sample and FAILED (score plus 64) without one, and the sweep takes its next turn or ends
(State.burstEnded). After a valid last probe of the last path the burst ends OK: the score is halved, D becomes the
least sample (when UNSET) or moves towards it by the floored shift, unless the path is locked, E is formed anew, the
SOUND record is the last and the sweep ends with SWEEP attention. That the probe index, the samples and last t1 keep
their values past the end of the burst, or of the sweep that ends with it, until a burst or a sweep sets them anew, is
log entry 40, a deduction of the model. -/
def Obligations.EchoesAnsweredAndSampled : Prop :=
  (∀ (s : State) (p : Path) (tag : Byte) (index arrival : Nat),
        let t := s.echoService p tag index arrival
        (((s.transmitter p).inProgress ≠ none ∨ (s.entry p).state = .disabled) →
            t = s.modTransmitter p (fun x => { x with echo := some ⟨tag, index, arrival⟩ }))
          ∧ ((s.transmitter p).inProgress = none → (s.entry p).state ≠ .disabled →
            t = s.modTransmitter p (fun x =>
              { x with
                echo := none
                inProgress := some ⟨⟨s.siteId, BitVec.ofNat 4 p.idx.val, (s.entry p).state, s.time.quality,
                  .echo tag index (min 4294967295 (s.mono - arrival))⟩, false⟩ })))
    ∧ (∀ (s : State) (p : Path) (tag : Byte) (index residence t4 : Nat),
        let x := s.sounding
        let t := s.takeEcho p tag index residence t4
        let stale := { s with sounding := { x with stale := min 4294967295 (x.stale + 1) } }
        (x.outstanding = none → t = stale)
        ∧ ∀ o, x.outstanding = some o →
          ((x.current ≠ some p ∨ x.tag ≠ tag ∨ o.index ≠ index) → t = stale)
          ∧ (x.current = some p → x.tag = tag → o.index = index →
            let sample := min 16777215 ((t4 - o.t1 - residence) / 2)
            let least := match x.minimum with | none => sample | some m => min m sample
            let judged : State := if t4 - o.t1 ≤ residence then
                { s.modEntry p (fun e => { e with stats := { e.stats with
                    probesInvalid := min 4294967295 (e.stats.probesInvalid + 1) } }) with
                  sounding := { x with outstanding := none } }
              else { s.modEntry p (fun e => { e with stats := { e.stats with
                    probesValid := min 4294967295 (e.stats.probesValid + 1) } }) with
                  sounding := { x with outstanding := none, valid := x.valid + 1, minimum := some least } }
            (∀ t1, x.probeIndex < x.countCode + 1 → x.lastT1 = some t1 → s.mono < t1 + x.spacing * 1000 → t = judged)
            ∧ (x.probeIndex < x.countCode + 1 → (∀ t1, x.lastT1 = some t1 → t1 + x.spacing * 1000 ≤ s.mono) →
              judged.probeIssued t p)
            ∧ (x.countCode + 1 ≤ x.probeIndex → judged.burstEnded t p)
            ∧ (x.countCode + 1 ≤ x.probeIndex → x.remaining = 0 → residence < t4 - o.t1 →
              t.sounding.state = .idle ∧ t.sounding.current = none ∧ t.sounding.outstanding = none
              ∧ (t.entry p).score = (s.entry p).score / 2
              ∧ (t.entry p).delay = (if (s.entry p).locked then (s.entry p).delay else match (s.entry p).delay with
                  | none => some least
                  | some d => some ((d : Int) + ((least : Int) - d) / (2 ^ ((s.entry p).weight + 1) : Nat)).toNat)
              ∧ (t.entry p).effDelay = (t.entry p).formDelay p
              ∧ (∀ q, AttnSet.has (t.port q).pending .sweep = true)
              ∧ t.log.records.getLast? = some ⟨t.log.next - 1, s.time.tod, s.time.quality,
                  .sound p .ok (x.valid + 1) x.lost (some least) (t.entry p).delay (s.entry p).locked⟩
              ∧ s.entriesBut t p ∧ s.sameParameters t ∧ s.portsRaised t ∧ s.routeOnly t)))

/-- The end of a frame counts tx frames, and probes sent for a PROBE, unless a soft reset left it uncounted; on a path
that is not DISABLED the beacon wait starts afresh and the pending echo, else the pending probe (whose t1 and deadline
the sweep then holds), else the head copy starts with its head filled; on a DISABLED path the lane is idle, and
neither the rest of its transmitter nor the sweep changes; nothing else changes. That this holds of a frame that was
in progress through DISABLE PATH and ENABLE PATH too, so that no beacon follows it at once, is log entry 35. -/
def Obligations.TransmitEndChoosesNext : Prop :=
  ∀ (s : State) (p : Path) (x : InProgress), (s.transmitter p).inProgress = some x →
    ∃ t : State, exec (.frameTransmitEnd p) s = .next t
      ∧ t.entry p = { s.entry p with stats :=
          if x.uncounted then (s.entry p).stats
          else { (s.entry p).stats with
            txFrames := min 4294967295 ((s.entry p).stats.txFrames + 1)
            probesSent := match x.frame.body with
              | .probe _ _ => min 4294967295 ((s.entry p).stats.probesSent + 1)
              | _ => (s.entry p).stats.probesSent } }
      ∧ s.entriesBut t p ∧ (∀ q, q ≠ p → t.transmitter q = s.transmitter q)
      ∧ ((s.entry p).state = .disabled →
          t.transmitter p = { s.transmitter p with inProgress := none } ∧ t.sounding = s.sounding)
      ∧ ((s.entry p).state ≠ .disabled →
          let head (b : FrameBody) : Option InProgress :=
            some ⟨⟨s.siteId, BitVec.ofNat 4 p.idx.val, (s.entry p).state, s.time.quality, b⟩, false⟩
          let after := { s.transmitter p with beacon := .running s.mono }
          (∀ e, (s.transmitter p).echo = some e → t.transmitter p = { after with
                echo := none, inProgress := head (.echo e.tag e.index (min 4294967295 (s.mono - e.arrival))) }
              ∧ t.sounding = s.sounding)
          ∧ (∀ k, (s.transmitter p).echo = none → (s.transmitter p).probe = some k →
              t.transmitter p = { after with probe := none, inProgress := head (.probe k.tag k.index) }
              ∧ t.sounding = { s.sounding with
                  pendingProbe := none, lastT1 := some s.mono
                  outstanding := some ⟨k.index, s.mono, s.mono + s.sounding.timeout * 1000⟩ })
          ∧ (∀ c rest, (s.transmitter p).queue = c :: rest → (s.transmitter p).echo = none →
              (s.transmitter p).probe = none →
              t.transmitter p = { after with queue := rest, inProgress := head (.data c) } ∧ t.sounding = s.sounding)
          ∧ ((s.transmitter p).echo = none → (s.transmitter p).probe = none → (s.transmitter p).queue = [] →
              t.transmitter p = { after with inProgress := none } ∧ t.sounding = s.sounding))
      ∧ t = { s with paths := t.paths, transmitters := t.transmitters, sounding := t.sounding }

/-- A running beacon wait ends when the interval has passed since the last frame's end: an idle transmitter with nothing
of higher order ready then starts a BEACON with the TOD of that moment. SET LINK from an OPERATOR port stores an
interval of 10 to 10,000 us and ends at once exactly the running waits whose new end has passed; another value is
refused ARGUMENT. That a BEACON_WAIT_END before its moment changes nothing is log entry 3, the model's choice. -/
def Obligations.BeaconsSent : Prop :=
  (∀ (s : State) (p : Path) (since : Nat), (s.transmitter p).beacon = .running since →
      (s.mono < since + s.beaconInterval * 1000 → exec (.beaconWaitEnd p) s = .next s)
      ∧ (since + s.beaconInterval * 1000 ≤ s.mono → (s.transmitter p).inProgress ≠ none →
          exec (.beaconWaitEnd p) s = .next (s.modTransmitter p (fun x => { x with beacon := .ended })))
      ∧ (since + s.beaconInterval * 1000 ≤ s.mono → (s.transmitter p).inProgress = none → (s.transmitter p).echo = none →
          (s.transmitter p).probe = none → (s.transmitter p).queue = [] → (s.entry p).state ≠ .disabled →
          exec (.beaconWaitEnd p) s = .next (s.modTransmitter p (fun x =>
            { x with
              beacon := .ended
              inProgress := some ⟨⟨s.siteId, BitVec.ofNat 4 p.idx.val, (s.entry p).state, s.time.quality,
                .beacon s.time.tod⟩, false⟩ }))))
    ∧ (∀ (s : State) (port : Port) (a b : Byte), s.resetting = none → (s.port port).role = .operator →
        let us := a.toNat + 256 * b.toNat
        ((us < 10 ∨ 10000 < us) → exec (.setLink port [a, b]) s = .next (s.answered port .argument))
        ∧ (10 ≤ us → us ≤ 10000 → ∃ t : State, exec (.setLink port [a, b]) s = .next t ∧ t.beaconInterval = us
          ∧ (∀ p since, (s.transmitter p).beacon = .running since →
              ((t.transmitter p).beacon = .ended ↔ since + us * 1000 ≤ s.mono))
          ∧ (∀ p, (∀ since, (s.transmitter p).beacon ≠ .running since) → t.transmitter p = s.transmitter p)
          ∧ t.ports = (s.answered port .ok).ports
          ∧ t = { s with beaconInterval := us, transmitters := t.transmitters, sounding := t.sounding, ports := t.ports }))

/-- From an OPERATOR port, or a SUPERVISOR port on an unlocked path: a path that is not DISABLED is left as it is with OK;
a DISABLED one becomes FAILED with reason STARTING at this MONO, its error window starts with count 0, its silence
timer is EXPIRED, and an idle transmitter sends a BEACON at once; margin, thresholds, timers, D, score and the other
statistics are kept; PATH is raised on every port. No other entry, receiver, stream or clock changes. From
either role a path index above 4 is refused ARGUMENT and nothing else changes. The order of these effects is log entry
24; that the path, newly FAILED from DISABLED, has no hold deadline is log entry 23. -/
def Obligations.EnablePathTaken : Prop :=
  (∀ (s : State) (port : Port) (b : Byte), s.resetting = none →
    ((s.port port).role = .operator ∨ (s.port port).role = .supervisor) → 4 < b.toNat →
      exec (.enablePath port [b]) s = .next (s.answered port .argument))
  ∧ ∀ (s : State) (port : Port) (p : Path) (b : Byte), s.resetting = none →
    ((s.port port).role = .operator ∨ ((s.port port).role = .supervisor ∧ (s.entry p).locked = false)) →
    b.toNat = p.idx.val →
      ((s.entry p).state ≠ .disabled → exec (.enablePath port [b]) s = .next (s.answered port .ok))
      ∧ ((s.entry p).state = .disabled → s.sounding.current ≠ some p → ∃ t : State, exec (.enablePath port [b]) s = .next t
        ∧ t.entry p = { s.entry p with
            state := .failed, reason := .starting, entered := s.mono, holdDeadline := none
            window := some ⟨s.mono, s.mono + (s.entry p).windowLength * 1000000, 0⟩
            stats := { (s.entry p).stats with
              flushDrops := min 4294967295 ((s.entry p).stats.flushDrops + (s.transmitter p).queue.length) } }
        ∧ (t.receiver p).silence = .expired ∧ (t.transmitter p).queue = []
        ∧ ((s.transmitter p).inProgress = none → (s.transmitter p).echo = none → (s.transmitter p).probe = none →
            (t.transmitter p).inProgress = some ⟨⟨s.siteId, BitVec.ofNat 4 p.idx.val, .failed, s.time.quality,
              .beacon s.time.tod⟩, false⟩)
        ∧ (t.port port).lastResult = .ok ∧ (∀ q, AttnSet.has (t.port q).pending .path = true)
        ∧ s.entriesBut t p ∧ s.sameParameters t ∧ (∀ q, q ≠ p → t.receiver q = s.receiver q)
        ∧ t = { s with
            paths := t.paths, receivers := t.receivers, transmitters := t.transmitters, selector := t.selector
            sounding := t.sounding, log := t.log, ports := t.ports })

/-- From an OPERATOR port, or a SUPERVISOR port on an unlocked path: a DISABLED path is left as it is with OK; another
becomes DISABLED with reason OPERATOR, far state and quality UNKNOWN, timers, window and hold stopped, its queue
flushed and counted, its pending echo discarded, its beacon wait stopped and a frame in progress left to finish; a
burst on it ends ABORTED: its probe is dropped, score and D are kept, the SOUND record shows the samples as collected
with HELD clear, and a RUNNING sweep goes on to its next turn, after a fallback with a settle time is SUSPENDED first,
or ends with no path left; the STATE record is the first record written; margin, D, score and settings are kept. From
either role a path index above 4 is refused ARGUMENT and nothing else changes. That the STATE record is the first one
written, the effects of the change of state coming before those of the far state, is log entry 24. That the probe
index, the samples and last t1 keep their values past the end of a burst that the command aborts, or of the sweep that
ends with it, until a burst or a sweep sets them anew, is log entry 40, a deduction of the model. -/
def Obligations.DisablePathTaken : Prop :=
  (∀ (s : State) (port : Port) (b : Byte), s.resetting = none →
    ((s.port port).role = .operator ∨ (s.port port).role = .supervisor) → 4 < b.toNat →
      exec (.disablePath port [b]) s = .next (s.answered port .argument))
  ∧ ∀ (s : State) (port : Port) (p : Path) (b : Byte), s.resetting = none →
    ((s.port port).role = .operator ∨ ((s.port port).role = .supervisor ∧ (s.entry p).locked = false)) →
    b.toNat = p.idx.val →
      ((s.entry p).state = .disabled → exec (.disablePath port [b]) s = .next (s.answered port .ok))
      ∧ ((s.entry p).state ≠ .disabled → ∃ t : State, exec (.disablePath port [b]) s = .next t
        ∧ t.entry p = { s.entry p with
            state := .disabled, reason := .operator, entered := s.mono, holdDeadline := none, window := none
            farState := none, farQuality := none
            stats := { (s.entry p).stats with
              flushDrops := min 4294967295 ((s.entry p).stats.flushDrops + (s.transmitter p).queue.length) } }
        ∧ (t.receiver p).silence = .stopped ∧ (t.transmitter p).queue = [] ∧ (t.transmitter p).echo = none
        ∧ (t.transmitter p).beacon = .stopped ∧ (t.transmitter p).inProgress = (s.transmitter p).inProgress
        ∧ t.sounding.current ≠ some p
        ∧ (s.answered port .ok).sweepLeft t p .aborted (fun m => { m with queue := [], echo := none, beacon := .stopped })
        ∧ (s.log.records.length ≤ 1000 → t.log.records[s.log.records.length]? = some ⟨s.log.next, s.time.tod,
            s.time.quality, .state p (s.entry p).state .disabled .operator (if p = .f then none else (s.entry p).margin)⟩)
        ∧ (t.port port).lastResult = .ok ∧ (∀ q, AttnSet.has (t.port q).pending .path = true)
        ∧ s.entriesBut t p ∧ s.sameParameters t ∧ (∀ q, q ≠ p → t.receiver q = s.receiver q)
        ∧ t = { s with
            paths := t.paths, receivers := t.receivers, transmitters := t.transmitters, selector := t.selector
            sounding := t.sounding, log := t.log, ports := t.ports })

/-- On a locked path ENABLE PATH, DISABLE PATH and SELECT BANK from a SUPERVISOR port set the last result LOCKED and
change nothing else. Whatever the input, in every state, a locked path's thresholds in both banks, active bank, timers
and smoothing settings, D, lock and enable state (whether it is DISABLED) stay as they are, unless the input is a
command from an OPERATOR port or a pin or power-on reset (SOFT RESET is such a command): no event, no other role's
command and no burst's sample changes them. -/
def Obligations.LocksBindSupervisor : Prop :=
  (∀ (s : State) (port : Port) (p : Path) (b bank : Byte), s.resetting = none → (s.port port).role = .supervisor →
    (s.entry p).locked = true → b.toNat = p.idx.val →
      exec (.enablePath port [b]) s = .next (s.answered port .locked)
        ∧ exec (.disablePath port [b]) s = .next (s.answered port .locked)
        ∧ (p ≠ .f → bank.toNat ≤ 1 → exec (.selectBank port [b, bank]) s = .next (s.answered port .locked)))
  ∧ ∀ (i : Instr) (s t : State) (p : Path), (s.entry p).locked = true → exec i s = .next t →
    (∀ site r0 r1 r2, i ≠ .pinReset site r0 r1 r2 ∧ i ≠ .powerOnReset site r0 r1 r2) →
    (∀ port args, i.portArgs = some (port, args) → (s.port port).role ≠ .operator) →
      (s.entry p).configurationKept (t.entry p)

/-- From an OPERATOR port LOCK PATH sets and UNLOCK PATH clears the named path's flag, LOCK ALL sets and UNLOCK ALL clears
all five, a path index above 4 is refused ARGUMENT, and nothing else changes; from another role the four are refused
RIGHTS. -/
def Obligations.LocksSetAndCleared : Prop :=
  ∀ (s : State) (port : Port), s.resetting = none →
    ((s.port port).role ≠ .operator → ∀ b : Byte,
        exec (.lockPath port [b]) s = .next (s.answered port .rights)
        ∧ exec (.unlockPath port [b]) s = .next (s.answered port .rights)
        ∧ exec (.lockAll port []) s = .next (s.answered port .rights)
        ∧ exec (.unlockAll port []) s = .next (s.answered port .rights))
    ∧ ((s.port port).role = .operator →
      (∀ (p : Path) (b : Byte), b.toNat = p.idx.val →
          exec (.lockPath port [b]) s = .next ((s.answered port .ok).modEntry p (fun e => { e with locked := true }))
          ∧ exec (.unlockPath port [b]) s = .next ((s.answered port .ok).modEntry p (fun e => { e with locked := false })))
      ∧ (∀ b : Byte, 4 < b.toNat →
          exec (.lockPath port [b]) s = .next (s.answered port .argument)
          ∧ exec (.unlockPath port [b]) s = .next (s.answered port .argument))
      ∧ (∃ t : State, exec (.lockAll port []) s = .next t ∧ (∀ p, t.entry p = { s.entry p with locked := true })
          ∧ t = { s.answered port .ok with paths := t.paths })
      ∧ (∃ t : State, exec (.unlockAll port []) s = .next t ∧ (∀ p, t.entry p = { s.entry p with locked := false })
          ∧ t = { s.answered port .ok with paths := t.paths }))

/-- From a SUPERVISOR or OPERATOR port CLEAR PATH STATS returns every statistic of the named path, or with ALL (0FFH) of
all five, to its reset value and changes nothing else; another value is refused ARGUMENT and another role RIGHTS. From
an OPERATOR port SET PEER SITE stores a site id of 0 to 15, or ANY for 0FFH, and refuses another value ARGUMENT. -/
def Obligations.PathStatsAndPeerSite : Prop :=
  ∀ (s : State) (port : Port), s.resetting = none →
    let zero : Stats := ⟨0, 0, 0, 0, 0, 0, 4294967295, 0, 0, 0, 0, 0, 0, 0, 0, 0⟩
    (((s.port port).role = .gateway ∨ (s.port port).role = .observer) →
      ∀ b : Byte, exec (.clearPathStats port [b]) s = .next (s.answered port .rights))
    ∧ (((s.port port).role = .supervisor ∨ (s.port port).role = .operator) →
      (∀ (p : Path) (b : Byte), b.toNat = p.idx.val → exec (.clearPathStats port [b]) s =
          .next ((s.answered port .ok).modEntry p (fun e => { e with stats := zero })))
      ∧ (∃ t : State, exec (.clearPathStats port [0xFF#8]) s = .next t
          ∧ (∀ p, t.entry p = { s.entry p with stats := zero }) ∧ t = { s.answered port .ok with paths := t.paths })
      ∧ (∀ b : Byte, 4 < b.toNat → b.toNat < 255 →
          exec (.clearPathStats port [b]) s = .next (s.answered port .argument)))
    ∧ ((s.port port).role = .operator →
      (∀ b : Byte, b.toNat ≤ 15 → exec (.setPeerSite port [b]) s =
          .next { s.answered port .ok with peerSite := some (BitVec.ofNat 4 b.toNat) })
      ∧ exec (.setPeerSite port [0xFF#8]) s = .next { s.answered port .ok with peerSite := none }
      ∧ (∀ b : Byte, 15 < b.toNat → b.toNat < 255 →
          exec (.setPeerSite port [b]) s = .next (s.answered port .argument)))

/-- From an OPERATOR port, values in their ranges are stored, running deadlines and windows staying as they are, and the
path is evaluated with them: a path in contact goes to the state and reason that its margin, thresholds and recover
hold give (PathEntry.evaluatesTo), one whose state stays keeps its hold deadline, so a running hold keeps its old
length, and one that enters RECOVERING starts a hold of the new length; a window already at the new limit fails a path
in service with reason ERRORS and closes a burst on it as R151 gives; another path index or value is refused ARGUMENT
with nothing changed. Nothing outside the route changes. That the path has no hold deadline where PathEntry.settles
makes it ACTIVE or FADING, or where it fails from one of these, and that a hold whose deadline MONO has reached counts
as expired at this evaluation, is log entry 23 (DEDUCED; R46 says of FAILED and DISABLED alone that the deadline becomes
none). That the probe index, the samples and last t1 keep their
values past the end of a burst that a failure by the new limit closes, or of the sweep that ends with it, until a
burst or a sweep sets them anew, is log entry 40, a deduction of the model. -/
def Obligations.PathTimersStored : Prop :=
  ∀ (s : State) (port : Port) (p : Path) (b : Byte) (silence window limit hold report : Nat),
    s.resetting = none → (s.port port).role = .operator → silence < 4294967296 → window < 65536 → limit < 65536 →
    hold < 65536 → report < 65536 →
      let i : Instr := .setPathTimers port
        ([b] ++ leBytes 4 silence ++ leBytes 2 window ++ leBytes 2 limit ++ leBytes 2 hold ++ leBytes 2 report)
      let ranges : Prop := 100 ≤ silence ∧ silence ≤ 100000 ∧ 1 ≤ window ∧ 1 ≤ limit ∧ 100 ≤ report ∧ report ≤ 60000
      ((4 < b.toNat ∨ ¬ranges) → exec i s = .next (s.answered port .argument))
      ∧ (b.toNat = p.idx.val → ranges → ∃ t : State, exec i s = .next t
        ∧ PathEntry.evaluatedFrom { s.entry p with
            silenceTimeout := silence, windowLength := window, errorLimit := limit, recoverHold := hold
            reportTimeout := report } (t.entry p)
        ∧ (let e := s.entry p
          let stored : PathEntry := { e with
            silenceTimeout := silence, windowLength := window, errorLimit := limit, recoverHold := hold
            reportTimeout := report }
          (s.receiver p).silence.silent = false → stored.exhausted = false → stored.inOrder p →
            stored.settles (t.entry p) p s.mono)
        ∧ (∀ w d, (s.entry p).window = some w → limit ≤ w.count → (s.receiver p).silence = .running d →
            (s.entry p).state ≠ .disabled → (s.entry p).state ≠ .failed →
            (t.entry p).state = .failed ∧ (t.entry p).reason = .errors
            ∧ s.pathFailed t p { s.entry p with
                silenceTimeout := silence, windowLength := window, errorLimit := limit, recoverHold := hold
                reportTimeout := report } .errors
            ∧ (s.answered port .ok).sweepLeft t p s.sounding.closure (fun m => { m with queue := [] }))
        ∧ ((s.entry p).state = .disabled → (t.entry p).state = .disabled)
        ∧ (t.port port).lastResult = .ok ∧ s.entriesBut t p ∧ s.sameParameters t ∧ s.routeOnly t)

/-- For a radio path and bank 0 or 1: from an OPERATOR port, values that satisfy Fl < Wn ≤ K and Fl < Rc are stored in the
named bank and others are refused ORDER; an inactive bank changes nothing else, the active one forms E anew and leads
to an evaluation. From an OPERATOR port, or a SUPERVISOR port on an unlocked path, SELECT BANK of the active bank
changes nothing, of the other makes it active, forms E anew and evaluates. The evaluation of a path in contact
(silence timer RUNNING, errors below the limit) compares the margin with the new thresholds: FAILED with reason
MARGIN, the queue flushed and a burst on the path closed (R151) below Fl (or below Rc while RECOVERING), FADING below
Wn, ACTIVE again from K, out of FAILED from Rc (to RECOVERING, or with a recover hold of 0 at once to ACTIVE, and to
FADING with reason MARGIN below Wn), out of RECOVERING in the same way when MONO has reached the hold deadline, and
otherwise state and reason stay. Path F, an index above 4 or a bank above 1 is refused ARGUMENT. That a hold whose
deadline MONO has reached counts as expired at this evaluation, and that a path which fails from ACTIVE or FADING has
no hold deadline, is log entry 23 (DEDUCED). -/
def Obligations.ThresholdsStored : Prop :=
  ∀ (s : State) (port : Port) (p : Path) (b bank : Byte) (k wn fl rc : Int) (slope pmax : Nat),
    s.resetting = none → -128 ≤ k → k ≤ 127 → -128 ≤ wn → wn ≤ 127 → -128 ≤ fl →
    fl ≤ 127 → -128 ≤ rc → rc ≤ 127 → slope < 256 → pmax < 65536 →
      let i : Instr := .setThresholds port ([b, bank] ++ leBytesInt 1 k ++ leBytesInt 1 wn ++ leBytesInt 1 fl
        ++ leBytesInt 1 rc ++ leBytes 1 slope ++ leBytes 2 pmax)
      let values : Bank := ⟨k, wn, fl, rc, slope, pmax⟩
      let one : Bool := decide (bank.toNat = 1)
      let stored : PathEntry := if one then { s.entry p with bank1 := values } else { s.entry p with bank0 := values }
      let chosen : PathEntry := { s.entry p with bankOne := one }
      let evaluated (e : PathEntry) (t : State) : Prop :=
        e.evaluatedFrom (t.entry p) ∧ (t.entry p).effDelay = (t.entry p).formDelay p
          ∧ (s.inContact p → ((t.entry p).state, (t.entry p).reason) = e.evaluatesTo p s.mono
              ∧ ((t.entry p).state = .failed → (s.entry p).state ≠ .failed → (t.transmitter p).queue = []
                  ∧ s.pathFailed t p { e with effDelay := e.formDelay p } .margin))
          ∧ (t.port port).lastResult = .ok ∧ s.entriesBut t p ∧ s.sameParameters t ∧ s.routeOnly t
      ((s.port port).role = .operator →
        ((3 < b.toNat ∨ 1 < bank.toNat) → exec i s = .next (s.answered port .argument))
        ∧ (b.toNat = p.idx.val → p ≠ .f → bank.toNat ≤ 1 →
          (¬(fl < wn ∧ wn ≤ k ∧ fl < rc) → exec i s = .next (s.answered port .order))
          ∧ (fl < wn ∧ wn ≤ k ∧ fl < rc → (s.entry p).bankOne ≠ one →
              exec i s = .next ((s.answered port .ok).modEntry p (fun _ => stored)))
          ∧ (fl < wn ∧ wn ≤ k ∧ fl < rc → (s.entry p).bankOne = one → ∃ t : State, exec i s = .next t
              ∧ evaluated stored t)))
      ∧ (((s.port port).role = .operator ∨ (s.port port).role = .supervisor) →
        (3 < b.toNat ∨ 1 < bank.toNat) → exec (.selectBank port [b, bank]) s = .next (s.answered port .argument))
      ∧ (((s.port port).role = .operator ∨ ((s.port port).role = .supervisor ∧ (s.entry p).locked = false)) →
        b.toNat = p.idx.val → p ≠ .f → bank.toNat ≤ 1 →
          ((s.entry p).bankOne = one → exec (.selectBank port [b, bank]) s = .next (s.answered port .ok))
          ∧ ((s.entry p).bankOne ≠ one → chosen.bank.ordered = true →
              ∃ t : State, exec (.selectBank port [b, bank]) s = .next t ∧ evaluated chosen t))

/-- From an OPERATOR port SET SMOOTHING stores weight code, loss weight and decay interval, and SET BASE DELAY stores D
unless the path is held by the sweep (BUSY); either forms E anew as D plus rain penalty plus loss penalty, saturated
at 16,777,215, and changes nothing else of the entry; an index or value out of range is refused ARGUMENT. -/
def Obligations.SmoothingAndBaseDelayStored : Prop :=
  ∀ (s : State) (port : Port) (p : Path) (b weight loss : Byte) (interval value : Nat),
    s.resetting = none → (s.port port).role = .operator → interval < 65536 → value < 4294967296 →
      let formed (e : PathEntry) : PathEntry :=
        let penalty : Nat := match (if p = .f then none else e.margin) with
          | none => 0
          | some m => let bank := if e.bankOne then e.bank1 else e.bank0
            if bank.k ≤ m then 0 else min bank.pmax ((bank.k - m).toNat * bank.s)
        { e with effDelay := match e.delay with
            | none => 16777215
            | some d => min 16777215 (d + penalty + e.score * e.lossWeight) }
      let i : Instr := .setSmoothing port ([b, weight, loss] ++ leBytes 2 interval)
      let j : Instr := .setBaseDelay port ([b] ++ leBytes 4 value)
      ((4 < b.toNat ∨ 7 < weight.toNat ∨ interval = 0) → exec i s = .next (s.answered port .argument))
      ∧ (b.toNat = p.idx.val → weight.toNat ≤ 7 → 1 ≤ interval → ∃ t : State, exec i s = .next t
          ∧ t.entry p = formed { s.entry p with
              weight := weight.toNat, lossWeight := loss.toNat, decayInterval := interval }
          ∧ (t.port port).lastResult = .ok ∧ s.entriesBut t p ∧ s.sameParameters t ∧ s.routeOnly t)
      ∧ ((4 < b.toNat ∨ 16777215 < value) → exec j s = .next (s.answered port .argument))
      ∧ (b.toNat = p.idx.val → value ≤ 16777215 → s.sounding.state ≠ .idle → s.sounding.current = some p →
          exec j s = .next (s.answered port .busy))
      ∧ (b.toNat = p.idx.val → value ≤ 16777215 → (s.sounding.state = .idle ∨ s.sounding.current ≠ some p) →
          ∃ t : State, exec j s = .next t ∧ t.entry p = formed { s.entry p with delay := some value }
          ∧ (t.port port).lastResult = .ok ∧ s.entriesBut t p ∧ s.sameParameters t ∧ s.routeOnly t)

/-- A POST MARGIN of one entry for a radio path whose active thresholds are in order stores margin, report time and
timeout and clears STALE, on locked and DISABLED paths too, forms E anew and evaluates the path: a path in contact
(silence timer RUNNING, errors below the limit) fails below Fl, or below Rc while RECOVERING, its queue is flushed and
a burst on it is closed, OK with a valid sample and ABORTED without one (R151); ACTIVE fades below Wn, FADING is
ACTIVE again from K; a FAILED path recovers from Rc and its hold starts, or with a recover hold of 0 it becomes ACTIVE
at once, and FADING with reason MARGIN below Wn; a RECOVERING path from Rc whose hold deadline MONO has reached
becomes ACTIVE or FADING in the same way; and otherwise the state and reason stay. That a hold whose deadline MONO has
reached counts as expired at this evaluation, and that a path which fails from ACTIVE or FADING has no hold deadline,
is log entry 23 (DEDUCED). Nothing outside the route changes. Of a longer batch the last eight entries are applied one
after another, in the order sent, each as such a single entry is. When any of the last eight entries clocked in names
path F or an index above 4, the whole POST MARGIN is refused ARGUMENT and no entry is applied. -/
def Obligations.MarginsPosted : Prop :=
  (∀ (s : State) (port : Port) (p : Path) (b m : Byte), s.resetting = none →
        ((s.port port).role = .supervisor ∨ (s.port port).role = .operator) → b.toNat = p.idx.val → p ≠ .f →
        (s.entry p).bank.ordered = true →
          let stored : PathEntry := { s.entry p with
            margin := some m.toInt, reportTime := s.mono, stale := false
            reportDeadline := some (s.mono + (s.entry p).reportTimeout * 1000000) }
          ∃ t : State, exec (.postMargin port [b, m]) s = .next t
            ∧ stored.evaluatedFrom (t.entry p) ∧ (t.entry p).effDelay = (t.entry p).formDelay p
            ∧ (s.inContact p → ((t.entry p).state, (t.entry p).reason) = stored.evaluatesTo p s.mono
                ∧ ((t.entry p).state = .failed → (s.entry p).state ≠ .failed → (t.transmitter p).queue = []
                    ∧ s.pathFailed t p { stored with effDelay := stored.formDelay p } .margin)
                ∧ ((t.entry p).state = .recovering → (s.entry p).state = .failed →
                    (t.entry p).holdDeadline = some (s.mono + (s.entry p).recoverHold * 1000000)))
            ∧ ((s.entry p).state = .disabled → (t.entry p).state = .disabled)
            ∧ (t.port port).lastResult = .ok ∧ s.entriesBut t p ∧ s.sameParameters t ∧ s.routeOnly t)
    ∧ (∀ (s : State) (port : Port) (entries : List (Path × Byte)), s.resetting = none →
        ((s.port port).role = .supervisor ∨ (s.port port).role = .operator) → entries ≠ [] →
        (∀ e ∈ entries.drop (entries.length - 8), e.1 ≠ .f) →
          exec (.postMargin port (entries.flatMap (fun e => [BitVec.ofNat 8 e.1.idx.val, e.2]))) s
            = .next (((entries.drop (entries.length - 8)).foldl (fun u e => u.applyMargin e.1 e.2.toInt)
                (s.beginTransaction port)).setResult port .ok))
    ∧ (∀ (s : State) (port : Port) (entries : List (Byte × Byte)), s.resetting = none →
        ((s.port port).role = .supervisor ∨ (s.port port).role = .operator) →
        (∃ e ∈ entries.drop (entries.length - 8), 3 < e.1.toNat) →
          exec (.postMargin port (entries.flatMap (fun e => [e.1, e.2]))) s = .next (s.answered port .argument))

/-- When the deadline of a RUNNING silence timer passes: the timer is EXPIRED, far state and quality are UNKNOWN, a
RECOVERING, FADING or ACTIVE path becomes FAILED with reason SILENCE, its queue is flushed and counted, the STATE
record is written and PATH raised; a burst on it closes: its probe is dropped, with a valid sample it ends OK (the
score is halved and the least sample applied to D unless the path is locked), without one ABORTED, the SOUND record
follows the report, and a RUNNING sweep goes on to its next turn, after a fallback with a settle time is SUSPENDED
first, or ends with no path left; another path keeps its state; before the deadline the row changes nothing (log entry
3, the model's choice). That a path which fails from ACTIVE or FADING has no hold deadline is log entry 23 (DEDUCED).
That the probe index, the samples and last t1 keep their values past the end of a burst that the silence closes, or of
the sweep that ends with it, until a burst or a sweep sets them anew, is log entry 40, a deduction of the model. -/
def Obligations.SilenceFailsPath : Prop :=
  ∀ (s : State) (p : Path) (d : Nat), (s.receiver p).silence = .running d →
    (s.mono < d → exec (.silenceTimerExpiry p) s = .next s)
    ∧ (d ≤ s.mono → ∃ t : State, exec (.silenceTimerExpiry p) s = .next t
      ∧ (t.receiver p).silence = .expired ∧ (t.receiver p).arriving = (s.receiver p).arriving
      ∧ PathEntry.evaluatedFrom { s.entry p with farState := none, farQuality := none } (t.entry p)
      ∧ (((s.entry p).state = .recovering ∨ (s.entry p).state = .fading ∨ (s.entry p).state = .active) →
          (t.entry p).state = .failed ∧ (t.entry p).reason = .silence ∧ (t.entry p).entered = s.mono
            ∧ (t.transmitter p).queue = []
            ∧ s.pathFailed t p { s.entry p with farState := none, farQuality := none } .silence
            ∧ s.sweepLeft t p s.sounding.closure (fun m => { m with queue := [] }))
      ∧ (((s.entry p).state = .disabled ∨ (s.entry p).state = .failed) →
          t.entry p = { s.entry p with farState := none, farQuality := none })
      ∧ s.entriesBut t p ∧ s.sameParameters t ∧ s.portsRaised t ∧ (∀ q, q ≠ p → t.receiver q = s.receiver q)
      ∧ t = { s with
          paths := t.paths, receivers := t.receivers, transmitters := t.transmitters, selector := t.selector
          sounding := t.sounding, log := t.log, ports := t.ports })

/-- An error window that ends starts the next at its end with count 0, and a FAILED path that is neither silent nor
below Rc becomes RECOVERING, or with a recover hold of 0 ACTIVE or FADING at once; a recover hold that expires makes a
RECOVERING path ACTIVE with its reason kept, and FADING with reason MARGIN from Rc to below Wn; for a path in contact
both follow PathEntry.settles; a report timeout sets STALE and raises PATH and changes nothing else (it then stops:
log entry 31). That the hold deadline is none once the path is ACTIVE or FADING, here and by PathEntry.settles, is log
entry 23 (DEDUCED; R46 says of FAILED and DISABLED alone that the deadline becomes none). Before its moment a row
changes nothing (log entry 3, the model's choice). -/
def Obligations.PathTimersExpire : Prop :=
  ∀ (s : State) (p : Path),
    (∀ w, (s.entry p).window = some w →
      (s.mono < w.endAt → exec (.errorWindowEnd p) s = .next s)
      ∧ (w.endAt ≤ s.mono → ∃ t : State, exec (.errorWindowEnd p) s = .next t
        ∧ PathEntry.evaluatedFrom { s.entry p with
            window := some ⟨w.endAt, w.endAt + (s.entry p).windowLength * 1000000, 0⟩ } (t.entry p)
        ∧ (let next : PathEntry := { s.entry p with
            window := some ⟨w.endAt, w.endAt + (s.entry p).windowLength * 1000000, 0⟩ }
          (s.receiver p).silence.silent = false → next.exhausted = false → next.inOrder p →
            next.settles (t.entry p) p s.mono)
        ∧ (∀ d, (s.receiver p).silence = .running d → (s.entry p).state = .failed → 1 ≤ (s.entry p).errorLimit →
            1 ≤ (s.entry p).recoverHold → (∀ m, (s.entry p).marginOf p = some m → (s.entry p).bank.rc ≤ m) →
            (t.entry p).state = .recovering ∧ (t.entry p).reason = (s.entry p).reason
              ∧ (t.entry p).holdDeadline = some (s.mono + (s.entry p).recoverHold * 1000000))
        ∧ s.entriesBut t p ∧ s.sameParameters t ∧ s.portsRaised t ∧ s.routeOnly t))
    ∧ (∀ d, (s.entry p).state = .recovering → (s.entry p).holdDeadline = some d →
      (s.mono < d → exec (.recoverHoldExpiry p) s = .next s)
      ∧ (d ≤ s.mono → ∃ t : State, exec (.recoverHoldExpiry p) s = .next t
        ∧ (s.entry p).evaluatedFrom (t.entry p)
        ∧ (s.inContact p → (s.entry p).inOrder p → (s.entry p).settles (t.entry p) p s.mono)
        ∧ (∀ x, (s.receiver p).silence = .running x →
            (∀ w, (s.entry p).window = some w → w.count < (s.entry p).errorLimit) →
            (∀ m, (s.entry p).marginOf p = some m →
              (s.entry p).bank.rc ≤ m ∧ (s.entry p).bank.wn ≤ m ∧ (s.entry p).bank.fl ≤ m) →
            (t.entry p).state = .active ∧ (t.entry p).reason = (s.entry p).reason ∧ (t.entry p).holdDeadline = none)
        ∧ s.entriesBut t p ∧ s.sameParameters t ∧ s.portsRaised t ∧ s.routeOnly t))
    ∧ (∀ d, (s.entry p).reportDeadline = some d →
      (s.mono < d → exec (.reportTimeout p) s = .next s)
      ∧ (d ≤ s.mono → ∃ t : State, exec (.reportTimeout p) s = .next t
        ∧ t.entry p = { s.entry p with stale := true, reportDeadline := none } ∧ s.entriesBut t p
        ∧ (∀ q, AttnSet.has (t.port q).pending .path = true) ∧ s.portsRaised t
        ∧ t = { s with paths := t.paths, ports := t.ports }))

/-- At a period's end the score loses an eighth of itself (floored), E is formed from the new score, and the next period
runs from the old deadline with the interval then set; before the deadline the row changes nothing (log entry 3, the
model's choice). For each path of the dispatch mask that is not DISABLED the score takes a hit (less a sixteenth,
floored) when the path is in the seen mask and a miss (plus 32, at most 255) when it is not, and its E is formed anew;
other paths are not touched. -/
def Obligations.ScoresMove : Prop :=
  (∀ (s : State) (p : Path),
        (s.mono < (s.entry p).decayDeadline → exec (.scoreDecay p) s = .next s)
        ∧ ((s.entry p).decayDeadline ≤ s.mono → ∃ t : State, exec (.scoreDecay p) s = .next t
          ∧ (t.entry p).score = (s.entry p).score - (s.entry p).score / 8
          ∧ (t.entry p).effDelay = (match (s.entry p).delay with
              | none => 16777215
              | some d => min 16777215
                  (d + (s.entry p).rainPenalty p + ((s.entry p).score - (s.entry p).score / 8) * (s.entry p).lossWeight))
          ∧ t.entry p = { s.entry p with
              score := (t.entry p).score, effDelay := (t.entry p).effDelay
              decayDeadline := (s.entry p).decayDeadline + (s.entry p).decayInterval * 1000000 }
          ∧ s.entriesBut t p ∧ s.sameParameters t ∧ s.portsRaised t ∧ s.routeOnly t))
    ∧ (∀ (s : State) (mask seen : PathSet) (p : Path),
        let t := s.retireReport mask seen
        ((mask.has p = false ∨ (s.entry p).state = .disabled) → t.entry p = s.entry p)
          ∧ (mask.has p = true → (s.entry p).state ≠ .disabled →
              (t.entry p).score = (if seen.has p then (s.entry p).score - (s.entry p).score / 16
                else min 255 ((s.entry p).score + 32))
              ∧ (t.entry p).effDelay = (t.entry p).formDelay p
              ∧ t.entry p = { s.entry p with score := (t.entry p).score, effDelay := (t.entry p).effDelay })
          ∧ s.sameParameters t ∧ s.portsRaised t ∧ s.routeOnly t)

/-- For every state in which each path's E is the one R72 forms, the rank order is that of the entries, the primary is
NONE or eligible and NONE exactly when no path is eligible, an eligible pinned path is primary, a guard-held path is
eligible and the dispatch set is the one R85 forms, the state after a step is so too. -/
def Obligations.RouteStaysSettled : Prop :=
  ∀ s t : State, s.Routed → step s = .next t → t.Routed

/-- When the deadline has passed the guard ends and the selector re-evaluates: with the primary kept no record is written
and no attention raised; the selection then agrees with the entries, which do not change; before the deadline the row
changes nothing (log entry 3, the model's choice). At a re-evaluation with an eligible primary and no acting pin, the
primary is replaced exactly when some promotable path has E plus H strictly below the primary's E; the new primary is
then a promotable path of least E, and the old one is guard-held for G unless G is 0 or the new primary was the guard-
held path. At a re-evaluation with the primary NONE or ineligible and no acting pin, the new primary is the promotable
path of least E (the lower index on a tie), without one the eligible path of least E, else NONE; the change is of kind
FIRST, FALLBACK or LOSS, writes its PRIMARY record, raises PRIMARY and leaves no guard; with a settle time FALLBACK
and LOSS suspend a RUNNING sweep, its probe withdrawn or abandoned, until the settle time has passed, and restart the
deadline of one suspended on fallback. -/
def Obligations.GuardAndImprovement : Prop :=
  (∀ (s : State) (g : Guard), s.selector.guard = some g →
        (s.mono < g.deadline → exec .guardExpiry s = .next s)
        ∧ (g.deadline ≤ s.mono → ∃ t : State, exec .guardExpiry s = .next t
          ∧ (t.selector.primary = s.selector.primary → t.selector.guard = none ∧ t.log = s.log ∧ t.ports = s.ports)
          ∧ t.Selected ∧ t.paths = s.paths ∧ s.sameParameters t ∧ s.portsRaised t ∧ s.routeOnly t))
    ∧ (∀ (s : State) (x : Path), s.selector.primary = some x → s.eligible x = true →
        (∀ q, s.selector.pin = some q → s.eligible q = false) →
          let t := s.reEvaluate
          (t.selector.primary ≠ some x ↔ ∃ q, q ≠ x ∧ s.promotable q = true ∧ s.effDelay q + s.selector.hysteresis < s.effDelay x)
          ∧ (∀ y, t.selector.primary = some y → y ≠ x → s.promotable y = true ∧ y ≠ x
              ∧ s.effDelay y + s.selector.hysteresis < s.effDelay x
              ∧ (∀ q, q ≠ x → s.promotable q = true → s.effDelay y ≤ s.effDelay q)
              ∧ (t.selector.guard = if s.selector.guardTime = 0
                    ∨ (s.selector.guard.filter (fun g => s.eligible g.path)).map Guard.path = some y then none
                  else some ⟨x, s.mono + s.selector.guardTime * 1000⟩)))
    ∧ (∀ (s : State), (∀ x, s.selector.primary = some x → s.eligible x = false) →
        (∀ q, s.selector.pin = some q → s.eligible q = false) →
          let t := s.reEvaluate
          let first (ok : Path → Bool) (y : Path) : Prop := ok y = true ∧ ∀ q, ok q = true →
            s.effDelay y < s.effDelay q ∨ (s.effDelay y = s.effDelay q ∧ y.idx.val ≤ q.idx.val)
          let kind : ChangeKind := match s.selector.primary, t.selector.primary with
            | none, _ => .first
            | some _, some _ => .fallback
            | some _, none => .loss
          ((∃ q, s.promotable q = true) → ∃ y, t.selector.primary = some y ∧ first s.promotable y)
          ∧ ((∀ q, s.promotable q = false) → (∃ q, s.eligible q = true) →
              ∃ y, t.selector.primary = some y ∧ first s.eligible y)
          ∧ ((∀ q, s.eligible q = false) → t.selector.primary = none)
          ∧ (s.selector.primary = none → t.selector.primary = none →
              t.log = s.log ∧ t.ports = s.ports ∧ t.sounding = s.sounding ∧ t.transmitters = s.transmitters)
          ∧ (¬(s.selector.primary = none ∧ t.selector.primary = none) →
              t.log.records.getLast? = some ⟨s.log.next, s.time.tod, s.time.quality, .primary s.selector.primary
                t.selector.primary kind (s.selector.primary.map s.effDelay) (t.selector.primary.map s.effDelay)⟩
              ∧ t.log.next = s.log.next + 1 ∧ (∀ q, AttnSet.has (t.port q).pending .primary = true)
              ∧ t.selector.guard = none)
          ∧ (s.selector.primary = none → t.sounding = s.sounding ∧ t.transmitters = s.transmitters)
          ∧ (s.selector.primary ≠ none →
              let x := s.sounding
              let deadline := s.mono + x.settle * 1000000
              ((x.settle = 0 ∨ x.state = .idle ∨ (x.state = .suspended ∧ x.reason = some .command)) →
                  t.sounding = x ∧ t.transmitters = s.transmitters)
              ∧ (x.settle ≠ 0 → x.state = .running →
                  t.sounding = { x with
                    state := .suspended, reason := some .fallback, settleDeadline := some deadline
                    pendingProbe := none, outstanding := none }
                  ∧ (∀ p, t.transmitter p = if x.current = some p ∧ x.pendingProbe ≠ none then
                      { s.transmitter p with probe := none } else s.transmitter p))
              ∧ (x.settle ≠ 0 → x.state = .suspended → x.reason = some .fallback →
                  t.sounding = { x with settleDeadline := some deadline } ∧ t.transmitters = s.transmitters))
          ∧ t.Selected ∧ t.paths = s.paths ∧ s.sameParameters t ∧ s.portsRaised t ∧ s.routeOnly t)

/-- From an OPERATOR port SET SELECTION stores H, width code, fibre shadow and G, leaving a running guard its deadline;
PIN PRIMARY sets the pin and makes an eligible path primary at once, with a PRIMARY record of kind PIN, PRIMARY
attention and no report to the sweep; UNPIN PRIMARY removes a set pin and without one has no effect. Each of the three
leaves the outcome of the re-evaluation (State.reEvaluate, of which GuardAndImprovement speaks) of the state that holds
the OK, the new parameters or the new pin, so the new H and the absence of the pin act within it: with no acting pin an
eligible primary is replaced after SET SELECTION exactly when some promotable path has E plus the new H strictly below
its E, and after UNPIN PRIMARY, whatever the pin was, exactly when some promotable path has E plus H strictly below it.
After each re-evaluation the selection agrees with the entries, which do not change. Values out of range are refused
ARGUMENT. That the kind is PIN also where the primary was NONE is log entry 38. -/
def Obligations.SelectionCommandsTaken : Prop :=
  ∀ (s : State) (port : Port), s.resetting = none → (s.port port).role = .operator →
    (∀ (h g : Nat) (w f : Byte), h < 65536 → g < 65536 →
      let i : Instr := .setSelection port (leBytes 2 h ++ [w, f] ++ leBytes 2 g)
      ((4 < w.toNat ∨ 1 < f.toNat) → exec i s = .next (s.answered port .argument))
      ∧ (w.toNat ≤ 4 → f.toNat ≤ 1 → ∃ t : State, exec i s = .next t ∧ t.selector.hysteresis = h
          ∧ t.selector.widthCode = w.toNat ∧ t.selector.shadow = decide (f.toNat = 1) ∧ t.selector.guardTime = g
          ∧ t.selector.pin = s.selector.pin ∧ t.Selected ∧ t.paths = s.paths ∧ s.routeOnly t
          ∧ t = State.reEvaluate { s.answered port .ok with selector := { s.selector with
              hysteresis := h, widthCode := w.toNat, shadow := decide (f.toNat = 1), guardTime := g } }
          ∧ (∀ x, s.selector.primary = some x → s.eligible x = true →
              (∀ q, s.selector.pin = some q → s.eligible q = false) →
              (t.selector.primary ≠ some x ↔ ∃ q, q ≠ x ∧ s.promotable q = true ∧ s.effDelay q + h < s.effDelay x))
          ∧ (t.selector.primary = s.selector.primary →
              t.selector.guard = s.selector.guard.filter (fun x => s.eligible x.path) ∧ t.log = s.log)))
    ∧ (∀ b : Byte, 4 < b.toNat → exec (.pinPrimary port [b]) s = .next (s.answered port .argument))
    ∧ (∀ (p : Path) (b : Byte), b.toNat = p.idx.val → ∃ t : State, exec (.pinPrimary port [b]) s = .next t
        ∧ t.selector.pin = some p ∧ t.Selected ∧ t.paths = s.paths ∧ s.routeOnly t
        ∧ t = State.reEvaluate { s.answered port .ok with selector := { s.selector with pin := some p } }
        ∧ (s.eligible p = true → t.selector.primary = some p)
        ∧ (s.eligible p = true → s.selector.primary ≠ some p →
            t.log.records.getLast? = some ⟨s.log.next, s.time.tod, s.time.quality,
              .primary s.selector.primary (some p) .pin (s.selector.primary.map s.effDelay) (some (s.effDelay p))⟩
            ∧ (∀ q, AttnSet.has (t.port q).pending .primary = true) ∧ t.sounding = s.sounding))
    ∧ (s.selector.pin = none → exec (.unpinPrimary port []) s = .next (s.answered port .ok))
    ∧ (s.selector.pin ≠ none → ∃ t : State, exec (.unpinPrimary port []) s = .next t ∧ t.selector.pin = none
        ∧ t.Selected ∧ t.paths = s.paths ∧ s.routeOnly t ∧ (t.port port).lastResult = .ok
        ∧ t = State.reEvaluate { s.answered port .ok with selector := { s.selector with pin := none } }
        ∧ (∀ x, s.selector.primary = some x → s.eligible x = true →
            (t.selector.primary ≠ some x
              ↔ ∃ q, q ≠ x ∧ s.promotable q = true ∧ s.effDelay q + s.selector.hysteresis < s.effDelay x)))

/-- The first byte of a local frame takes the origin TOD; the end of a local transmission starts the next delivered frame.
A malformed frame is counted; a frame of a stream that is not tx-enabled is counted rejected; with no primary it is
counted NO PATH and with no room on any dispatch-set path FULL, and DROP is raised on every port; otherwise copies
with the next tx sequence and one mask, the dispatch set's paths with room, join those paths' queues (an idle
transmitter starts its copy at once), and each path left out for want of room counts a tx drop. That
LOCAL_TRANSMIT_END with an idle lane changes nothing is log entry 3, the model's choice. Frames that meet the soft
reset period have a statement of their own (SoftResetPeriodEnds). -/
def Obligations.LocalFramesTaken : Prop :=
  ∀ s : State,
    exec .localFrameStart s = .next { s with localPort := { s.localPort with
        arriving := some ⟨s.time.tod, s.resetting.isSome⟩ } }
    ∧ (s.localPort.inProgress = none → exec .localTransmitEnd s = .next s)
    ∧ (s.localPort.inProgress ≠ none → exec .localTransmitEnd s = .next { s with localPort := { s.localPort with
        queue := s.localPort.queue.tail, inProgress := s.localPort.queue.head? } })
    ∧ ∀ (bytes : List Byte) (origin : Tod), s.localPort.arriving = some ⟨origin, false⟩ → s.resetting = none →
      let ended : LocalPort := { s.localPort with arriving := none }
      (parseLocalFrame bytes = none → exec (.localFrameIntake bytes) s =
        .next { s with localPort := { ended with malformed := min 4294967295 (s.localPort.malformed + 1) } })
      ∧ ∀ (i : StreamId) (payload : List Byte), parseLocalFrame bytes = some (i, payload) →
        let x := s.txStream i
        (x.enabled = false → exec (.localFrameIntake bytes) s = .next (State.modTx { s with localPort := ended } i
          (fun x => { x with rejected := min 4294967295 (x.rejected + 1) })))
        ∧ (x.enabled = true → s.selector.primary = none → ∃ t : State, exec (.localFrameIntake bytes) s = .next t
          ∧ t.txStream i = { x with dropsNoPath := min 4294967295 (x.dropsNoPath + 1) }
          ∧ (∀ j, j ≠ i → t.txStream j = s.txStream j) ∧ (∀ q, AttnSet.has (t.port q).pending .drop = true)
          ∧ s.portsRaised t ∧ t = { s with localPort := ended, txStreams := t.txStreams, ports := t.ports })
        ∧ ∀ mask : PathSet, x.enabled = true → s.selector.primary ≠ none →
          (∀ p, PathSet.has mask p = (PathSet.has s.selector.dispatchSet p && decide ((s.transmitter p).queue.length < 32))) →
          (mask = 0 → ∃ t : State, exec (.localFrameIntake bytes) s = .next t
            ∧ t.txStream i = { x with dropsFull := min 4294967295 (x.dropsFull + 1) }
            ∧ (∀ j, j ≠ i → t.txStream j = s.txStream j)
            ∧ (∀ p, t.entry p = if PathSet.has s.selector.dispatchSet p then { s.entry p with stats :=
                { (s.entry p).stats with txDrops := min 4294967295 ((s.entry p).stats.txDrops + 1) } } else s.entry p)
            ∧ (∀ q, AttnSet.has (t.port q).pending .drop = true) ∧ s.portsRaised t
            ∧ t = { s with localPort := ended, txStreams := t.txStreams, paths := t.paths, ports := t.ports })
          ∧ (mask ≠ 0 → ∃ t : State, exec (.localFrameIntake bytes) s = .next t
            ∧ t.txStream i = { x with next := x.next + 1, dispatched := min 4294967295 (x.dispatched + 1) }
            ∧ (∀ j, j ≠ i → t.txStream j = s.txStream j)
            ∧ (∀ p, t.entry p = if PathSet.has s.selector.dispatchSet p && !PathSet.has mask p then { s.entry p with stats :=
                { (s.entry p).stats with txDrops := min 4294967295 ((s.entry p).stats.txDrops + 1) } } else s.entry p)
            ∧ (∀ p, PathSet.has mask p = false → t.transmitter p = s.transmitter p)
            ∧ (∀ p, PathSet.has mask p = true → (s.transmitter p).inProgress ≠ none → t.transmitter p =
                { s.transmitter p with queue := (s.transmitter p).queue ++ [⟨i, x.next, origin, mask, payload⟩] })
            ∧ (∀ p, PathSet.has mask p = true → (s.transmitter p).inProgress = none → (s.transmitter p).echo = none →
                (s.transmitter p).probe = none → (s.transmitter p).queue = [] → (s.entry p).state ≠ .disabled →
                t.transmitter p = { s.transmitter p with inProgress := some ⟨⟨s.siteId, BitVec.ofNat 4 p.idx.val,
                  (s.entry p).state, s.time.quality, .data ⟨i, x.next, origin, mask, payload⟩⟩, false⟩ })
            ∧ t = { s with
                localPort := ended, txStreams := t.txStreams, paths := t.paths, transmitters := t.transmitters
                sounding := t.sounding })

/-- From a GATEWAY or OPERATOR port: a stream above 7 is refused ARGUMENT; SET TX SEQUENCE sets the next tx sequence
alone; RESYNC STREAM forgets the window, delivers the HELD frames of an ORDERED stream in ascending order, writes a
RESYNC record and counts; SET STREAM stores its settings with the substitutions of R125 and resynchronizes (cause
CONFIG) exactly when rx enable, window code or mode changes. That codes above 7 and 15 are refused ARGUMENT is log
entry 33. -/
def Obligations.StreamCommandsTaken : Prop :=
  ∀ (s : State) (port : Port), s.resetting = none → ((s.port port).role = .gateway ∨ (s.port port).role = .operator) →
    (∀ b : Byte, 7 < b.toNat → exec (.resyncStream port [b]) s = .next (s.answered port .argument)
      ∧ (∀ v : Nat, exec (.setTxSequence port ([b] ++ leBytes 4 v)) s = .next (s.answered port .argument))
      ∧ (∀ b1 b2 b3 b4 b5 b6 b7 b8 : Byte,
          exec (.setStream port [b, b1, b2, b3, b4, b5, b6, b7, b8]) s = .next (s.answered port .argument)))
    ∧ ∀ (i : StreamId) (b : Byte), b.toNat = i.val →
      let x := s.rxStream i
      let waiting : List DeliveredFrame := (List.range x.slots.length).filterMap (fun n : Nat => match (x.slots[n]? : Option Slot) with
        | some (.held info f) => some ⟨i, f.payload, x.base + BitVec.ofNat 32 n, info.path, f.arrival⟩
        | _ => none)
      let resynced (cause : ResyncCause) (t : State) : Prop :=
        t.log.records.getLast? = some ⟨t.log.next - 1, s.time.tod, s.time.quality, .resync i x.front cause none⟩
          ∧ (∀ j, j ≠ i → t.rxStream j = s.rxStream j)
          ∧ (x.ordered = true → s.localPort.inProgress ≠ none → s.localPort.queue.length + waiting.length ≤ 64 →
              t.localPort.queue = s.localPort.queue ++ waiting)
          ∧ (x.ordered = false → t.localPort = s.localPort ∧ t.log.next = s.log.next + 1)
          ∧ (t.port port).lastResult = .ok
          ∧ t = { s with
              rxStreams := t.rxStreams, txStreams := t.txStreams, localPort := t.localPort, log := t.log
              ports := t.ports }
      (∀ v : Nat, v < 4294967296 → exec (.setTxSequence port ([b] ++ leBytes 4 v)) s =
          .next ((s.answered port .ok).modTx i (fun y => { y with next := BitVec.ofNat 32 v })))
      ∧ (∃ t : State, exec (.resyncStream port [b]) s = .next t ∧ resynced .command t ∧ t.txStreams = s.txStreams
          ∧ t.rxStream i = { x with
              synced := false, slots := [], holdDeadline := none, resyncs := min 4294967295 (x.resyncs + 1)
              overflow := (t.rxStream i).overflow })
      ∧ (∀ (rx tx w m q r : Byte) (hold : Nat), hold < 65536 →
          let c : Instr := .setStream port ([b, rx, tx, w, m] ++ leBytes 2 hold ++ [q, r])
          let ranges : Prop := rx.toNat ≤ 1 ∧ tx.toNat ≤ 1 ∧ m.toNat ≤ 1 ∧ r.toNat ≤ 1 ∧ w.toNat ≤ 7 ∧ q.toNat ≤ 15
          let stored (y : RxStream) : RxStream := { y with
            enabled := decide (rx.toNat = 1), windowCode := min 4 w.toNat, ordered := decide (m.toNat = 1)
            holdTime := max 1 hold, resyncCode := min 12 q.toNat, records := decide (r.toNat = 1) }
          let same : Prop := (stored x).enabled = x.enabled ∧ (stored x).windowCode = x.windowCode
            ∧ (stored x).ordered = x.ordered
          (¬ranges → exec c s = .next (s.answered port .argument))
          ∧ (ranges → same → exec c s = .next (((s.answered port .ok).modRx i stored).modTx i
              (fun y => { y with enabled := decide (tx.toNat = 1) })))
          ∧ (ranges → ¬same → ∃ t : State, exec c s = .next t ∧ resynced .config t
              ∧ t.rxStream i = { stored x with
                  synced := false, slots := [], holdDeadline := none, resyncs := min 4294967295 (x.resyncs + 1)
                  overflow := (t.rxStream i).overflow }
              ∧ t.txStream i = { s.txStream i with enabled := decide (tx.toNat = 1) }
              ∧ (∀ j, j ≠ i → t.txStream j = s.txStream j)))

/-- When a stream's hold deadline has passed, the EMPTY slots before the earliest HELD one become SKIPPED with a GAP
record of cause HOLD and count as gaps, the HELD frame is delivered, the release point passes it and the deadline is
formed anew from the HELD slots that remain; no deadline that has passed remains; before the deadline the row changes
nothing (log entry 3, the model's choice), and one that MONO has reached counts as past (log entry 21). With several
HELD slots each expiry skips to the lowest, delivers it and the run of HELD slots right after it in ascending order,
each with its DELIVERY record (HELD, its hold delay), and forms the deadline from those that remain; expiries follow
one another within the input while the deadline so formed is already past. -/
def Obligations.HoldExpiryAdvances : Prop :=
  ∀ (s : State) (i : StreamId) (d : Nat), (s.rxStream i).holdDeadline = some d →
    (s.mono < d → exec (.holdExpiry i) s = .next s)
    ∧ (d ≤ s.mono → (s.rxStream i).Windowed → ∃ t : State, exec (.holdExpiry i) s = .next t
      ∧ (t.rxStream i).Windowed ∧ (∀ d1, (t.rxStream i).holdDeadline = some d1 → s.mono < d1)
      ∧ t.rxStream i = { s.rxStream i with
          slots := (t.rxStream i).slots, release := (t.rxStream i).release, gaps := (t.rxStream i).gaps
          holdDeadline := (t.rxStream i).holdDeadline, overflow := (t.rxStream i).overflow }
      ∧ (t.rxStream i).slots.length = (s.rxStream i).slots.length ∧ (∀ j, j ≠ i → t.rxStream j = s.rxStream j)
      ∧ s.portsRaised t
      ∧ (∀ (h : Nat) (info : SlotInfo) (f : HeldFrame), (s.rxStream i).slots[h]? = some (.held info f) →
          (∀ (k : Nat) (y : Slot), k ≠ h → (s.rxStream i).slots[k]? = some y → y.isHeld = false) →
          let r := ((s.rxStream i).release - (s.rxStream i).base).toNat
          (t.rxStream i).slots = (s.rxStream i).slots.take r ++ List.replicate (h - r) .skipped ++ [.done info]
              ++ (s.rxStream i).slots.drop (h + 1)
            ∧ (t.rxStream i).release = (s.rxStream i).base + BitVec.ofNat 32 (h + 1)
            ∧ (t.rxStream i).holdDeadline = none
            ∧ (t.rxStream i).gaps = min 4294967295 ((s.rxStream i).gaps + (h - r))
            ∧ (s.log.records.length ≤ 1000 → t.log.records[s.log.records.length]? = some ⟨s.log.next, s.time.tod,
                s.time.quality, .gap i (s.rxStream i).release (h - r) .hold⟩)
            ∧ (s.localPort.inProgress ≠ none → s.localPort.queue.length < 64 → t.localPort.queue =
                s.localPort.queue ++ [⟨i, f.payload, (s.rxStream i).base + BitVec.ofNat 32 h, info.path, f.arrival⟩]))
      ∧ t = { s with rxStreams := t.rxStreams, localPort := t.localPort, log := t.log, ports := t.ports })
    ∧ (d ≤ s.mono → (s.rxStream i).Windowed →
        let u := s.expireOnce i
        ((∀ d1, (u.rxStream i).holdDeadline = some d1 → s.mono < d1) → exec (.holdExpiry i) s = .next u)
        ∧ ((∃ d1, (u.rxStream i).holdDeadline = some d1 ∧ d1 ≤ s.mono) →
            exec (.holdExpiry i) s = exec (.holdExpiry i) u))
    ∧ ((s.rxStream i).Windowed → ∀ (h : Nat) (info : SlotInfo) (f : HeldFrame),
        (s.rxStream i).slots[h]? = some (.held info f) → (∀ y ∈ (s.rxStream i).slots.take h, y.isHeld = false) →
          let x := s.rxStream i
          let r := (x.release - x.base).toNat
          let run := (x.slots.drop h).takeWhile Slot.isHeld
          let u := s.expireOnce i
          let y := u.rxStream i
          y = { x with
              slots := x.slots.take r ++ List.replicate (h - r) .skipped ++ run.map Slot.delivered
                ++ x.slots.drop (h + run.length)
              release := x.base + BitVec.ofNat 32 (h + run.length), gaps := min 4294967295 (x.gaps + (h - r))
              holdDeadline := y.deadlineFormed, overflow := y.overflow }
          ∧ (s.localPort.inProgress ≠ none → s.localPort.queue.length + run.length ≤ 64 →
              u.localPort.queue = s.localPort.queue ++ heldFrames i (x.base + BitVec.ofNat 32 h) run
              ∧ (x.records = true → s.log.records.length + run.length + 1 ≤ 1024 →
                  s.written u = .gap i x.release (h - r) .hold
                    :: heldRecords i (x.base + BitVec.ofNat 32 h) run s.stamp))
          ∧ (∀ j, j ≠ i → u.rxStream j = s.rxStream j) ∧ s.portsRaised u
          ∧ u = { s with rxStreams := u.rxStreams, localPort := u.localPort, log := u.log, ports := u.ports })

/-- A valid DATA frame of a stream that is not rx-enabled is counted rejected; of a synchronized stream, one behind the
base or in a SKIPPED slot is counted late, on the stream and on its path, and one in a DONE or HELD slot is a
duplicate: it joins the seen mask, is counted on the stream, and its lag behind the first arrival moves the path's
copies, minimum and maximum; nothing else changes. -/
def Obligations.CopiesJudged : Prop :=
  ∀ (s : State) (d : DataArrival),
    let i := d.copy.stream
    let x := s.rxStream i
    let n := (d.copy.seq - x.base).toNat
    let late := (s.modRx i (fun x => { x with late := min 4294967295 (x.late + 1) })).modEntry d.path
      (fun e => { e with stats := { e.stats with late := min 4294967295 (e.stats.late + 1) } })
    let counted (first : Nat) (slot : Slot) := (s.modRx i (fun x =>
        { x with duplicates := min 4294967295 (x.duplicates + 1), slots := x.slots.set n slot })).modEntry d.path
      (fun e => { e with stats := { e.stats with
        copies := min 4294967295 (e.stats.copies + 1)
        lagMin := min e.stats.lagMin (min 4294967295 (d.stamp.mono - first))
        lagMax := max e.stats.lagMax (min 4294967295 (d.stamp.mono - first)) } })
    (x.enabled = false → s.takeData d = s.modRx i (fun x => { x with rejected := min 4294967295 (x.rejected + 1) }))
    ∧ (x.enabled = true → x.synced = true → 2147483648 ≤ n → s.takeData d = late)
    ∧ (x.enabled = true → x.synced = true → x.Windowed →
        (x.slots[n]? = some .skipped → s.takeData d = late)
        ∧ (∀ info, x.slots[n]? = some (.done info) →
            s.takeData d = counted info.arrival (.done { info with seen := info.seen ||| 1#5 <<< d.path.idx.val }))
        ∧ (∀ info f, x.slots[n]? = some (.held info f) →
            s.takeData d = counted info.arrival (.held { info with seen := info.seen ||| 1#5 <<< d.path.idx.val } f)))

/-- On an rx-enabled IMMEDIATE stream in order: an unsynchronized stream synchronizes on the frame; a frame in an EMPTY
slot or in reach of the window fills its slot; one at the window size or beyond it, but short of the resync distance,
advances the window so that base is its sequence less W plus 1, and each retired EMPTY or untracked sequence is a gap;
one at the resync distance or beyond resynchronizes. The frame is accepted, wins on its path, and joins the delivery
queue, or is counted overflow with DROP attention when the queue is full. With the stream's records on its DELIVERY
record is the last record written: the sequence, path and arrival of the copy, the one-way delay when both qualities
are LOCKED, no hold delay, and the flags DROPPED and FROM-INELIGIBLE as they apply. The gaps count is taken to keep
its 32 bits (part of State.Bounded). That a frame delivered to an idle local lane starts within the same input is log
entry 22. -/
def Obligations.FirstArrivalsMoveWindow : Prop :=
  ∀ (s : State) (d : DataArrival),
    let i := d.copy.stream
    let x := s.rxStream i
    let n := (d.copy.seq - x.base).toNat
    let w := 16 * 2 ^ x.windowCode
    let reach := 2 ^ (8 + x.resyncCode)
    let t := s.takeData d
    let y := t.rxStream i
    let done : Slot := .done ⟨d.path, d.stamp.mono, d.copy.mask, 1#5 <<< d.path.idx.val⟩
    let frame : DeliveredFrame := ⟨i, d.copy.payload, d.copy.seq, d.path, d.stamp.tod⟩
    x.enabled = true → x.ordered = false → x.Windowed →
      (x.synced = false → y.synced = true ∧ y.base = d.copy.seq ∧ y.front = d.copy.seq + 1 ∧ y.slots = [done]
          ∧ y.resyncs = x.resyncs ∧ y.gaps = x.gaps)
      ∧ (x.synced = true → x.slots[n]? = some .empty → y.base = x.base ∧ y.front = x.front
          ∧ y.slots = x.slots.set n done ∧ y.gaps = x.gaps)
      ∧ (x.synced = true → x.slots.length ≤ n → n < w → y.base = x.base ∧ y.front = d.copy.seq + 1
          ∧ y.slots = x.slots ++ List.replicate (n - x.slots.length) .empty ++ [done] ∧ y.gaps = x.gaps)
      ∧ (x.synced = true → x.gaps ≤ 4294967295 → w ≤ n → n < reach → y.base = d.copy.seq + 1 - BitVec.ofNat 32 w ∧ y.front = d.copy.seq + 1
          ∧ y.slots = x.slots.drop (n + 1 - w)
              ++ List.replicate (w - 1 - (x.slots.length - (n + 1 - w))) .empty ++ [done]
          ∧ y.gaps = min 4294967295 (x.gaps + ((x.slots.take (n + 1 - w)).countP Slot.isEmpty
              + (n + 1 - w - x.slots.length))) ∧ y.resyncs = x.resyncs)
      ∧ (x.synced = true → reach ≤ n → n < 2147483648 → y.synced = true ∧ y.base = d.copy.seq
          ∧ y.front = d.copy.seq + 1 ∧ y.slots = [done] ∧ y.resyncs = min 4294967295 (x.resyncs + 1))
      ∧ ((x.synced = false ∨ x.slots[n]? = some .empty ∨ (x.slots.length ≤ n ∧ n < 2147483648)) →
          y.accepted = min 4294967295 (x.accepted + 1) ∧ y.duplicates = x.duplicates ∧ y.late = x.late
          ∧ (t.entry d.path).stats = { (s.entry d.path).stats with
              wins := min 4294967295 ((s.entry d.path).stats.wins + 1) }
          ∧ (s.localPort.inProgress ≠ none → s.localPort.queue.length < 64 →
              t.localPort = { s.localPort with queue := s.localPort.queue ++ [frame] })
          ∧ (s.localPort.inProgress = none → s.localPort.queue = [] →
              t.localPort = { s.localPort with inProgress := some frame })
          ∧ (64 ≤ s.localPort.queue.length → t.localPort = s.localPort ∧ y.overflow = min 4294967295 (x.overflow + 1)
              ∧ ∀ q, AttnSet.has (t.port q).pending .drop = true)
          ∧ (x.records = true → t.log.records.getLast? = some ⟨t.log.next - 1, s.time.tod, s.time.quality,
              deliveryBody s.time.tod frame d.stamp.quality d.sender d.copy.origin none false
                (decide (64 ≤ s.localPort.queue.length)) (s.eligible d.path)⟩)
          ∧ (x.records = false → (x.synced = false ∨ n < w) → t.log = s.log)
          ∧ (∀ j, j ≠ i → t.rxStream j = s.rxStream j))

/-- On an rx-enabled ORDERED stream in order: an unsynchronized stream synchronizes on the frame and delivers it. A first
arrival ahead of the release point, in an EMPTY slot or beyond the newest within the window (the slots between become
EMPTY), is HELD, with its arrival plus the hold time as the deadline when none exists, and nothing is delivered. One
at the release point is delivered with the run of HELD frames right after it, in ascending order, the release point
passes them all and the deadline is formed anew: the earliest first arrival of a HELD slot plus the hold time. One at
the window size or beyond it, but short of the resync distance, advances the window: the HELD frames that retire are
delivered, EMPTY and untracked sequences are gaps, the release point moves to the new base and past the HELD run
there, and the arrival is held, or delivered when it is the release point. One at the resync distance or beyond
delivers every HELD frame, writes a RESYNC record of cause JUMP, synchronizes anew and is delivered. DELIVERY records
carry the hold delay (0 for a frame delivered at its arrival), HELD, and the one-way delay when both qualities are
LOCKED. No hold runs out within these inputs (a hold that MONO has reached counts as past: log entry 21). -/
def Obligations.OrderedStreamHolds : Prop :=
  ∀ (s : State) (d : DataArrival),
    let i := d.copy.stream
    let x := s.rxStream i
    let n := (d.copy.seq - x.base).toNat
    let w := 16 * 2 ^ x.windowCode
    let reach := 2 ^ (8 + x.resyncCode)
    let t := s.takeData d
    let y := t.rxStream i
    let won (e : PathEntry) : PathEntry :=
      { e with stats := { e.stats with wins := min 4294967295 (e.stats.wins + 1) } }
    let info : SlotInfo := ⟨d.path, d.stamp.mono, d.copy.mask, 1#5 <<< d.path.idx.val⟩
    let kept : Slot := .held info ⟨d.copy.payload, d.copy.origin, d.stamp.tod, d.stamp.quality, d.sender, s.eligible d.path⟩
    let frame : DeliveredFrame := ⟨i, d.copy.payload, d.copy.seq, d.path, d.stamp.tod⟩
    let own : RecordBody := deliveryBody s.time.tod frame d.stamp.quality d.sender d.copy.origin (some 0) false false
      (s.eligible d.path)
    let holding (slots : List Slot) (front : Seq) : State := (s.modRx i (fun x =>
      { x with
        accepted := min 4294967295 (x.accepted + 1), front := front, slots := slots
        holdDeadline := match x.holdDeadline with
          | some old => some old
          | none => some (d.stamp.mono + x.holdTime * 1000) })).modEntry d.path won
    let noneLate : Prop := s.mono < d.stamp.mono + x.holdTime * 1000 ∧ ∀ a ∈ x.heldArrivals, s.mono < a + x.holdTime * 1000
    let room (k : Nat) : Prop := s.localPort.inProgress ≠ none ∧ s.localPort.queue.length + k ≤ 64
    let logged (k : Nat) : Prop := x.records = true ∧ s.log.records.length + k ≤ 1024
    let framed : Prop := y.accepted = min 4294967295 (x.accepted + 1) ∧ t.entry d.path = won (s.entry d.path)
      ∧ (∀ j, j ≠ i → t.rxStream j = s.rxStream j)
      ∧ t = { s with
          rxStreams := t.rxStreams, paths := t.paths, localPort := t.localPort, log := t.log, ports := t.ports }
    x.enabled = true → x.ordered = true → x.Windowed →
      (x.synced = false → framed
        ∧ y = { x with
            synced := true, base := d.copy.seq, front := d.copy.seq + 1, release := d.copy.seq + 1, slots := [.done info]
            accepted := y.accepted, overflow := y.overflow }
        ∧ (room 1 → t.localPort.queue = s.localPort.queue ++ [frame] ∧ (logged 1 → s.written t = [own])))
      ∧ (x.synced = true → x.slots[n]? = some .empty → d.copy.seq ≠ x.release →
          (x.holdDeadline ≠ none ∨ s.mono < d.stamp.mono + x.holdTime * 1000) →
          t = holding (x.slots.set n kept) x.front)
      ∧ (x.synced = true → x.slots[n]? = some .empty → d.copy.seq = x.release → noneLate →
          let run := (x.slots.drop (n + 1)).takeWhile Slot.isHeld
          framed
          ∧ y = { x with
              slots := x.slots.take n ++ .done info :: run.map Slot.delivered ++ x.slots.drop (n + 1 + run.length)
              release := x.release + 1 + BitVec.ofNat 32 run.length, holdDeadline := y.deadlineFormed
              accepted := y.accepted, overflow := y.overflow }
          ∧ (room (run.length + 1) →
              t.localPort.queue = s.localPort.queue ++ frame :: heldFrames i (d.copy.seq + 1) run
              ∧ (logged (run.length + 1) → s.written t = own :: heldRecords i (d.copy.seq + 1) run s.stamp)))
      ∧ (x.synced = true → x.slots.length ≤ n → n < w → d.copy.seq ≠ x.release →
          (x.holdDeadline ≠ none ∨ s.mono < d.stamp.mono + x.holdTime * 1000) →
          t = holding (x.slots ++ List.replicate (n - x.slots.length) .empty ++ [kept]) (d.copy.seq + 1))
      ∧ (x.synced = true → x.slots.length ≤ n → n < w → d.copy.seq = x.release → framed
          ∧ y = { x with
              front := d.copy.seq + 1, release := d.copy.seq + 1, slots := x.slots ++ [.done info]
              accepted := y.accepted, overflow := y.overflow }
          ∧ (room 1 → t.localPort.queue = s.localPort.queue ++ [frame] ∧ (logged 1 → s.written t = [own])))
      ∧ (x.synced = true → x.gaps ≤ 4294967295 → w ≤ n → n < reach → noneLate →
          let gone := x.slots.take (n + 1 - w)
          let rest := x.slots.drop (n + 1 - w)
          let r := (x.release - x.base).toNat - (n + 1 - w)
          let run := (rest.drop r).takeWhile Slot.isHeld
          let stayed := rest.take r ++ run.map Slot.delivered ++ rest.drop (r + run.length)
            ++ List.replicate (w - 1 - rest.length) .empty
          let base := d.copy.seq + 1 - BitVec.ofNat 32 w
          y.base = base ∧ y.front = d.copy.seq + 1 ∧ y.synced = true ∧ y.resyncs = x.resyncs
          ∧ y.accepted = min 4294967295 (x.accepted + 1)
          ∧ y.gaps = min 4294967295 (x.gaps + (gone.countP Slot.isEmpty + (n + 1 - w - x.slots.length)))
          ∧ y.holdDeadline = y.deadlineFormed
          ∧ (r + run.length < w - 1 → y.slots = stayed ++ [kept] ∧ y.release = base + BitVec.ofNat 32 (r + run.length))
          ∧ (r + run.length = w - 1 → y.slots = stayed ++ [.done info] ∧ y.release = d.copy.seq + 1)
          ∧ (room (gone.length + run.length + 1) → t.localPort.queue = s.localPort.queue ++ heldFrames i x.base gone
              ++ heldFrames i (base + BitVec.ofNat 32 r) run ++ (if r + run.length < w - 1 then [] else [frame]))
          ∧ (∀ j, j ≠ i → t.rxStream j = s.rxStream j))
      ∧ (x.synced = true → reach ≤ n → n < 2147483648 → framed
          ∧ y = { x with
              base := d.copy.seq, front := d.copy.seq + 1, release := d.copy.seq + 1, slots := [.done info]
              holdDeadline := none, resyncs := min 4294967295 (x.resyncs + 1)
              accepted := y.accepted, overflow := y.overflow }
          ∧ (room (x.slots.length + 1) → t.localPort.queue = s.localPort.queue ++ heldFrames i x.base x.slots ++ [frame]
              ∧ (logged (x.slots.length + 2) → s.written t = heldRecords i x.base x.slots s.stamp
                  ++ [.resync i x.front .jump (some d.copy.seq), own])))

/-- A selected edge on a reference input: run count and qualified flag follow the table of R27, the other reference keeps
its own, the active reference is REF0 when qualified, else REF1 when qualified, else none, and outside a soft reset
period the pulse is captured on its channel; with discipline off nothing else of the clock changes. 1,500 ms after the
last pulse the reference loses its qualification. A change of the active reference, by a pulse or by that loss, first
of all writes a REFERENCE SWITCH record with offset 0 for REF0, 1 for REF1 or -1 for none and raises TIME, whether
discipline is on or off; on a disciplined clock it moves ph, the lock count and the quality (to none: LOCKING or
LOCKED becomes HOLDOVER; from none: HOLDOVER becomes LOCKING; from one to the other: LOCKED becomes LOCKING), and a
change of quality is recorded after it with offset 0. A pulse that the discipline does not apply changes the clock in
nothing else; without a change of the active reference no REFERENCE SWITCH record is written. The capture that leaves
two stamps raises CAPTURE on every port and no other does; log mode writes a MARK record with the channel and the
stamp, after the records of the switch, and without log mode, or in the soft reset period, none is written; a pulse that
the discipline does not apply writes no other record. That the records show
the quality after the change is log entry 15, that the switch comes before the capture log entry 16. That REF_TIMEOUT
with run count 0 or before its 1,500 ms changes nothing is log entry 3, the model's choice. -/
def Obligations.ReferencePulsesQualify : Prop :=
  ∀ (s : State) (r : Ref),
    let chosen (t : State) : Option Ref :=
      if (t.ref .ref0).qualified then some .ref0 else if (t.ref .ref1).qualified then some .ref1 else none
    (∀ dir : EdgeDir,
      let c := s.channel r.channel
      let taken : Prop := c.edge = .both ∨ (c.edge = .rising ∧ dir = .rising) ∨ (c.edge = .falling ∧ dir = .falling)
      (¬taken → exec (.refPulse r dir) s = .next s)
      ∧ (taken → ∃ t : State, exec (.refPulse r dir) s = .next t
        ∧ ((s.ref r).run = 0 → t.ref r = { s.ref r with run := 1, lastPulse := some s.mono })
        ∧ (∀ l, (s.ref r).run ≠ 0 → (s.ref r).lastPulse = some l → l + 999900000 ≤ s.mono → s.mono ≤ l + 1000100000 →
            t.ref r = ⟨min 3 ((s.ref r).run + 1), (s.ref r).qualified || decide (2 ≤ (s.ref r).run), some s.mono⟩)
        ∧ (∀ l, (s.ref r).run ≠ 0 → (s.ref r).lastPulse = some l →
            (s.mono < l + 999900000 ∨ l + 1000100000 < s.mono) → t.ref r = ⟨1, false, some s.mono⟩)
        ∧ (∀ q, q ≠ r → t.ref q = s.ref q) ∧ t.time.active = chosen t
        ∧ (s.resetting = none → t.channel r.channel = { c with
            fifo := (if c.fifo.length < 2 then c.fifo else c.fifo.tail)
              ++ [match c.source with | .tod => .tod s.time.tod | .mono => .mono s.mono]
            lost := c.lost || decide (2 ≤ c.fifo.length) })
        ∧ (s.resetting ≠ none → t.channel r.channel = c) ∧ (∀ k, k ≠ r.channel → t.channel k = s.channel k)
        ∧ (s.resetting = none → c.fifo.length ≤ 2 → ∀ q, AttnSet.has (t.port q).pending .capture =
            (AttnSet.has (s.port q).pending .capture || decide (1 ≤ c.fifo.length)))
        ∧ (s.resetting ≠ none → ∀ q, AttnSet.has (t.port q).pending .capture = AttnSet.has (s.port q).pending .capture)
        ∧ (let n := s.log.records.length
          let quality := (s.time.afterSwitch (chosen t)).quality
          let switched : Nat := if chosen t = s.time.active then 0 else if quality = s.time.quality then 1 else 2
          let marked : Prop := s.resetting = none ∧ c.log = true
          (marked → n ≤ 1000 → t.log.records[n + switched]? =
            some ⟨s.log.next + BitVec.ofNat 32 switched, s.time.tod, quality, .mark r.channel
              (match c.source with | .tod => .tod s.time.tod | .mono => .mono s.mono)⟩)
          ∧ (¬marked → n ≤ 1000 →
              (s.written t).all (fun b => match b with | .mark _ _ => false | _ => true) = true)
          ∧ ((t.time.active ≠ some r ∨ s.time.discipline = false ∨ (quality ≠ .locking ∧ quality ≠ .locked)) →
              (marked → t.log.next = s.log.next + BitVec.ofNat 32 (switched + 1))
              ∧ (¬marked → t.log.next = s.log.next + BitVec.ofNat 32 switched)))
        ∧ (s.time.discipline = false → t.time = { s.time with
            refs := t.time.refs, active := t.time.active, channels := t.time.channels })
        ∧ s.switchNoted t (chosen t)
        ∧ (let u := s.time.afterSwitch (chosen t)
          (u.active ≠ some r ∨ u.discipline = false ∨ (u.quality ≠ .locking ∧ u.quality ≠ .locked)) →
            t.time = { u with refs := t.time.refs, channels := t.time.channels })
        ∧ t.mono = s.mono ∧ s.portsRaised t ∧ t = { s with time := t.time, log := t.log, ports := t.ports }))
    ∧ ((s.ref r).run = 0 → exec (.refTimeout r) s = .next s)
    ∧ (∀ l, (s.ref r).run ≠ 0 → (s.ref r).lastPulse = some l →
      (s.mono < l + 1500000000 → exec (.refTimeout r) s = .next s)
      ∧ (l + 1500000000 ≤ s.mono → ∃ t : State, exec (.refTimeout r) s = .next t
        ∧ t.ref r = { s.ref r with run := 0, qualified := false } ∧ (∀ q, q ≠ r → t.ref q = s.ref q)
        ∧ t.time.active = chosen t
        ∧ (s.time.discipline = false → t.time = { s.time with refs := t.time.refs, active := t.time.active })
        ∧ (s.time.discipline = true → (s.time.quality = .locked ∨ s.time.quality = .locking) → s.time.active ≠ none →
            t.time.active = none → t.time.quality = .holdover ∧ t.time.ph = 0 ∧ t.time.lockCount = 0
              ∧ ∀ q, AttnSet.has (t.port q).pending .time = true)
        ∧ t.time = { s.time.afterSwitch (chosen t) with refs := t.time.refs } ∧ s.switchNoted t (chosen t)
        ∧ (chosen t = s.time.active → t.log = s.log ∧ t.ports = s.ports)
        ∧ t.time.f = s.time.f ∧ t.time.tod = s.time.tod ∧ t.mono = s.mono ∧ s.portsRaised t
        ∧ t = { s with time := t.time, log := t.log, ports := t.ports }))

/-- A good pulse of the active, qualified reference in quality LOCKING or LOCKED, with e the signed distance of the TOD
nanoseconds from a whole second: within the step threshold ph becomes -e and f moves by -e divided by 2^Ki (floored,
clamped), and the lock count and quality follow the lock threshold; beyond it TOD is set to the nearest whole second,
the remainder is kept, ph and the lock count are 0, the quality is LOCKING, a STEP record with offset -e is written
and TIME raised, and the marker outputs see the step of -e as they see one of STEP TIME; a slewed pulse leaves them as
they are. No other record is written but a MARK record in log mode and that of a change of quality. A change of
quality is the last record written, after a MARK record of the same pulse and the STEP record (log entry 16; its
record time and quality, those after the change, are log entry 15). -/
def Obligations.DisciplineSlewsOrSteps : Prop :=
  ∀ (s : State) (r : Ref) (dir : EdgeDir) (l : Nat),
    ((s.channel r.channel).edge = .both ∨ ((s.channel r.channel).edge = .rising ∧ dir = .rising)
      ∨ ((s.channel r.channel).edge = .falling ∧ dir = .falling)) →
    s.time.active = some r → s.time.discipline = true → (s.time.quality = .locking ∨ s.time.quality = .locked) →
    (s.ref r).qualified = true → (s.ref r).run ≠ 0 → (s.ref r).lastPulse = some l → l + 999900000 ≤ s.mono →
    s.mono ≤ l + 1000100000 → (r = .ref1 → (s.ref .ref0).qualified = false) →
      let e : Int := if s.time.tod.ns < 500000000 then (s.time.tod.ns : Int) else (s.time.tod.ns : Int) - 1000000000
      let marks : Nat := if (s.channel r.channel).log = true ∧ s.resetting = none then 1 else 0
      let steps : Nat := if s.time.ts < e.natAbs then 1 else 0
      ∃ t : State, exec (.refPulse r dir) s = .next t ∧ t.time.active = some r ∧ t.time.discipline = true
        ∧ (e.natAbs ≤ s.time.ts → t.time.ph = -e
          ∧ t.time.f = max (-500000) (min 500000 (s.time.f + (-e) / (2 ^ s.time.ki : Nat)))
          ∧ t.time.tod = s.time.tod ∧ t.time.rem = s.time.rem
          ∧ (e.natAbs ≤ s.time.tl → t.time.lockCount = min 4 (s.time.lockCount + 1)
              ∧ t.time.quality = if s.time.quality = .locking ∧ 3 ≤ s.time.lockCount then .locked else s.time.quality)
          ∧ (s.time.tl < e.natAbs → t.time.lockCount = 0 ∧ t.time.quality = .locking))
        ∧ (s.time.ts < e.natAbs → t.time.tod = ⟨if s.time.tod.ns < 500000000 then s.time.tod.sec
              else s.time.tod.sec + 1, 0⟩ ∧ t.time.rem = s.time.rem ∧ t.time.ph = 0 ∧ t.time.f = s.time.f
          ∧ t.time.lockCount = 0 ∧ t.time.quality = .locking ∧ ∀ q, AttnSet.has (t.port q).pending .time = true)
        ∧ (t.time.quality ≠ s.time.quality → (∀ q, AttnSet.has (t.port q).pending .time = true)
            ∧ t.log.records.getLast? = some ⟨t.log.next - 1, t.time.tod, t.time.quality, .time .quality e⟩)
        ∧ t.log.next = s.log.next + BitVec.ofNat 32 (marks + steps + if t.time.quality = s.time.quality then 0 else 1)
        ∧ (s.time.ts < e.natAbs → s.markersStepped t (-e) ∧ (s.log.records.length ≤ 1000 →
            t.log.records[s.log.records.length + marks]? =
              some ⟨s.log.next + BitVec.ofNat 32 marks, t.time.tod, .locking, .time .step (-e)⟩))
        ∧ (e.natAbs ≤ s.time.ts → t.time.markers = s.time.markers)
        ∧ t.time = { s.time with
            tod := t.time.tod, quality := t.time.quality, lockCount := t.time.lockCount, f := t.time.f, ph := t.time.ph
            refs := t.time.refs, channels := t.time.channels, markers := t.time.markers }
        ∧ t.mono = s.mono ∧ t = { s with time := t.time, log := t.log, ports := t.ports }

/-- A selected edge outside a soft reset period puts TOD or MONO at the tail of the channel's FIFO of two, the oldest
stamp giving way with LOST; CAPTURE is raised on every port exactly when the FIFO then holds two, and log mode writes
a MARK record; an edge that is not selected, or in the period, changes nothing. -/
def Obligations.MarkEdgesCaptured : Prop :=
  ∀ (s : State) (m : Mark) (dir : EdgeDir),
    let c := s.channel m.channel
    let taken : Prop := c.edge = .both ∨ (c.edge = .rising ∧ dir = .rising) ∨ (c.edge = .falling ∧ dir = .falling)
    let stamp : CaptureStamp := match c.source with | .tod => .tod s.time.tod | .mono => .mono s.mono
    ((¬taken ∨ s.resetting ≠ none) → exec (.markEdge m dir) s = .next s)
    ∧ (taken → s.resetting = none → c.fifo.length ≤ 2 → ∃ t : State, exec (.markEdge m dir) s = .next t
      ∧ t.channel m.channel = { c with
          fifo := (if c.fifo.length < 2 then c.fifo else c.fifo.tail) ++ [stamp]
          lost := c.lost || decide (c.fifo.length = 2) }
      ∧ (∀ k, k ≠ m.channel → t.channel k = s.channel k)
      ∧ (∀ q, AttnSet.has (t.port q).pending .capture =
          (AttnSet.has (s.port q).pending .capture || decide (1 ≤ c.fifo.length)))
      ∧ (c.log = true → t.log.records.getLast? = some ⟨s.log.next, s.time.tod, s.time.quality, .mark m.channel stamp⟩
          ∧ t.log.next = s.log.next + 1)
      ∧ (c.log = false → t.log = s.log) ∧ s.portsRaised t
      ∧ t = { s with time := { s.time with channels := t.time.channels }, log := t.log, ports := t.ports })

/-- An armed output whose match TOD has been reached starts a pulse of width times 100 ns and is disarmed (period 0) or
moved on by its period; the pulse ends at its deadline. From a GATEWAY or OPERATOR port SET MARKER refuses ARGUMENT an
output, an action or PULSE settings out of range, and otherwise programs the output: forced at once, armed for a match
to come, or, for a match already reached, one LATE pulse at once with the passed matches beyond the first counted as
skipped. That MARKER_MATCH with no match reached and MARKER_PULSE_END before its moment change nothing is log entry 3,
the model's choice. -/
def Obligations.MarkerOutputsFire : Prop :=
  (∀ (s : State) (o : Out),
      let m := s.marker o
      let reached : Prop := m.armed = true
        ∧ 0 ≤ (s.time.tod.sec - m.matchAt.sec).toInt * 1000000000 + ((s.time.tod.ns : Int) - m.matchAt.ns)
      let becomes (m1 : Marker) : Host.Outcome State Fault Refusal := .next { s with time := s.time.modMarker o (fun _ => m1) }
      (¬reached → exec (.markerMatch o) s = .next s)
      ∧ (reached → m.period = 0 →
          exec (.markerMatch o) s = becomes { m with armed := false, pulseEnd := some (s.mono + m.width * 100) })
      ∧ (reached → m.period ≠ 0 → exec (.markerMatch o) s =
          becomes { m with matchAt := m.matchAt.add m.period, pulseEnd := some (s.mono + m.width * 100) })
      ∧ (m.pulseEnd = none → exec (.markerPulseEnd o) s = .next s)
      ∧ (∀ d, m.pulseEnd = some d → (s.mono < d → exec (.markerPulseEnd o) s = .next s)
          ∧ (d ≤ s.mono → exec (.markerPulseEnd o) s = becomes { m with pulseEnd := none })))
    ∧ (∀ (s : State) (port : Port) (ob ab : Byte) (sec ns period width : Nat), s.resetting = none →
        ((s.port port).role = .gateway ∨ (s.port port).role = .operator) → sec < 4294967296 → ns < 4294967296 →
        period < 4294967296 → width < 65536 →
        let c : Instr := .setMarker port
          ([ob, ab] ++ leBytes 4 sec ++ leBytes 4 ns ++ leBytes 4 period ++ leBytes 2 width)
        let fits : Prop := ns < 1000000000 ∧ (period = 0 ∨ (1000 ≤ period ∧ width * 100 < period)) ∧ 1 ≤ width
        ((1 < ob.toNat ∨ 3 < ab.toNat ∨ (2 ≤ ab.toNat ∧ ¬fits)) → exec c s = .next (s.answered port .argument))
        ∧ (∀ (o : Out) (action : MarkerAction), ob.toNat = o.idx.val → ab.toNat = action.code →
            (ab.toNat < 2 ∨ fits) →
            let target : Tod := ⟨BitVec.ofNat 32 sec, ns⟩
            let since : Int := (s.time.tod.sec - target.sec).toInt * 1000000000 + ((s.time.tod.ns : Int) - ns)
            let passed : Nat := if period = 0 then 1 else (since / period).toNat + 1
            let becomes (m : Marker) : State :=
              { s.answered port .ok with time := s.time.modMarker o (fun _ => m) }
            (ab.toNat < 2 → exec c s = .next (becomes ⟨action, target, period, width, false, false, 0, none⟩))
            ∧ (2 ≤ ab.toNat → since < 0 →
                exec c s = .next (becomes ⟨action, target, period, width, true, false, 0, none⟩))
            ∧ (2 ≤ ab.toNat → 0 ≤ since → exec c s = .next (becomes ⟨action,
                if period = 0 then target else target.add ((passed * period : Nat) : Int), period, width,
                decide (period ≠ 0), true, min 65535 (passed - 1), some (s.mono + width * 100)⟩))))

/-- From an OPERATOR port: SET TIME loads TOD with the remainder cleared, STEP TIME moves it with the remainder kept;
either writes a STEP record with the offset (saturated) and raises TIME, sets the quality to LOCKING with lock count
and ph 0 under discipline (without it SET TIME sets SET), records a change of quality, and a forward step of either
that passes k match times of an armed output, those after the TOD before it and at or before the TOD after it by the
difference of R19, fires one LATE pulse when k is 1 or more and counts k - 1 as skipped: a single match disarms, a
periodic one moves to its first match after the new TOD; other outputs stay as they are; SET FREQUENCY sets f clamped,
or is refused STATE under discipline. Nanoseconds from 10^9 are refused ARGUMENT, and so is the offset -2^31 (log
entry 9). That the STEP record shows the TOD and quality after the change is log entry 15. -/
def Obligations.TimeSetByCommand : Prop :=
  ∀ (s : State) (port : Port), s.resetting = none → (s.port port).role = .operator →
    let stepped (quality : Quality) (moved offset : Int) (t : State) : Prop :=
      t.time.quality = quality ∧ (∀ q, AttnSet.has (t.port q).pending .time = true) ∧ (t.port port).lastResult = .ok
        ∧ (s.log.records.length ≤ 1000 →
            t.log.records[s.log.records.length]? = some ⟨s.log.next, t.time.tod, t.time.quality, .time .step offset⟩
            ∧ (quality ≠ s.time.quality → t.log.records[s.log.records.length + 1]? =
                some ⟨s.log.next + 1, t.time.tod, t.time.quality, .time .quality 0⟩)
            ∧ (quality = s.time.quality → t.log.next = s.log.next + 1))
        ∧ s.markersStepped t moved
        ∧ t.time = { s.time with
            tod := t.time.tod, rem := t.time.rem, quality := quality, markers := t.time.markers
            lockCount := if s.time.discipline then 0 else s.time.lockCount
            ph := if s.time.discipline then 0 else s.time.ph }
        ∧ t = { s with time := t.time, log := t.log, ports := t.ports }
    (∀ sec ns : Nat, sec < 4294967296 → ns < 4294967296 →
      let c : Instr := .setTime port (leBytes 4 sec ++ leBytes 4 ns)
      (1000000000 ≤ ns → exec c s = .next (s.answered port .argument))
      ∧ (ns < 1000000000 →
        let moved : Int := (BitVec.ofNat 32 sec - s.time.tod.sec).toInt * 1000000000 + ((ns : Int) - s.time.tod.ns)
        ∃ t : State, exec c s = .next t ∧ t.time.tod = ⟨BitVec.ofNat 32 sec, ns⟩ ∧ t.time.rem = 0
        ∧ stepped (if s.time.discipline then .locking else .set) moved
            (max (-2147483647) (min 2147483647 moved)) t))
    ∧ (∀ offset : Int, -2147483648 ≤ offset → offset ≤ 2147483647 →
      let c : Instr := .stepTime port (leBytesInt 4 offset)
      (offset = -2147483648 → exec c s = .next (s.answered port .argument))
      ∧ (offset ≠ -2147483648 → ∃ t : State, exec c s = .next t ∧ t.time.tod = s.time.tod.add offset
        ∧ t.time.rem = s.time.rem
        ∧ stepped (if s.time.discipline then .locking else s.time.quality) offset offset t))
    ∧ (∀ ppb : Int, -2147483648 ≤ ppb → ppb ≤ 2147483647 →
      (s.time.discipline = true → exec (.setFrequency port (leBytesInt 4 ppb)) s = .next (s.answered port .state))
      ∧ (s.time.discipline = false → exec (.setFrequency port (leBytesInt 4 ppb)) s = .next { s.answered port .ok with
          time := { s.time with f := max (-500000) (min 500000 ppb) } }))

/-- From an OPERATOR port SET DISCIPLINE stores its settings: turned on at quality SET it goes to LOCKING with lock count
0, turned off it clears ph and the lock count and goes to SET unless FREE, and a change of quality is recorded and
raises TIME. SET CAPTURE (OPERATOR; GATEWAY for the marker inputs) stores edge, source and log mode and empties the
FIFO; a new edge setting of a reference clears its run count and qualification and chooses the active reference anew,
a change of which acts on the discipline and is recorded and raised as at a pulse (log entry 15 for the quality its
record shows). Values out of range are refused ARGUMENT. -/
def Obligations.TimeSettingsStored : Prop :=
  ∀ (s : State) (port : Port), s.resetting = none →
    ((s.port port).role = .operator → ∀ (on ki : Byte) (ts tl : Nat), ts < 4294967296 → tl < 65536 →
      let c : Instr := .setDiscipline port ([on] ++ leBytes 4 ts ++ leBytes 2 tl ++ [ki])
      let ranges : Prop := on.toNat ≤ 1 ∧ 1000 ≤ ts ∧ ts ≤ 1000000 ∧ 1 ≤ tl ∧ ki.toNat ≤ 15
      let starts : Bool := !s.time.discipline && decide (on.toNat = 1) && decide (s.time.quality = .set)
      let ends : Bool := s.time.discipline && decide (on.toNat = 0)
      (¬ranges → exec c s = .next (s.answered port .argument))
      ∧ (ranges → ∃ t : State, exec c s = .next t ∧ t.time = { s.time with
            discipline := decide (on.toNat = 1), ts := ts, tl := tl, ki := ki.toNat
            quality := if starts then .locking
              else if ends then (if s.time.quality = .free then .free else .set) else s.time.quality
            lockCount := if starts || ends then 0 else s.time.lockCount
            ph := if ends then 0 else s.time.ph }
        ∧ (t.time.quality = s.time.quality → t.log = s.log ∧ t.ports = (s.answered port .ok).ports)
        ∧ (t.time.quality ≠ s.time.quality → t.log.records.getLast? = some ⟨s.log.next, s.time.tod, t.time.quality,
              .time .quality 0⟩ ∧ (∀ q, AttnSet.has (t.port q).pending .time = true) ∧ (t.port port).lastResult = .ok)
        ∧ t = { s with time := t.time, log := t.log, ports := t.ports }))
    ∧ ∀ (b e src l : Byte),
      (3 < b.toNat → exec (.setCapture port [b, e, src, l]) s = .next (s.answered port .argument))
      ∧ ∀ k : Channel, b.toNat = k.idx.val →
        ((s.port port).role = .operator ∨ ((s.port port).role = .gateway ∧ (k = .mark0 ∨ k = .mark1))) →
        ((3 < e.toNat ∨ 1 < src.toNat ∨ 1 < l.toNat) →
          exec (.setCapture port [b, e, src, l]) s = .next (s.answered port .argument))
        ∧ ∀ (edge : EdgeSetting) (source : Source), e.toNat = edge.code → src.toNat = source.code → l.toNat ≤ 1 →
          let stored : TimeUnit := s.time.modChannel k (fun _ => ⟨edge, source, decide (l.toNat = 1), [], false⟩)
          (((k = .mark0 ∨ k = .mark1) ∨ (s.channel k).edge = edge) →
            exec (.setCapture port [b, e, src, l]) s = .next { s.answered port .ok with time := stored })
          ∧ (∀ r : Ref, k = r.channel → (s.channel k).edge ≠ edge → ∃ t : State,
              exec (.setCapture port [b, e, src, l]) s = .next t ∧ t.time.channels = stored.channels
              ∧ t.ref r = { s.ref r with run := 0, qualified := false } ∧ (∀ q, q ≠ r → t.ref q = s.ref q)
              ∧ t.time.active = (if (t.ref .ref0).qualified then some .ref0
                  else if (t.ref .ref1).qualified then some .ref1 else none)
              ∧ (s.time.discipline = false → t.time = { stored with refs := t.time.refs, active := t.time.active })
              ∧ t.time = { stored.afterSwitch t.time.active with refs := t.time.refs } ∧ s.switchNoted t t.time.active
              ∧ (t.port port).lastResult = .ok ∧ t = { s with time := t.time, log := t.log, ports := t.ports })

/-- From a SUPERVISOR or OPERATOR port START SWEEP refuses ARGUMENT values out of range and BUSY a second sweep; otherwise
tag and settings are stored and the first turn comes: each path of the set up to the lowest in service is recorded
SKIPPED, probe 0 of a burst on that path is issued at once, and with every path DISABLED or FAILED the sweep ends with
SWEEP attention. SUSPEND withdraws the probe of a RUNNING sweep. RESUME lets a SUSPENDED one go on: within its burst,
with the next probe issued at once when the spacing has passed, to the burst's end with the samples kept when all its
probes have been issued, or to the next path's turn without a current path. CANCEL ends a sweep with an ABORTED record
for the burst in progress, whose pending probe is withdrawn and whose outstanding probe is abandoned; the tag, the
settings, the samples and the other transmitters stay. Each has no effect in another state. That a sweep which begins
no burst leaves the probe index and last t1 as they were is log entry 40. -/
def Obligations.SweepCommandsTaken : Prop :=
  ∀ (s : State) (port : Port), s.resetting = none →
    ((s.port port).role = .supervisor ∨ (s.port port).role = .operator) →
    let x := s.sounding
    (∀ (set code : Byte) (spacing timeout settle : Nat), spacing < 65536 → timeout < 65536 → settle < 65536 →
      let c : Instr := .startSweep port ([set, code] ++ leBytes 2 spacing ++ leBytes 2 timeout ++ leBytes 2 settle)
      let ranges : Prop := 1 ≤ set.toNat ∧ set.toNat < 32 ∧ code.toNat ≤ 15 ∧ 10 ≤ spacing
      let paths : PathSet := BitVec.ofNat 5 set.toNat
      (¬ranges → exec c s = .next (s.answered port .argument))
      ∧ (ranges → x.state ≠ .idle → exec c s = .next (s.answered port .busy))
      ∧ (ranges → x.state = .idle → ∃ t : State, exec c s = .next t ∧ State.turnTaken { s.answered port .ok with
          sounding := { x with
            state := .running, reason := none, settleDeadline := none, tag := x.tag + 1, pathSet := paths
            remaining := paths, countCode := code.toNat, spacing := spacing, timeout := max 1 timeout, settle := settle
            minimum := none, valid := 0, lost := 0 } } t))
    ∧ (x.state ≠ .running → exec (.suspendSweep port []) s = .next (s.answered port .ok))
    ∧ (x.state = .running → ∃ t : State, exec (.suspendSweep port []) s = .next t
        ∧ t.sounding = { x with
            state := .suspended, reason := some .command, settleDeadline := none, pendingProbe := none
            outstanding := none }
        ∧ (∀ p, t.transmitter p = if x.current = some p ∧ x.pendingProbe ≠ none then
            { s.transmitter p with probe := none } else s.transmitter p)
        ∧ t = { s.answered port .ok with sounding := t.sounding, transmitters := t.transmitters })
    ∧ (x.state ≠ .suspended → exec (.resumeSweep port []) s = .next (s.answered port .ok))
    ∧ (∀ p, x.state = .suspended → x.current = some p → x.probeIndex < x.countCode + 1 →
        (∀ t1, x.lastT1 = some t1 → s.mono < t1 + x.spacing * 1000 → exec (.resumeSweep port []) s =
          .next { s.answered port .ok with sounding := { x with
            state := .running, reason := none, settleDeadline := none } })
        ∧ ((∀ t1, x.lastT1 = some t1 → t1 + x.spacing * 1000 ≤ s.mono) → ∃ t : State,
          exec (.resumeSweep port []) s = .next t ∧ State.probeIssued { s.answered port .ok with
            sounding := { x with state := .running, reason := none, settleDeadline := none } } t p))
    ∧ (x.state = .suspended → x.current = none → ∃ t : State, exec (.resumeSweep port []) s = .next t
        ∧ State.turnTaken { s.answered port .ok with
            sounding := { x with state := .running, reason := none, settleDeadline := none } } t)
    ∧ (∀ p, x.state = .suspended → x.current = some p → x.countCode + 1 ≤ x.probeIndex →
        ∃ t : State, exec (.resumeSweep port []) s = .next t ∧ State.burstEnded { s.answered port .ok with
            sounding := { x with state := .running, reason := none, settleDeadline := none } } t p)
    ∧ (x.state = .idle → exec (.cancelSweep port []) s = .next (s.answered port .ok))
    ∧ (x.state ≠ .idle → ∃ t : State, exec (.cancelSweep port []) s = .next t
        ∧ t.sounding = { x with
            state := .idle, reason := none, settleDeadline := none, current := none, remaining := 0
            pendingProbe := if x.current = none then x.pendingProbe else none
            outstanding := if x.current = none then x.outstanding else none }
        ∧ (∀ p, t.transmitter p = if x.current = some p ∧ x.pendingProbe ≠ none then
            { s.transmitter p with probe := none } else s.transmitter p)
        ∧ (∀ q, AttnSet.has (t.port q).pending .sweep = true)
        ∧ (∀ p, x.current = some p → t.log.records.getLast? = some ⟨s.log.next, s.time.tod, s.time.quality,
            .sound p .aborted x.valid x.lost x.minimum (s.entry p).delay false⟩)
        ∧ (x.current = none → t.log = s.log) ∧ (t.port port).lastResult = .ok
        ∧ (s.answered port .ok).portsRaised t
        ∧ t = { s with sounding := t.sounding, transmitters := t.transmitters, log := t.log, ports := t.ports })

/-- A RUNNING burst whose last probe has ended issues the next when the spacing since its t1 has passed: an idle
transmitter starts it, with t1 and its deadline held, a pending echo goes first, and a busy one keeps it pending. An
outstanding probe whose deadline passes is counted lost, and the next is issued or waits for its spacing; lost as the
last of a burst it ends the burst, OK with a valid sample (State.burstEnded), and the sweep takes its next turn or
ends; without a valid sample the burst ends FAILED (score plus 64, at most 255, D unchanged) and with no path left the
SOUND record is the last and the sweep ends. A passed settle deadline lets a sweep suspended on fallback go on as
RESUME SWEEP does: within its burst, to the end of a burst whose probes have all been issued, or to the next path's
turn without a current path. Before its moment a row changes nothing (log entry 3, the model's choice). That the probe
index, samples and last t1 stay where no burst begins is log entry 40. -/
def Obligations.SweepTimersRunOut : Prop :=
  ∀ s : State,
    let x := s.sounding
    ((x.state ≠ .running ∨ x.current = none ∨ x.pendingProbe ≠ none ∨ x.outstanding ≠ none
        ∨ x.countCode + 1 ≤ x.probeIndex) → exec .probeIssue s = .next s)
    ∧ (∀ t1, x.lastT1 = some t1 → s.mono < t1 + x.spacing * 1000 → exec .probeIssue s = .next s)
    ∧ (∀ p, x.state = .running → x.current = some p → x.pendingProbe = none → x.outstanding = none →
        x.probeIndex < x.countCode + 1 → (∀ t1, x.lastT1 = some t1 → t1 + x.spacing * 1000 ≤ s.mono) →
        ∃ t : State, exec .probeIssue s = .next t ∧ s.probeIssued t p)
    ∧ (x.outstanding = none → exec .probeTimeout s = .next s)
    ∧ (∀ o p, x.outstanding = some o → x.current = some p →
        let counted : State := { s.modEntry p (fun e => { e with stats := { e.stats with
            probesLost := min 4294967295 (e.stats.probesLost + 1) } }) with
          sounding := { x with outstanding := none, lost := x.lost + 1 } }
        (s.mono < o.deadline → exec .probeTimeout s = .next s)
        ∧ (o.deadline ≤ s.mono → x.probeIndex < x.countCode + 1 →
            (∀ t1, x.lastT1 = some t1 → s.mono < t1 + x.spacing * 1000 → exec .probeTimeout s = .next counted)
            ∧ ((∀ t1, x.lastT1 = some t1 → t1 + x.spacing * 1000 ≤ s.mono) → ∃ t : State,
              exec .probeTimeout s = .next t ∧ counted.probeIssued t p))
        ∧ (o.deadline ≤ s.mono → x.countCode + 1 ≤ x.probeIndex → ∃ t : State,
            exec .probeTimeout s = .next t ∧ counted.burstEnded t p)
        ∧ (o.deadline ≤ s.mono → x.countCode + 1 ≤ x.probeIndex → x.valid = 0 → x.remaining = 0 →
            ∃ t : State, exec .probeTimeout s = .next t ∧ t.sounding.state = .idle ∧ t.sounding.current = none
            ∧ t.sounding.outstanding = none ∧ (t.entry p).score = min 255 ((s.entry p).score + 64)
            ∧ (t.entry p).delay = (s.entry p).delay ∧ (t.entry p).stats = (counted.entry p).stats
            ∧ (∀ q, AttnSet.has (t.port q).pending .sweep = true)
            ∧ t.log.records.getLast? = some ⟨t.log.next - 1, s.time.tod, s.time.quality,
                .sound p .failed 0 (x.lost + 1) x.minimum (s.entry p).delay false⟩
            ∧ s.entriesBut t p ∧ s.sameParameters t ∧ s.portsRaised t ∧ s.routeOnly t))
    ∧ ((x.state ≠ .suspended ∨ x.reason ≠ some .fallback) → exec .settleDeadline s = .next s)
    ∧ (∀ d p, x.state = .suspended → x.reason = some .fallback → x.settleDeadline = some d → x.current = some p →
        (s.mono < d → exec .settleDeadline s = .next s)
        ∧ (d ≤ s.mono → x.probeIndex < x.countCode + 1 → ∀ t1, x.lastT1 = some t1 → s.mono < t1 + x.spacing * 1000 →
            exec .settleDeadline s = .next { s with sounding := { x with
              state := .running, reason := none, settleDeadline := none } }))
    ∧ (∀ d, x.state = .suspended → x.reason = some .fallback → x.settleDeadline = some d →
        let resumed : State := { s with
          sounding := { x with state := .running, reason := none, settleDeadline := none } }
        (x.current = none → s.mono < d → exec .settleDeadline s = .next s)
        ∧ (x.current = none → d ≤ s.mono → ∃ t : State, exec .settleDeadline s = .next t ∧ resumed.turnTaken t)
        ∧ (∀ p, x.current = some p → d ≤ s.mono → x.countCode + 1 ≤ x.probeIndex →
            ∃ t : State, exec .settleDeadline s = .next t ∧ resumed.burstEnded t p)
        ∧ (∀ p, x.current = some p → d ≤ s.mono → x.probeIndex < x.countCode + 1 →
            (∀ t1, x.lastT1 = some t1 → t1 + x.spacing * 1000 ≤ s.mono) → ∃ t : State,
            exec .settleDeadline s = .next t ∧ resumed.probeIssued t p))

/-- For every state whose path entries with their settings, statistics, transmit queues (32), delivery queue (64), log
(1,024 records with consecutive serials up to the next serial, each cursor between the oldest and the next serial), lost
counts, port counts, stream counts, intake malformed, stale echoes, clock values, marker skipped counts, capture FIFOs
(2), sweep minimum and the settings of link, selection, discipline, log, streams and sweep keep their bounds, the state
after a step does too. From every state whose sweep is in order (State.Swept, the invariant of SweptKept) the sweep's
valid and lost counts are at most 16 after a step. -/
def Obligations.BoundsKept : Prop :=
  (∀ s t : State, s.Bounded → step s = .next t → t.Bounded)
    ∧ ∀ s t : State, s.Swept → step s = .next t → t.sounding.valid ≤ 16 ∧ t.sounding.lost ≤ 16

/-- For every state in which each stream tracks exactly the sequences from its base to before its front, at most W of
them, an unsynchronized stream tracks none, an IMMEDIATE stream holds none and an ORDERED stream is divided at its
release point, the state after a step is so too. -/
def Obligations.WindowsKept : Prop :=
  ∀ s t : State, s.Windows → step s = .next t → t.Windows

/-- For every state in which the current path of a sweep is neither DISABLED nor FAILED, probes are pending or outstanding
only in a RUNNING burst and never both, the pending probe, with its tag and index, is the one its path's transmitter
holds and no other transmitter holds one, the suspend reason and settle deadline agree with the state, the probes
counted valid or lost with the one pending or outstanding are no more than the probes issued (at most 16), and the
valid minimum is absent exactly while the valid count is 0, the state after a step is so too. -/
def Obligations.SweptKept : Prop :=
  ∀ s t : State, s.Swept → step s = .next t → t.Swept

/-- The reset state is what pin reset leaves with site straps 0 and role straps SUPERVISOR, OPERATOR and GATEWAY on P0, P1
and P2 (the strap levels are the model's choice, log entry 7); it keeps its bounds, its route is settled, its windows
and its sweep are in order and no input waits. -/
def Obligations.ResetStateStartsWell : Prop :=
  (∀ s : State, exec (.pinReset 0 0 2 1) s = .next { State.reset with pending := s.pending })
    ∧ State.reset.Bounded ∧ State.reset.Routed ∧ State.reset.Windows ∧ State.reset.Swept ∧ State.reset.pending = []
end

