-- ==== Sys2Proof/Laws/State.lean ====
section
/-! SUPPORT. What each update of the state leaves and writes, field by field: all true by rfl but the reads of an updated
table. -/

namespace Sys2Proof.Machine

/-! ## modEntry -/

@[simp] theorem State.modEntry_time (s : State) (p : Path) (g : PathEntry → PathEntry) : (s.modEntry p g).time = s.time := rfl
@[simp] theorem State.modEntry_receivers (s : State) (p : Path) (g : PathEntry → PathEntry) : (s.modEntry p g).receivers = s.receivers := rfl
@[simp] theorem State.modEntry_transmitters (s : State) (p : Path) (g : PathEntry → PathEntry) : (s.modEntry p g).transmitters = s.transmitters := rfl
@[simp] theorem State.modEntry_peerSite (s : State) (p : Path) (g : PathEntry → PathEntry) : (s.modEntry p g).peerSite = s.peerSite := rfl
@[simp] theorem State.modEntry_beaconInterval (s : State) (p : Path) (g : PathEntry → PathEntry) : (s.modEntry p g).beaconInterval = s.beaconInterval := rfl
@[simp] theorem State.modEntry_selector (s : State) (p : Path) (g : PathEntry → PathEntry) : (s.modEntry p g).selector = s.selector := rfl
@[simp] theorem State.modEntry_rxStreams (s : State) (p : Path) (g : PathEntry → PathEntry) : (s.modEntry p g).rxStreams = s.rxStreams := rfl
@[simp] theorem State.modEntry_txStreams (s : State) (p : Path) (g : PathEntry → PathEntry) : (s.modEntry p g).txStreams = s.txStreams := rfl
@[simp] theorem State.modEntry_localPort (s : State) (p : Path) (g : PathEntry → PathEntry) : (s.modEntry p g).localPort = s.localPort := rfl
@[simp] theorem State.modEntry_sounding (s : State) (p : Path) (g : PathEntry → PathEntry) : (s.modEntry p g).sounding = s.sounding := rfl
@[simp] theorem State.modEntry_log (s : State) (p : Path) (g : PathEntry → PathEntry) : (s.modEntry p g).log = s.log := rfl
@[simp] theorem State.modEntry_ports (s : State) (p : Path) (g : PathEntry → PathEntry) : (s.modEntry p g).ports = s.ports := rfl
@[simp] theorem State.modEntry_siteId (s : State) (p : Path) (g : PathEntry → PathEntry) : (s.modEntry p g).siteId = s.siteId := rfl
@[simp] theorem State.modEntry_resetting (s : State) (p : Path) (g : PathEntry → PathEntry) : (s.modEntry p g).resetting = s.resetting := rfl
@[simp] theorem State.modEntry_pending (s : State) (p : Path) (g : PathEntry → PathEntry) : (s.modEntry p g).pending = s.pending := rfl
@[simp] theorem State.modEntry_receiver (s : State) (p : Path) (g : PathEntry → PathEntry) (q : Path) :
    (s.modEntry p g).receiver q = s.receiver q := rfl
@[simp] theorem State.modEntry_transmitter (s : State) (p : Path) (g : PathEntry → PathEntry) (q : Path) :
    (s.modEntry p g).transmitter q = s.transmitter q := rfl
@[simp] theorem State.modEntry_rxStream (s : State) (p : Path) (g : PathEntry → PathEntry) (j : StreamId) :
    (s.modEntry p g).rxStream j = s.rxStream j := rfl
@[simp] theorem State.modEntry_txStream (s : State) (p : Path) (g : PathEntry → PathEntry) (j : StreamId) :
    (s.modEntry p g).txStream j = s.txStream j := rfl
@[simp] theorem State.modEntry_port (s : State) (p : Path) (g : PathEntry → PathEntry) (q : Port) :
    (s.modEntry p g).port q = s.port q := rfl
@[simp] theorem State.modEntry_reader (s : State) (p : Path) (g : PathEntry → PathEntry) (q : Port) :
    (s.modEntry p g).reader q = s.reader q := rfl
@[simp] theorem State.modEntry_ref (s : State) (p : Path) (g : PathEntry → PathEntry) (r : Ref) :
    (s.modEntry p g).ref r = s.ref r := rfl
@[simp] theorem State.modEntry_channel (s : State) (p : Path) (g : PathEntry → PathEntry) (k : Channel) :
    (s.modEntry p g).channel k = s.channel k := rfl
@[simp] theorem State.modEntry_marker (s : State) (p : Path) (g : PathEntry → PathEntry) (o : Out) :
    (s.modEntry p g).marker o = s.marker o := rfl
@[simp] theorem State.modEntry_mono (s : State) (p : Path) (g : PathEntry → PathEntry) :
    (s.modEntry p g).mono = s.mono := rfl
@[simp] theorem State.modEntry_stamp (s : State) (p : Path) (g : PathEntry → PathEntry) :
    (s.modEntry p g).stamp = s.stamp := rfl

/-! ## modReceiver -/

@[simp] theorem State.modReceiver_time (s : State) (p : Path) (g : Receiver → Receiver) : (s.modReceiver p g).time = s.time := rfl
@[simp] theorem State.modReceiver_paths (s : State) (p : Path) (g : Receiver → Receiver) : (s.modReceiver p g).paths = s.paths := rfl
@[simp] theorem State.modReceiver_transmitters (s : State) (p : Path) (g : Receiver → Receiver) : (s.modReceiver p g).transmitters = s.transmitters := rfl
@[simp] theorem State.modReceiver_peerSite (s : State) (p : Path) (g : Receiver → Receiver) : (s.modReceiver p g).peerSite = s.peerSite := rfl
@[simp] theorem State.modReceiver_beaconInterval (s : State) (p : Path) (g : Receiver → Receiver) : (s.modReceiver p g).beaconInterval = s.beaconInterval := rfl
@[simp] theorem State.modReceiver_selector (s : State) (p : Path) (g : Receiver → Receiver) : (s.modReceiver p g).selector = s.selector := rfl
@[simp] theorem State.modReceiver_rxStreams (s : State) (p : Path) (g : Receiver → Receiver) : (s.modReceiver p g).rxStreams = s.rxStreams := rfl
@[simp] theorem State.modReceiver_txStreams (s : State) (p : Path) (g : Receiver → Receiver) : (s.modReceiver p g).txStreams = s.txStreams := rfl
@[simp] theorem State.modReceiver_localPort (s : State) (p : Path) (g : Receiver → Receiver) : (s.modReceiver p g).localPort = s.localPort := rfl
@[simp] theorem State.modReceiver_sounding (s : State) (p : Path) (g : Receiver → Receiver) : (s.modReceiver p g).sounding = s.sounding := rfl
@[simp] theorem State.modReceiver_log (s : State) (p : Path) (g : Receiver → Receiver) : (s.modReceiver p g).log = s.log := rfl
@[simp] theorem State.modReceiver_ports (s : State) (p : Path) (g : Receiver → Receiver) : (s.modReceiver p g).ports = s.ports := rfl
@[simp] theorem State.modReceiver_siteId (s : State) (p : Path) (g : Receiver → Receiver) : (s.modReceiver p g).siteId = s.siteId := rfl
@[simp] theorem State.modReceiver_resetting (s : State) (p : Path) (g : Receiver → Receiver) : (s.modReceiver p g).resetting = s.resetting := rfl
@[simp] theorem State.modReceiver_pending (s : State) (p : Path) (g : Receiver → Receiver) : (s.modReceiver p g).pending = s.pending := rfl
@[simp] theorem State.modReceiver_entry (s : State) (p : Path) (g : Receiver → Receiver) (q : Path) :
    (s.modReceiver p g).entry q = s.entry q := rfl
@[simp] theorem State.modReceiver_transmitter (s : State) (p : Path) (g : Receiver → Receiver) (q : Path) :
    (s.modReceiver p g).transmitter q = s.transmitter q := rfl
@[simp] theorem State.modReceiver_rxStream (s : State) (p : Path) (g : Receiver → Receiver) (j : StreamId) :
    (s.modReceiver p g).rxStream j = s.rxStream j := rfl
@[simp] theorem State.modReceiver_txStream (s : State) (p : Path) (g : Receiver → Receiver) (j : StreamId) :
    (s.modReceiver p g).txStream j = s.txStream j := rfl
@[simp] theorem State.modReceiver_port (s : State) (p : Path) (g : Receiver → Receiver) (q : Port) :
    (s.modReceiver p g).port q = s.port q := rfl
@[simp] theorem State.modReceiver_reader (s : State) (p : Path) (g : Receiver → Receiver) (q : Port) :
    (s.modReceiver p g).reader q = s.reader q := rfl
@[simp] theorem State.modReceiver_ref (s : State) (p : Path) (g : Receiver → Receiver) (r : Ref) :
    (s.modReceiver p g).ref r = s.ref r := rfl
@[simp] theorem State.modReceiver_channel (s : State) (p : Path) (g : Receiver → Receiver) (k : Channel) :
    (s.modReceiver p g).channel k = s.channel k := rfl
@[simp] theorem State.modReceiver_marker (s : State) (p : Path) (g : Receiver → Receiver) (o : Out) :
    (s.modReceiver p g).marker o = s.marker o := rfl
@[simp] theorem State.modReceiver_mono (s : State) (p : Path) (g : Receiver → Receiver) :
    (s.modReceiver p g).mono = s.mono := rfl
@[simp] theorem State.modReceiver_stamp (s : State) (p : Path) (g : Receiver → Receiver) :
    (s.modReceiver p g).stamp = s.stamp := rfl

/-! ## modTransmitter -/

@[simp] theorem State.modTransmitter_time (s : State) (p : Path) (g : Transmitter → Transmitter) : (s.modTransmitter p g).time = s.time := rfl
@[simp] theorem State.modTransmitter_paths (s : State) (p : Path) (g : Transmitter → Transmitter) : (s.modTransmitter p g).paths = s.paths := rfl
@[simp] theorem State.modTransmitter_receivers (s : State) (p : Path) (g : Transmitter → Transmitter) : (s.modTransmitter p g).receivers = s.receivers := rfl
@[simp] theorem State.modTransmitter_peerSite (s : State) (p : Path) (g : Transmitter → Transmitter) : (s.modTransmitter p g).peerSite = s.peerSite := rfl
@[simp] theorem State.modTransmitter_beaconInterval (s : State) (p : Path) (g : Transmitter → Transmitter) : (s.modTransmitter p g).beaconInterval = s.beaconInterval := rfl
@[simp] theorem State.modTransmitter_selector (s : State) (p : Path) (g : Transmitter → Transmitter) : (s.modTransmitter p g).selector = s.selector := rfl
@[simp] theorem State.modTransmitter_rxStreams (s : State) (p : Path) (g : Transmitter → Transmitter) : (s.modTransmitter p g).rxStreams = s.rxStreams := rfl
@[simp] theorem State.modTransmitter_txStreams (s : State) (p : Path) (g : Transmitter → Transmitter) : (s.modTransmitter p g).txStreams = s.txStreams := rfl
@[simp] theorem State.modTransmitter_localPort (s : State) (p : Path) (g : Transmitter → Transmitter) : (s.modTransmitter p g).localPort = s.localPort := rfl
@[simp] theorem State.modTransmitter_sounding (s : State) (p : Path) (g : Transmitter → Transmitter) : (s.modTransmitter p g).sounding = s.sounding := rfl
@[simp] theorem State.modTransmitter_log (s : State) (p : Path) (g : Transmitter → Transmitter) : (s.modTransmitter p g).log = s.log := rfl
@[simp] theorem State.modTransmitter_ports (s : State) (p : Path) (g : Transmitter → Transmitter) : (s.modTransmitter p g).ports = s.ports := rfl
@[simp] theorem State.modTransmitter_siteId (s : State) (p : Path) (g : Transmitter → Transmitter) : (s.modTransmitter p g).siteId = s.siteId := rfl
@[simp] theorem State.modTransmitter_resetting (s : State) (p : Path) (g : Transmitter → Transmitter) : (s.modTransmitter p g).resetting = s.resetting := rfl
@[simp] theorem State.modTransmitter_pending (s : State) (p : Path) (g : Transmitter → Transmitter) : (s.modTransmitter p g).pending = s.pending := rfl
@[simp] theorem State.modTransmitter_entry (s : State) (p : Path) (g : Transmitter → Transmitter) (q : Path) :
    (s.modTransmitter p g).entry q = s.entry q := rfl
@[simp] theorem State.modTransmitter_receiver (s : State) (p : Path) (g : Transmitter → Transmitter) (q : Path) :
    (s.modTransmitter p g).receiver q = s.receiver q := rfl
@[simp] theorem State.modTransmitter_rxStream (s : State) (p : Path) (g : Transmitter → Transmitter) (j : StreamId) :
    (s.modTransmitter p g).rxStream j = s.rxStream j := rfl
@[simp] theorem State.modTransmitter_txStream (s : State) (p : Path) (g : Transmitter → Transmitter) (j : StreamId) :
    (s.modTransmitter p g).txStream j = s.txStream j := rfl
@[simp] theorem State.modTransmitter_port (s : State) (p : Path) (g : Transmitter → Transmitter) (q : Port) :
    (s.modTransmitter p g).port q = s.port q := rfl
@[simp] theorem State.modTransmitter_reader (s : State) (p : Path) (g : Transmitter → Transmitter) (q : Port) :
    (s.modTransmitter p g).reader q = s.reader q := rfl
@[simp] theorem State.modTransmitter_ref (s : State) (p : Path) (g : Transmitter → Transmitter) (r : Ref) :
    (s.modTransmitter p g).ref r = s.ref r := rfl
@[simp] theorem State.modTransmitter_channel (s : State) (p : Path) (g : Transmitter → Transmitter) (k : Channel) :
    (s.modTransmitter p g).channel k = s.channel k := rfl
@[simp] theorem State.modTransmitter_marker (s : State) (p : Path) (g : Transmitter → Transmitter) (o : Out) :
    (s.modTransmitter p g).marker o = s.marker o := rfl
@[simp] theorem State.modTransmitter_mono (s : State) (p : Path) (g : Transmitter → Transmitter) :
    (s.modTransmitter p g).mono = s.mono := rfl
@[simp] theorem State.modTransmitter_stamp (s : State) (p : Path) (g : Transmitter → Transmitter) :
    (s.modTransmitter p g).stamp = s.stamp := rfl

/-! ## modRx -/

@[simp] theorem State.modRx_time (s : State) (i : StreamId) (g : RxStream → RxStream) : (s.modRx i g).time = s.time := rfl
@[simp] theorem State.modRx_paths (s : State) (i : StreamId) (g : RxStream → RxStream) : (s.modRx i g).paths = s.paths := rfl
@[simp] theorem State.modRx_receivers (s : State) (i : StreamId) (g : RxStream → RxStream) : (s.modRx i g).receivers = s.receivers := rfl
@[simp] theorem State.modRx_transmitters (s : State) (i : StreamId) (g : RxStream → RxStream) : (s.modRx i g).transmitters = s.transmitters := rfl
@[simp] theorem State.modRx_peerSite (s : State) (i : StreamId) (g : RxStream → RxStream) : (s.modRx i g).peerSite = s.peerSite := rfl
@[simp] theorem State.modRx_beaconInterval (s : State) (i : StreamId) (g : RxStream → RxStream) : (s.modRx i g).beaconInterval = s.beaconInterval := rfl
@[simp] theorem State.modRx_selector (s : State) (i : StreamId) (g : RxStream → RxStream) : (s.modRx i g).selector = s.selector := rfl
@[simp] theorem State.modRx_txStreams (s : State) (i : StreamId) (g : RxStream → RxStream) : (s.modRx i g).txStreams = s.txStreams := rfl
@[simp] theorem State.modRx_localPort (s : State) (i : StreamId) (g : RxStream → RxStream) : (s.modRx i g).localPort = s.localPort := rfl
@[simp] theorem State.modRx_sounding (s : State) (i : StreamId) (g : RxStream → RxStream) : (s.modRx i g).sounding = s.sounding := rfl
@[simp] theorem State.modRx_log (s : State) (i : StreamId) (g : RxStream → RxStream) : (s.modRx i g).log = s.log := rfl
@[simp] theorem State.modRx_ports (s : State) (i : StreamId) (g : RxStream → RxStream) : (s.modRx i g).ports = s.ports := rfl
@[simp] theorem State.modRx_siteId (s : State) (i : StreamId) (g : RxStream → RxStream) : (s.modRx i g).siteId = s.siteId := rfl
@[simp] theorem State.modRx_resetting (s : State) (i : StreamId) (g : RxStream → RxStream) : (s.modRx i g).resetting = s.resetting := rfl
@[simp] theorem State.modRx_pending (s : State) (i : StreamId) (g : RxStream → RxStream) : (s.modRx i g).pending = s.pending := rfl
@[simp] theorem State.modRx_entry (s : State) (i : StreamId) (g : RxStream → RxStream) (q : Path) :
    (s.modRx i g).entry q = s.entry q := rfl
@[simp] theorem State.modRx_receiver (s : State) (i : StreamId) (g : RxStream → RxStream) (q : Path) :
    (s.modRx i g).receiver q = s.receiver q := rfl
@[simp] theorem State.modRx_transmitter (s : State) (i : StreamId) (g : RxStream → RxStream) (q : Path) :
    (s.modRx i g).transmitter q = s.transmitter q := rfl
@[simp] theorem State.modRx_txStream (s : State) (i : StreamId) (g : RxStream → RxStream) (j : StreamId) :
    (s.modRx i g).txStream j = s.txStream j := rfl
@[simp] theorem State.modRx_port (s : State) (i : StreamId) (g : RxStream → RxStream) (q : Port) :
    (s.modRx i g).port q = s.port q := rfl
@[simp] theorem State.modRx_reader (s : State) (i : StreamId) (g : RxStream → RxStream) (q : Port) :
    (s.modRx i g).reader q = s.reader q := rfl
@[simp] theorem State.modRx_ref (s : State) (i : StreamId) (g : RxStream → RxStream) (r : Ref) :
    (s.modRx i g).ref r = s.ref r := rfl
@[simp] theorem State.modRx_channel (s : State) (i : StreamId) (g : RxStream → RxStream) (k : Channel) :
    (s.modRx i g).channel k = s.channel k := rfl
@[simp] theorem State.modRx_marker (s : State) (i : StreamId) (g : RxStream → RxStream) (o : Out) :
    (s.modRx i g).marker o = s.marker o := rfl
@[simp] theorem State.modRx_mono (s : State) (i : StreamId) (g : RxStream → RxStream) :
    (s.modRx i g).mono = s.mono := rfl
@[simp] theorem State.modRx_stamp (s : State) (i : StreamId) (g : RxStream → RxStream) :
    (s.modRx i g).stamp = s.stamp := rfl

/-! ## modTx -/

@[simp] theorem State.modTx_time (s : State) (i : StreamId) (g : TxStream → TxStream) : (s.modTx i g).time = s.time := rfl
@[simp] theorem State.modTx_paths (s : State) (i : StreamId) (g : TxStream → TxStream) : (s.modTx i g).paths = s.paths := rfl
@[simp] theorem State.modTx_receivers (s : State) (i : StreamId) (g : TxStream → TxStream) : (s.modTx i g).receivers = s.receivers := rfl
@[simp] theorem State.modTx_transmitters (s : State) (i : StreamId) (g : TxStream → TxStream) : (s.modTx i g).transmitters = s.transmitters := rfl
@[simp] theorem State.modTx_peerSite (s : State) (i : StreamId) (g : TxStream → TxStream) : (s.modTx i g).peerSite = s.peerSite := rfl
@[simp] theorem State.modTx_beaconInterval (s : State) (i : StreamId) (g : TxStream → TxStream) : (s.modTx i g).beaconInterval = s.beaconInterval := rfl
@[simp] theorem State.modTx_selector (s : State) (i : StreamId) (g : TxStream → TxStream) : (s.modTx i g).selector = s.selector := rfl
@[simp] theorem State.modTx_rxStreams (s : State) (i : StreamId) (g : TxStream → TxStream) : (s.modTx i g).rxStreams = s.rxStreams := rfl
@[simp] theorem State.modTx_localPort (s : State) (i : StreamId) (g : TxStream → TxStream) : (s.modTx i g).localPort = s.localPort := rfl
@[simp] theorem State.modTx_sounding (s : State) (i : StreamId) (g : TxStream → TxStream) : (s.modTx i g).sounding = s.sounding := rfl
@[simp] theorem State.modTx_log (s : State) (i : StreamId) (g : TxStream → TxStream) : (s.modTx i g).log = s.log := rfl
@[simp] theorem State.modTx_ports (s : State) (i : StreamId) (g : TxStream → TxStream) : (s.modTx i g).ports = s.ports := rfl
@[simp] theorem State.modTx_siteId (s : State) (i : StreamId) (g : TxStream → TxStream) : (s.modTx i g).siteId = s.siteId := rfl
@[simp] theorem State.modTx_resetting (s : State) (i : StreamId) (g : TxStream → TxStream) : (s.modTx i g).resetting = s.resetting := rfl
@[simp] theorem State.modTx_pending (s : State) (i : StreamId) (g : TxStream → TxStream) : (s.modTx i g).pending = s.pending := rfl
@[simp] theorem State.modTx_entry (s : State) (i : StreamId) (g : TxStream → TxStream) (q : Path) :
    (s.modTx i g).entry q = s.entry q := rfl
@[simp] theorem State.modTx_receiver (s : State) (i : StreamId) (g : TxStream → TxStream) (q : Path) :
    (s.modTx i g).receiver q = s.receiver q := rfl
@[simp] theorem State.modTx_transmitter (s : State) (i : StreamId) (g : TxStream → TxStream) (q : Path) :
    (s.modTx i g).transmitter q = s.transmitter q := rfl
@[simp] theorem State.modTx_rxStream (s : State) (i : StreamId) (g : TxStream → TxStream) (j : StreamId) :
    (s.modTx i g).rxStream j = s.rxStream j := rfl
@[simp] theorem State.modTx_port (s : State) (i : StreamId) (g : TxStream → TxStream) (q : Port) :
    (s.modTx i g).port q = s.port q := rfl
@[simp] theorem State.modTx_reader (s : State) (i : StreamId) (g : TxStream → TxStream) (q : Port) :
    (s.modTx i g).reader q = s.reader q := rfl
@[simp] theorem State.modTx_ref (s : State) (i : StreamId) (g : TxStream → TxStream) (r : Ref) :
    (s.modTx i g).ref r = s.ref r := rfl
@[simp] theorem State.modTx_channel (s : State) (i : StreamId) (g : TxStream → TxStream) (k : Channel) :
    (s.modTx i g).channel k = s.channel k := rfl
@[simp] theorem State.modTx_marker (s : State) (i : StreamId) (g : TxStream → TxStream) (o : Out) :
    (s.modTx i g).marker o = s.marker o := rfl
@[simp] theorem State.modTx_mono (s : State) (i : StreamId) (g : TxStream → TxStream) :
    (s.modTx i g).mono = s.mono := rfl
@[simp] theorem State.modTx_stamp (s : State) (i : StreamId) (g : TxStream → TxStream) :
    (s.modTx i g).stamp = s.stamp := rfl

/-! ## modPort -/

@[simp] theorem State.modPort_time (s : State) (p : Port) (g : PortCtx → PortCtx) : (s.modPort p g).time = s.time := rfl
@[simp] theorem State.modPort_paths (s : State) (p : Port) (g : PortCtx → PortCtx) : (s.modPort p g).paths = s.paths := rfl
@[simp] theorem State.modPort_receivers (s : State) (p : Port) (g : PortCtx → PortCtx) : (s.modPort p g).receivers = s.receivers := rfl
@[simp] theorem State.modPort_transmitters (s : State) (p : Port) (g : PortCtx → PortCtx) : (s.modPort p g).transmitters = s.transmitters := rfl
@[simp] theorem State.modPort_peerSite (s : State) (p : Port) (g : PortCtx → PortCtx) : (s.modPort p g).peerSite = s.peerSite := rfl
@[simp] theorem State.modPort_beaconInterval (s : State) (p : Port) (g : PortCtx → PortCtx) : (s.modPort p g).beaconInterval = s.beaconInterval := rfl
@[simp] theorem State.modPort_selector (s : State) (p : Port) (g : PortCtx → PortCtx) : (s.modPort p g).selector = s.selector := rfl
@[simp] theorem State.modPort_rxStreams (s : State) (p : Port) (g : PortCtx → PortCtx) : (s.modPort p g).rxStreams = s.rxStreams := rfl
@[simp] theorem State.modPort_txStreams (s : State) (p : Port) (g : PortCtx → PortCtx) : (s.modPort p g).txStreams = s.txStreams := rfl
@[simp] theorem State.modPort_localPort (s : State) (p : Port) (g : PortCtx → PortCtx) : (s.modPort p g).localPort = s.localPort := rfl
@[simp] theorem State.modPort_sounding (s : State) (p : Port) (g : PortCtx → PortCtx) : (s.modPort p g).sounding = s.sounding := rfl
@[simp] theorem State.modPort_log (s : State) (p : Port) (g : PortCtx → PortCtx) : (s.modPort p g).log = s.log := rfl
@[simp] theorem State.modPort_siteId (s : State) (p : Port) (g : PortCtx → PortCtx) : (s.modPort p g).siteId = s.siteId := rfl
@[simp] theorem State.modPort_resetting (s : State) (p : Port) (g : PortCtx → PortCtx) : (s.modPort p g).resetting = s.resetting := rfl
@[simp] theorem State.modPort_pending (s : State) (p : Port) (g : PortCtx → PortCtx) : (s.modPort p g).pending = s.pending := rfl
@[simp] theorem State.modPort_entry (s : State) (p : Port) (g : PortCtx → PortCtx) (q : Path) :
    (s.modPort p g).entry q = s.entry q := rfl
@[simp] theorem State.modPort_receiver (s : State) (p : Port) (g : PortCtx → PortCtx) (q : Path) :
    (s.modPort p g).receiver q = s.receiver q := rfl
@[simp] theorem State.modPort_transmitter (s : State) (p : Port) (g : PortCtx → PortCtx) (q : Path) :
    (s.modPort p g).transmitter q = s.transmitter q := rfl
@[simp] theorem State.modPort_rxStream (s : State) (p : Port) (g : PortCtx → PortCtx) (j : StreamId) :
    (s.modPort p g).rxStream j = s.rxStream j := rfl
@[simp] theorem State.modPort_txStream (s : State) (p : Port) (g : PortCtx → PortCtx) (j : StreamId) :
    (s.modPort p g).txStream j = s.txStream j := rfl
@[simp] theorem State.modPort_reader (s : State) (p : Port) (g : PortCtx → PortCtx) (q : Port) :
    (s.modPort p g).reader q = s.reader q := rfl
@[simp] theorem State.modPort_ref (s : State) (p : Port) (g : PortCtx → PortCtx) (r : Ref) :
    (s.modPort p g).ref r = s.ref r := rfl
@[simp] theorem State.modPort_channel (s : State) (p : Port) (g : PortCtx → PortCtx) (k : Channel) :
    (s.modPort p g).channel k = s.channel k := rfl
@[simp] theorem State.modPort_marker (s : State) (p : Port) (g : PortCtx → PortCtx) (o : Out) :
    (s.modPort p g).marker o = s.marker o := rfl
@[simp] theorem State.modPort_mono (s : State) (p : Port) (g : PortCtx → PortCtx) :
    (s.modPort p g).mono = s.mono := rfl
@[simp] theorem State.modPort_stamp (s : State) (p : Port) (g : PortCtx → PortCtx) :
    (s.modPort p g).stamp = s.stamp := rfl

/-! ## modLog -/

@[simp] theorem State.modLog_time (s : State) (g : Log → Log) : (s.modLog g).time = s.time := rfl
@[simp] theorem State.modLog_paths (s : State) (g : Log → Log) : (s.modLog g).paths = s.paths := rfl
@[simp] theorem State.modLog_receivers (s : State) (g : Log → Log) : (s.modLog g).receivers = s.receivers := rfl
@[simp] theorem State.modLog_transmitters (s : State) (g : Log → Log) : (s.modLog g).transmitters = s.transmitters := rfl
@[simp] theorem State.modLog_peerSite (s : State) (g : Log → Log) : (s.modLog g).peerSite = s.peerSite := rfl
@[simp] theorem State.modLog_beaconInterval (s : State) (g : Log → Log) : (s.modLog g).beaconInterval = s.beaconInterval := rfl
@[simp] theorem State.modLog_selector (s : State) (g : Log → Log) : (s.modLog g).selector = s.selector := rfl
@[simp] theorem State.modLog_rxStreams (s : State) (g : Log → Log) : (s.modLog g).rxStreams = s.rxStreams := rfl
@[simp] theorem State.modLog_txStreams (s : State) (g : Log → Log) : (s.modLog g).txStreams = s.txStreams := rfl
@[simp] theorem State.modLog_localPort (s : State) (g : Log → Log) : (s.modLog g).localPort = s.localPort := rfl
@[simp] theorem State.modLog_sounding (s : State) (g : Log → Log) : (s.modLog g).sounding = s.sounding := rfl
@[simp] theorem State.modLog_ports (s : State) (g : Log → Log) : (s.modLog g).ports = s.ports := rfl
@[simp] theorem State.modLog_siteId (s : State) (g : Log → Log) : (s.modLog g).siteId = s.siteId := rfl
@[simp] theorem State.modLog_resetting (s : State) (g : Log → Log) : (s.modLog g).resetting = s.resetting := rfl
@[simp] theorem State.modLog_pending (s : State) (g : Log → Log) : (s.modLog g).pending = s.pending := rfl
@[simp] theorem State.modLog_entry (s : State) (g : Log → Log) (q : Path) :
    (s.modLog g).entry q = s.entry q := rfl
@[simp] theorem State.modLog_receiver (s : State) (g : Log → Log) (q : Path) :
    (s.modLog g).receiver q = s.receiver q := rfl
@[simp] theorem State.modLog_transmitter (s : State) (g : Log → Log) (q : Path) :
    (s.modLog g).transmitter q = s.transmitter q := rfl
@[simp] theorem State.modLog_rxStream (s : State) (g : Log → Log) (j : StreamId) :
    (s.modLog g).rxStream j = s.rxStream j := rfl
@[simp] theorem State.modLog_txStream (s : State) (g : Log → Log) (j : StreamId) :
    (s.modLog g).txStream j = s.txStream j := rfl
@[simp] theorem State.modLog_port (s : State) (g : Log → Log) (q : Port) :
    (s.modLog g).port q = s.port q := rfl
@[simp] theorem State.modLog_ref (s : State) (g : Log → Log) (r : Ref) :
    (s.modLog g).ref r = s.ref r := rfl
@[simp] theorem State.modLog_channel (s : State) (g : Log → Log) (k : Channel) :
    (s.modLog g).channel k = s.channel k := rfl
@[simp] theorem State.modLog_marker (s : State) (g : Log → Log) (o : Out) :
    (s.modLog g).marker o = s.marker o := rfl
@[simp] theorem State.modLog_mono (s : State) (g : Log → Log) :
    (s.modLog g).mono = s.mono := rfl
@[simp] theorem State.modLog_stamp (s : State) (g : Log → Log) :
    (s.modLog g).stamp = s.stamp := rfl

/-! ## modReader -/

@[simp] theorem State.modReader_time (s : State) (p : Port) (g : ReadCtx → ReadCtx) : (s.modReader p g).time = s.time := rfl
@[simp] theorem State.modReader_paths (s : State) (p : Port) (g : ReadCtx → ReadCtx) : (s.modReader p g).paths = s.paths := rfl
@[simp] theorem State.modReader_receivers (s : State) (p : Port) (g : ReadCtx → ReadCtx) : (s.modReader p g).receivers = s.receivers := rfl
@[simp] theorem State.modReader_transmitters (s : State) (p : Port) (g : ReadCtx → ReadCtx) : (s.modReader p g).transmitters = s.transmitters := rfl
@[simp] theorem State.modReader_peerSite (s : State) (p : Port) (g : ReadCtx → ReadCtx) : (s.modReader p g).peerSite = s.peerSite := rfl
@[simp] theorem State.modReader_beaconInterval (s : State) (p : Port) (g : ReadCtx → ReadCtx) : (s.modReader p g).beaconInterval = s.beaconInterval := rfl
@[simp] theorem State.modReader_selector (s : State) (p : Port) (g : ReadCtx → ReadCtx) : (s.modReader p g).selector = s.selector := rfl
@[simp] theorem State.modReader_rxStreams (s : State) (p : Port) (g : ReadCtx → ReadCtx) : (s.modReader p g).rxStreams = s.rxStreams := rfl
@[simp] theorem State.modReader_txStreams (s : State) (p : Port) (g : ReadCtx → ReadCtx) : (s.modReader p g).txStreams = s.txStreams := rfl
@[simp] theorem State.modReader_localPort (s : State) (p : Port) (g : ReadCtx → ReadCtx) : (s.modReader p g).localPort = s.localPort := rfl
@[simp] theorem State.modReader_sounding (s : State) (p : Port) (g : ReadCtx → ReadCtx) : (s.modReader p g).sounding = s.sounding := rfl
@[simp] theorem State.modReader_ports (s : State) (p : Port) (g : ReadCtx → ReadCtx) : (s.modReader p g).ports = s.ports := rfl
@[simp] theorem State.modReader_siteId (s : State) (p : Port) (g : ReadCtx → ReadCtx) : (s.modReader p g).siteId = s.siteId := rfl
@[simp] theorem State.modReader_resetting (s : State) (p : Port) (g : ReadCtx → ReadCtx) : (s.modReader p g).resetting = s.resetting := rfl
@[simp] theorem State.modReader_pending (s : State) (p : Port) (g : ReadCtx → ReadCtx) : (s.modReader p g).pending = s.pending := rfl
@[simp] theorem State.modReader_entry (s : State) (p : Port) (g : ReadCtx → ReadCtx) (q : Path) :
    (s.modReader p g).entry q = s.entry q := rfl
@[simp] theorem State.modReader_receiver (s : State) (p : Port) (g : ReadCtx → ReadCtx) (q : Path) :
    (s.modReader p g).receiver q = s.receiver q := rfl
@[simp] theorem State.modReader_transmitter (s : State) (p : Port) (g : ReadCtx → ReadCtx) (q : Path) :
    (s.modReader p g).transmitter q = s.transmitter q := rfl
@[simp] theorem State.modReader_rxStream (s : State) (p : Port) (g : ReadCtx → ReadCtx) (j : StreamId) :
    (s.modReader p g).rxStream j = s.rxStream j := rfl
@[simp] theorem State.modReader_txStream (s : State) (p : Port) (g : ReadCtx → ReadCtx) (j : StreamId) :
    (s.modReader p g).txStream j = s.txStream j := rfl
@[simp] theorem State.modReader_port (s : State) (p : Port) (g : ReadCtx → ReadCtx) (q : Port) :
    (s.modReader p g).port q = s.port q := rfl
@[simp] theorem State.modReader_ref (s : State) (p : Port) (g : ReadCtx → ReadCtx) (r : Ref) :
    (s.modReader p g).ref r = s.ref r := rfl
@[simp] theorem State.modReader_channel (s : State) (p : Port) (g : ReadCtx → ReadCtx) (k : Channel) :
    (s.modReader p g).channel k = s.channel k := rfl
@[simp] theorem State.modReader_marker (s : State) (p : Port) (g : ReadCtx → ReadCtx) (o : Out) :
    (s.modReader p g).marker o = s.marker o := rfl
@[simp] theorem State.modReader_mono (s : State) (p : Port) (g : ReadCtx → ReadCtx) :
    (s.modReader p g).mono = s.mono := rfl
@[simp] theorem State.modReader_stamp (s : State) (p : Port) (g : ReadCtx → ReadCtx) :
    (s.modReader p g).stamp = s.stamp := rfl

/-! ## modTime -/

@[simp] theorem State.modTime_paths (s : State) (g : TimeUnit → TimeUnit) : (s.modTime g).paths = s.paths := rfl
@[simp] theorem State.modTime_receivers (s : State) (g : TimeUnit → TimeUnit) : (s.modTime g).receivers = s.receivers := rfl
@[simp] theorem State.modTime_transmitters (s : State) (g : TimeUnit → TimeUnit) : (s.modTime g).transmitters = s.transmitters := rfl
@[simp] theorem State.modTime_peerSite (s : State) (g : TimeUnit → TimeUnit) : (s.modTime g).peerSite = s.peerSite := rfl
@[simp] theorem State.modTime_beaconInterval (s : State) (g : TimeUnit → TimeUnit) : (s.modTime g).beaconInterval = s.beaconInterval := rfl
@[simp] theorem State.modTime_selector (s : State) (g : TimeUnit → TimeUnit) : (s.modTime g).selector = s.selector := rfl
@[simp] theorem State.modTime_rxStreams (s : State) (g : TimeUnit → TimeUnit) : (s.modTime g).rxStreams = s.rxStreams := rfl
@[simp] theorem State.modTime_txStreams (s : State) (g : TimeUnit → TimeUnit) : (s.modTime g).txStreams = s.txStreams := rfl
@[simp] theorem State.modTime_localPort (s : State) (g : TimeUnit → TimeUnit) : (s.modTime g).localPort = s.localPort := rfl
@[simp] theorem State.modTime_sounding (s : State) (g : TimeUnit → TimeUnit) : (s.modTime g).sounding = s.sounding := rfl
@[simp] theorem State.modTime_log (s : State) (g : TimeUnit → TimeUnit) : (s.modTime g).log = s.log := rfl
@[simp] theorem State.modTime_ports (s : State) (g : TimeUnit → TimeUnit) : (s.modTime g).ports = s.ports := rfl
@[simp] theorem State.modTime_siteId (s : State) (g : TimeUnit → TimeUnit) : (s.modTime g).siteId = s.siteId := rfl
@[simp] theorem State.modTime_resetting (s : State) (g : TimeUnit → TimeUnit) : (s.modTime g).resetting = s.resetting := rfl
@[simp] theorem State.modTime_pending (s : State) (g : TimeUnit → TimeUnit) : (s.modTime g).pending = s.pending := rfl
@[simp] theorem State.modTime_entry (s : State) (g : TimeUnit → TimeUnit) (q : Path) :
    (s.modTime g).entry q = s.entry q := rfl
@[simp] theorem State.modTime_receiver (s : State) (g : TimeUnit → TimeUnit) (q : Path) :
    (s.modTime g).receiver q = s.receiver q := rfl
@[simp] theorem State.modTime_transmitter (s : State) (g : TimeUnit → TimeUnit) (q : Path) :
    (s.modTime g).transmitter q = s.transmitter q := rfl
@[simp] theorem State.modTime_rxStream (s : State) (g : TimeUnit → TimeUnit) (j : StreamId) :
    (s.modTime g).rxStream j = s.rxStream j := rfl
@[simp] theorem State.modTime_txStream (s : State) (g : TimeUnit → TimeUnit) (j : StreamId) :
    (s.modTime g).txStream j = s.txStream j := rfl
@[simp] theorem State.modTime_port (s : State) (g : TimeUnit → TimeUnit) (q : Port) :
    (s.modTime g).port q = s.port q := rfl
@[simp] theorem State.modTime_reader (s : State) (g : TimeUnit → TimeUnit) (q : Port) :
    (s.modTime g).reader q = s.reader q := rfl

/-! ## modSounding -/

@[simp] theorem State.modSounding_time (s : State) (g : Sounding → Sounding) : (s.modSounding g).time = s.time := rfl
@[simp] theorem State.modSounding_paths (s : State) (g : Sounding → Sounding) : (s.modSounding g).paths = s.paths := rfl
@[simp] theorem State.modSounding_receivers (s : State) (g : Sounding → Sounding) : (s.modSounding g).receivers = s.receivers := rfl
@[simp] theorem State.modSounding_transmitters (s : State) (g : Sounding → Sounding) : (s.modSounding g).transmitters = s.transmitters := rfl
@[simp] theorem State.modSounding_peerSite (s : State) (g : Sounding → Sounding) : (s.modSounding g).peerSite = s.peerSite := rfl
@[simp] theorem State.modSounding_beaconInterval (s : State) (g : Sounding → Sounding) : (s.modSounding g).beaconInterval = s.beaconInterval := rfl
@[simp] theorem State.modSounding_selector (s : State) (g : Sounding → Sounding) : (s.modSounding g).selector = s.selector := rfl
@[simp] theorem State.modSounding_rxStreams (s : State) (g : Sounding → Sounding) : (s.modSounding g).rxStreams = s.rxStreams := rfl
@[simp] theorem State.modSounding_txStreams (s : State) (g : Sounding → Sounding) : (s.modSounding g).txStreams = s.txStreams := rfl
@[simp] theorem State.modSounding_localPort (s : State) (g : Sounding → Sounding) : (s.modSounding g).localPort = s.localPort := rfl
@[simp] theorem State.modSounding_log (s : State) (g : Sounding → Sounding) : (s.modSounding g).log = s.log := rfl
@[simp] theorem State.modSounding_ports (s : State) (g : Sounding → Sounding) : (s.modSounding g).ports = s.ports := rfl
@[simp] theorem State.modSounding_siteId (s : State) (g : Sounding → Sounding) : (s.modSounding g).siteId = s.siteId := rfl
@[simp] theorem State.modSounding_resetting (s : State) (g : Sounding → Sounding) : (s.modSounding g).resetting = s.resetting := rfl
@[simp] theorem State.modSounding_pending (s : State) (g : Sounding → Sounding) : (s.modSounding g).pending = s.pending := rfl
@[simp] theorem State.modSounding_entry (s : State) (g : Sounding → Sounding) (q : Path) :
    (s.modSounding g).entry q = s.entry q := rfl
@[simp] theorem State.modSounding_receiver (s : State) (g : Sounding → Sounding) (q : Path) :
    (s.modSounding g).receiver q = s.receiver q := rfl
@[simp] theorem State.modSounding_transmitter (s : State) (g : Sounding → Sounding) (q : Path) :
    (s.modSounding g).transmitter q = s.transmitter q := rfl
@[simp] theorem State.modSounding_rxStream (s : State) (g : Sounding → Sounding) (j : StreamId) :
    (s.modSounding g).rxStream j = s.rxStream j := rfl
@[simp] theorem State.modSounding_txStream (s : State) (g : Sounding → Sounding) (j : StreamId) :
    (s.modSounding g).txStream j = s.txStream j := rfl
@[simp] theorem State.modSounding_port (s : State) (g : Sounding → Sounding) (q : Port) :
    (s.modSounding g).port q = s.port q := rfl
@[simp] theorem State.modSounding_reader (s : State) (g : Sounding → Sounding) (q : Port) :
    (s.modSounding g).reader q = s.reader q := rfl
@[simp] theorem State.modSounding_ref (s : State) (g : Sounding → Sounding) (r : Ref) :
    (s.modSounding g).ref r = s.ref r := rfl
@[simp] theorem State.modSounding_channel (s : State) (g : Sounding → Sounding) (k : Channel) :
    (s.modSounding g).channel k = s.channel k := rfl
@[simp] theorem State.modSounding_marker (s : State) (g : Sounding → Sounding) (o : Out) :
    (s.modSounding g).marker o = s.marker o := rfl
@[simp] theorem State.modSounding_mono (s : State) (g : Sounding → Sounding) :
    (s.modSounding g).mono = s.mono := rfl
@[simp] theorem State.modSounding_stamp (s : State) (g : Sounding → Sounding) :
    (s.modSounding g).stamp = s.stamp := rfl

/-! ## modSelector -/

@[simp] theorem State.modSelector_time (s : State) (g : Selector → Selector) : (s.modSelector g).time = s.time := rfl
@[simp] theorem State.modSelector_paths (s : State) (g : Selector → Selector) : (s.modSelector g).paths = s.paths := rfl
@[simp] theorem State.modSelector_receivers (s : State) (g : Selector → Selector) : (s.modSelector g).receivers = s.receivers := rfl
@[simp] theorem State.modSelector_transmitters (s : State) (g : Selector → Selector) : (s.modSelector g).transmitters = s.transmitters := rfl
@[simp] theorem State.modSelector_peerSite (s : State) (g : Selector → Selector) : (s.modSelector g).peerSite = s.peerSite := rfl
@[simp] theorem State.modSelector_beaconInterval (s : State) (g : Selector → Selector) : (s.modSelector g).beaconInterval = s.beaconInterval := rfl
@[simp] theorem State.modSelector_rxStreams (s : State) (g : Selector → Selector) : (s.modSelector g).rxStreams = s.rxStreams := rfl
@[simp] theorem State.modSelector_txStreams (s : State) (g : Selector → Selector) : (s.modSelector g).txStreams = s.txStreams := rfl
@[simp] theorem State.modSelector_localPort (s : State) (g : Selector → Selector) : (s.modSelector g).localPort = s.localPort := rfl
@[simp] theorem State.modSelector_sounding (s : State) (g : Selector → Selector) : (s.modSelector g).sounding = s.sounding := rfl
@[simp] theorem State.modSelector_log (s : State) (g : Selector → Selector) : (s.modSelector g).log = s.log := rfl
@[simp] theorem State.modSelector_ports (s : State) (g : Selector → Selector) : (s.modSelector g).ports = s.ports := rfl
@[simp] theorem State.modSelector_siteId (s : State) (g : Selector → Selector) : (s.modSelector g).siteId = s.siteId := rfl
@[simp] theorem State.modSelector_resetting (s : State) (g : Selector → Selector) : (s.modSelector g).resetting = s.resetting := rfl
@[simp] theorem State.modSelector_pending (s : State) (g : Selector → Selector) : (s.modSelector g).pending = s.pending := rfl
@[simp] theorem State.modSelector_entry (s : State) (g : Selector → Selector) (q : Path) :
    (s.modSelector g).entry q = s.entry q := rfl
@[simp] theorem State.modSelector_receiver (s : State) (g : Selector → Selector) (q : Path) :
    (s.modSelector g).receiver q = s.receiver q := rfl
@[simp] theorem State.modSelector_transmitter (s : State) (g : Selector → Selector) (q : Path) :
    (s.modSelector g).transmitter q = s.transmitter q := rfl
@[simp] theorem State.modSelector_rxStream (s : State) (g : Selector → Selector) (j : StreamId) :
    (s.modSelector g).rxStream j = s.rxStream j := rfl
@[simp] theorem State.modSelector_txStream (s : State) (g : Selector → Selector) (j : StreamId) :
    (s.modSelector g).txStream j = s.txStream j := rfl
@[simp] theorem State.modSelector_port (s : State) (g : Selector → Selector) (q : Port) :
    (s.modSelector g).port q = s.port q := rfl
@[simp] theorem State.modSelector_reader (s : State) (g : Selector → Selector) (q : Port) :
    (s.modSelector g).reader q = s.reader q := rfl
@[simp] theorem State.modSelector_ref (s : State) (g : Selector → Selector) (r : Ref) :
    (s.modSelector g).ref r = s.ref r := rfl
@[simp] theorem State.modSelector_channel (s : State) (g : Selector → Selector) (k : Channel) :
    (s.modSelector g).channel k = s.channel k := rfl
@[simp] theorem State.modSelector_marker (s : State) (g : Selector → Selector) (o : Out) :
    (s.modSelector g).marker o = s.marker o := rfl
@[simp] theorem State.modSelector_mono (s : State) (g : Selector → Selector) :
    (s.modSelector g).mono = s.mono := rfl
@[simp] theorem State.modSelector_stamp (s : State) (g : Selector → Selector) :
    (s.modSelector g).stamp = s.stamp := rfl

/-! ## modLocal -/

@[simp] theorem State.modLocal_time (s : State) (g : LocalPort → LocalPort) : (s.modLocal g).time = s.time := rfl
@[simp] theorem State.modLocal_paths (s : State) (g : LocalPort → LocalPort) : (s.modLocal g).paths = s.paths := rfl
@[simp] theorem State.modLocal_receivers (s : State) (g : LocalPort → LocalPort) : (s.modLocal g).receivers = s.receivers := rfl
@[simp] theorem State.modLocal_transmitters (s : State) (g : LocalPort → LocalPort) : (s.modLocal g).transmitters = s.transmitters := rfl
@[simp] theorem State.modLocal_peerSite (s : State) (g : LocalPort → LocalPort) : (s.modLocal g).peerSite = s.peerSite := rfl
@[simp] theorem State.modLocal_beaconInterval (s : State) (g : LocalPort → LocalPort) : (s.modLocal g).beaconInterval = s.beaconInterval := rfl
@[simp] theorem State.modLocal_selector (s : State) (g : LocalPort → LocalPort) : (s.modLocal g).selector = s.selector := rfl
@[simp] theorem State.modLocal_rxStreams (s : State) (g : LocalPort → LocalPort) : (s.modLocal g).rxStreams = s.rxStreams := rfl
@[simp] theorem State.modLocal_txStreams (s : State) (g : LocalPort → LocalPort) : (s.modLocal g).txStreams = s.txStreams := rfl
@[simp] theorem State.modLocal_sounding (s : State) (g : LocalPort → LocalPort) : (s.modLocal g).sounding = s.sounding := rfl
@[simp] theorem State.modLocal_log (s : State) (g : LocalPort → LocalPort) : (s.modLocal g).log = s.log := rfl
@[simp] theorem State.modLocal_ports (s : State) (g : LocalPort → LocalPort) : (s.modLocal g).ports = s.ports := rfl
@[simp] theorem State.modLocal_siteId (s : State) (g : LocalPort → LocalPort) : (s.modLocal g).siteId = s.siteId := rfl
@[simp] theorem State.modLocal_resetting (s : State) (g : LocalPort → LocalPort) : (s.modLocal g).resetting = s.resetting := rfl
@[simp] theorem State.modLocal_pending (s : State) (g : LocalPort → LocalPort) : (s.modLocal g).pending = s.pending := rfl
@[simp] theorem State.modLocal_entry (s : State) (g : LocalPort → LocalPort) (q : Path) :
    (s.modLocal g).entry q = s.entry q := rfl
@[simp] theorem State.modLocal_receiver (s : State) (g : LocalPort → LocalPort) (q : Path) :
    (s.modLocal g).receiver q = s.receiver q := rfl
@[simp] theorem State.modLocal_transmitter (s : State) (g : LocalPort → LocalPort) (q : Path) :
    (s.modLocal g).transmitter q = s.transmitter q := rfl
@[simp] theorem State.modLocal_rxStream (s : State) (g : LocalPort → LocalPort) (j : StreamId) :
    (s.modLocal g).rxStream j = s.rxStream j := rfl
@[simp] theorem State.modLocal_txStream (s : State) (g : LocalPort → LocalPort) (j : StreamId) :
    (s.modLocal g).txStream j = s.txStream j := rfl
@[simp] theorem State.modLocal_port (s : State) (g : LocalPort → LocalPort) (q : Port) :
    (s.modLocal g).port q = s.port q := rfl
@[simp] theorem State.modLocal_reader (s : State) (g : LocalPort → LocalPort) (q : Port) :
    (s.modLocal g).reader q = s.reader q := rfl
@[simp] theorem State.modLocal_ref (s : State) (g : LocalPort → LocalPort) (r : Ref) :
    (s.modLocal g).ref r = s.ref r := rfl
@[simp] theorem State.modLocal_channel (s : State) (g : LocalPort → LocalPort) (k : Channel) :
    (s.modLocal g).channel k = s.channel k := rfl
@[simp] theorem State.modLocal_marker (s : State) (g : LocalPort → LocalPort) (o : Out) :
    (s.modLocal g).marker o = s.marker o := rfl
@[simp] theorem State.modLocal_mono (s : State) (g : LocalPort → LocalPort) :
    (s.modLocal g).mono = s.mono := rfl
@[simp] theorem State.modLocal_stamp (s : State) (g : LocalPort → LocalPort) :
    (s.modLocal g).stamp = s.stamp := rfl

/-! ## modStats -/

@[simp] theorem State.modStats_time (s : State) (p : Path) (g : Stats → Stats) : (s.modStats p g).time = s.time := rfl
@[simp] theorem State.modStats_receivers (s : State) (p : Path) (g : Stats → Stats) : (s.modStats p g).receivers = s.receivers := rfl
@[simp] theorem State.modStats_transmitters (s : State) (p : Path) (g : Stats → Stats) : (s.modStats p g).transmitters = s.transmitters := rfl
@[simp] theorem State.modStats_peerSite (s : State) (p : Path) (g : Stats → Stats) : (s.modStats p g).peerSite = s.peerSite := rfl
@[simp] theorem State.modStats_beaconInterval (s : State) (p : Path) (g : Stats → Stats) : (s.modStats p g).beaconInterval = s.beaconInterval := rfl
@[simp] theorem State.modStats_selector (s : State) (p : Path) (g : Stats → Stats) : (s.modStats p g).selector = s.selector := rfl
@[simp] theorem State.modStats_rxStreams (s : State) (p : Path) (g : Stats → Stats) : (s.modStats p g).rxStreams = s.rxStreams := rfl
@[simp] theorem State.modStats_txStreams (s : State) (p : Path) (g : Stats → Stats) : (s.modStats p g).txStreams = s.txStreams := rfl
@[simp] theorem State.modStats_localPort (s : State) (p : Path) (g : Stats → Stats) : (s.modStats p g).localPort = s.localPort := rfl
@[simp] theorem State.modStats_sounding (s : State) (p : Path) (g : Stats → Stats) : (s.modStats p g).sounding = s.sounding := rfl
@[simp] theorem State.modStats_log (s : State) (p : Path) (g : Stats → Stats) : (s.modStats p g).log = s.log := rfl
@[simp] theorem State.modStats_ports (s : State) (p : Path) (g : Stats → Stats) : (s.modStats p g).ports = s.ports := rfl
@[simp] theorem State.modStats_siteId (s : State) (p : Path) (g : Stats → Stats) : (s.modStats p g).siteId = s.siteId := rfl
@[simp] theorem State.modStats_resetting (s : State) (p : Path) (g : Stats → Stats) : (s.modStats p g).resetting = s.resetting := rfl
@[simp] theorem State.modStats_pending (s : State) (p : Path) (g : Stats → Stats) : (s.modStats p g).pending = s.pending := rfl
@[simp] theorem State.modStats_receiver (s : State) (p : Path) (g : Stats → Stats) (q : Path) :
    (s.modStats p g).receiver q = s.receiver q := rfl
@[simp] theorem State.modStats_transmitter (s : State) (p : Path) (g : Stats → Stats) (q : Path) :
    (s.modStats p g).transmitter q = s.transmitter q := rfl
@[simp] theorem State.modStats_rxStream (s : State) (p : Path) (g : Stats → Stats) (j : StreamId) :
    (s.modStats p g).rxStream j = s.rxStream j := rfl
@[simp] theorem State.modStats_txStream (s : State) (p : Path) (g : Stats → Stats) (j : StreamId) :
    (s.modStats p g).txStream j = s.txStream j := rfl
@[simp] theorem State.modStats_port (s : State) (p : Path) (g : Stats → Stats) (q : Port) :
    (s.modStats p g).port q = s.port q := rfl
@[simp] theorem State.modStats_reader (s : State) (p : Path) (g : Stats → Stats) (q : Port) :
    (s.modStats p g).reader q = s.reader q := rfl
@[simp] theorem State.modStats_ref (s : State) (p : Path) (g : Stats → Stats) (r : Ref) :
    (s.modStats p g).ref r = s.ref r := rfl
@[simp] theorem State.modStats_channel (s : State) (p : Path) (g : Stats → Stats) (k : Channel) :
    (s.modStats p g).channel k = s.channel k := rfl
@[simp] theorem State.modStats_marker (s : State) (p : Path) (g : Stats → Stats) (o : Out) :
    (s.modStats p g).marker o = s.marker o := rfl
@[simp] theorem State.modStats_mono (s : State) (p : Path) (g : Stats → Stats) :
    (s.modStats p g).mono = s.mono := rfl
@[simp] theorem State.modStats_stamp (s : State) (p : Path) (g : Stats → Stats) :
    (s.modStats p g).stamp = s.stamp := rfl

/-! ## The whole-field updates -/

@[simp] theorem State.modLog_log (s : State) (g : Log → Log) : (s.modLog g).log = g s.log := rfl
@[simp] theorem State.modTime_time (s : State) (g : TimeUnit → TimeUnit) : (s.modTime g).time = g s.time := rfl
@[simp] theorem State.modSounding_sounding (s : State) (g : Sounding → Sounding) :
    (s.modSounding g).sounding = g s.sounding := rfl
@[simp] theorem State.modSelector_selector (s : State) (g : Selector → Selector) :
    (s.modSelector g).selector = g s.selector := rfl
@[simp] theorem State.modLocal_localPort (s : State) (g : LocalPort → LocalPort) :
    (s.modLocal g).localPort = g s.localPort := rfl
@[simp] theorem State.modReader_records (s : State) (p : Port) (g : ReadCtx → ReadCtx) :
    (s.modReader p g).log.records = s.log.records := rfl
@[simp] theorem State.modReader_next (s : State) (p : Port) (g : ReadCtx → ReadCtx) :
    (s.modReader p g).log.next = s.log.next := rfl

/-! ## Reading an updated table -/

theorem Path.idx_inj {p q : Path} : p.idx = q.idx ↔ p = q := by cases p <;> cases q <;> decide
theorem Port.idx_inj {p q : Port} : p.idx = q.idx ↔ p = q := by cases p <;> cases q <;> decide

theorem Path.idx_val_ne {p q : Path} (h : q ≠ p) : p.idx.val ≠ q.idx.val := by
  intro e; exact h (Path.idx_inj.mp (Fin.ext e)).symm
theorem Port.idx_val_ne {p q : Port} (h : q ≠ p) : p.idx.val ≠ q.idx.val := by
  intro e; exact h (Port.idx_inj.mp (Fin.ext e)).symm

@[simp] theorem State.modEntry_entry_self (s : State) (p : Path) (g : PathEntry → PathEntry) : (s.modEntry p g).entry p = g (s.entry p) := by
  simp [State.entry, State.modEntry]
@[simp] theorem State.modEntry_entry_ne (s : State) (p : Path) (g : PathEntry → PathEntry) {q : Path} (h : q ≠ p) : (s.modEntry p g).entry q = s.entry q := by
  simp [State.entry, State.modEntry, Vector.getElem_set_ne _ _ (Path.idx_val_ne h)]
theorem State.modEntry_entry (s : State) (p : Path) (g : PathEntry → PathEntry) (q : Path) :
    (s.modEntry p g).entry q = if q = p then g (s.entry p) else s.entry q := by
  by_cases h : q = p
  · subst h; simp
  · simp [h]

@[simp] theorem State.modReceiver_receiver_self (s : State) (p : Path) (g : Receiver → Receiver) : (s.modReceiver p g).receiver p = g (s.receiver p) := by
  simp [State.receiver, State.modReceiver]
@[simp] theorem State.modReceiver_receiver_ne (s : State) (p : Path) (g : Receiver → Receiver) {q : Path} (h : q ≠ p) : (s.modReceiver p g).receiver q = s.receiver q := by
  simp [State.receiver, State.modReceiver, Vector.getElem_set_ne _ _ (Path.idx_val_ne h)]
theorem State.modReceiver_receiver (s : State) (p : Path) (g : Receiver → Receiver) (q : Path) :
    (s.modReceiver p g).receiver q = if q = p then g (s.receiver p) else s.receiver q := by
  by_cases h : q = p
  · subst h; simp
  · simp [h]

@[simp] theorem State.modTransmitter_transmitter_self (s : State) (p : Path) (g : Transmitter → Transmitter) : (s.modTransmitter p g).transmitter p = g (s.transmitter p) := by
  simp [State.transmitter, State.modTransmitter]
@[simp] theorem State.modTransmitter_transmitter_ne (s : State) (p : Path) (g : Transmitter → Transmitter) {q : Path} (h : q ≠ p) : (s.modTransmitter p g).transmitter q = s.transmitter q := by
  simp [State.transmitter, State.modTransmitter, Vector.getElem_set_ne _ _ (Path.idx_val_ne h)]
theorem State.modTransmitter_transmitter (s : State) (p : Path) (g : Transmitter → Transmitter) (q : Path) :
    (s.modTransmitter p g).transmitter q = if q = p then g (s.transmitter p) else s.transmitter q := by
  by_cases h : q = p
  · subst h; simp
  · simp [h]

@[simp] theorem State.modPort_port_self (s : State) (p : Port) (g : PortCtx → PortCtx) : (s.modPort p g).port p = g (s.port p) := by
  simp [State.port, State.modPort]
@[simp] theorem State.modPort_port_ne (s : State) (p : Port) (g : PortCtx → PortCtx) {q : Port} (h : q ≠ p) : (s.modPort p g).port q = s.port q := by
  simp [State.port, State.modPort, Vector.getElem_set_ne _ _ (Port.idx_val_ne h)]
theorem State.modPort_port (s : State) (p : Port) (g : PortCtx → PortCtx) (q : Port) :
    (s.modPort p g).port q = if q = p then g (s.port p) else s.port q := by
  by_cases h : q = p
  · subst h; simp
  · simp [h]

@[simp] theorem State.modReader_reader_self (s : State) (p : Port) (g : ReadCtx → ReadCtx) : (s.modReader p g).reader p = g (s.reader p) := by
  simp [State.reader, State.modReader]
@[simp] theorem State.modReader_reader_ne (s : State) (p : Port) (g : ReadCtx → ReadCtx) {q : Port} (h : q ≠ p) : (s.modReader p g).reader q = s.reader q := by
  simp [State.reader, State.modReader, Vector.getElem_set_ne _ _ (Port.idx_val_ne h)]
theorem State.modReader_reader (s : State) (p : Port) (g : ReadCtx → ReadCtx) (q : Port) :
    (s.modReader p g).reader q = if q = p then g (s.reader p) else s.reader q := by
  by_cases h : q = p
  · subst h; simp
  · simp [h]

@[simp] theorem State.modRx_rxStream_self (s : State) (i : StreamId) (g : RxStream → RxStream) : (s.modRx i g).rxStream i = g (s.rxStream i) := by
  simp [State.rxStream, State.modRx]
@[simp] theorem State.modRx_rxStream_ne (s : State) (i : StreamId) (g : RxStream → RxStream) {j : StreamId} (h : j ≠ i) : (s.modRx i g).rxStream j = s.rxStream j := by
  have h' : i.val ≠ j.val := fun e => h (Fin.ext e.symm)
  simp [State.rxStream, State.modRx, Vector.getElem_set_ne _ _ h']
theorem State.modRx_rxStream (s : State) (i : StreamId) (g : RxStream → RxStream) (j : StreamId) :
    (s.modRx i g).rxStream j = if j = i then g (s.rxStream i) else s.rxStream j := by
  by_cases h : j = i
  · subst h; simp
  · simp [h]

@[simp] theorem State.modTx_txStream_self (s : State) (i : StreamId) (g : TxStream → TxStream) : (s.modTx i g).txStream i = g (s.txStream i) := by
  simp [State.txStream, State.modTx]
@[simp] theorem State.modTx_txStream_ne (s : State) (i : StreamId) (g : TxStream → TxStream) {j : StreamId} (h : j ≠ i) : (s.modTx i g).txStream j = s.txStream j := by
  have h' : i.val ≠ j.val := fun e => h (Fin.ext e.symm)
  simp [State.txStream, State.modTx, Vector.getElem_set_ne _ _ h']
theorem State.modTx_txStream (s : State) (i : StreamId) (g : TxStream → TxStream) (j : StreamId) :
    (s.modTx i g).txStream j = if j = i then g (s.txStream i) else s.txStream j := by
  by_cases h : j = i
  · subst h; simp
  · simp [h]

theorem State.modStats_entry (s : State) (p : Path) (g : Stats → Stats) (q : Path) :
    (s.modStats p g).entry q = if q = p then { s.entry p with stats := g (s.entry p).stats } else s.entry q :=
  State.modEntry_entry s p _ q
@[simp] theorem State.modStats_entry_self (s : State) (p : Path) (g : Stats → Stats) :
    (s.modStats p g).entry p = { s.entry p with stats := g (s.entry p).stats } := State.modEntry_entry_self s p _
@[simp] theorem State.modStats_entry_ne (s : State) (p : Path) (g : Stats → Stats) {q : Path} (h : q ≠ p) :
    (s.modStats p g).entry q = s.entry q := State.modEntry_entry_ne s p _ h

/-! ## A table as its rows -/

theorem State.paths_ext {s t : State} (h : ∀ p, t.entry p = s.entry p) : t.paths = s.paths := by
  apply Vector.ext
  intro k hk
  rcases k with _ | _ | _ | _ | _ | k
  · exact h .a
  · exact h .b
  · exact h .c
  · exact h .d
  · exact h .f
  · omega

theorem State.ports_ext {s t : State} (h : ∀ p, t.port p = s.port p) : t.ports = s.ports := by
  apply Vector.ext
  intro k hk
  rcases k with _ | _ | _ | k
  · exact h .p0
  · exact h .p1
  · exact h .p2
  · omega

end Sys2Proof.Machine
end

