-- ==== Sys2Proof/Laws/Ports.lean ====
section
/-! SUPPORT. What a transaction can do, check by check, and what raising attention leaves: one lemma per outcome. -/

namespace Sys2Proof.Machine

/-! ## The checks of a command that changes state (R161, R164) -/

/-- The port's own step of a transaction leaves every other field. -/
@[simp] theorem State.beginTransaction_port (s : State) (p : Port) :
    (s.beginTransaction p).port p = { s.port p with statusOut := s.statusByte p, reading := none, response := [] } :=
  State.modPort_port_self s p _

theorem State.beginTransaction_port_ne (s : State) (p : Port) {q : Port} (h : q ≠ p) :
    (s.beginTransaction p).port q = s.port q := State.modPort_port_ne s p _ h

@[simp] theorem State.beginTransaction_resetting (s : State) (p : Port) :
    (s.beginTransaction p).resetting = s.resetting := rfl

/-- Two updates of one port are one update. -/
theorem State.modPort_modPort (s : State) (p : Port) (f g : PortCtx → PortCtx) :
    (s.modPort p f).modPort p g = s.modPort p (fun c => g (f c)) := by
  simp only [State.modPort, State.port]
  simp

/-- A transaction that only sets the result. -/
theorem State.beginTransaction_setResult (s : State) (p : Port) (r : ResultCode) :
    (s.beginTransaction p).setResult p r = s.answered p r :=
  State.modPort_modPort s p _ _

/-- A refused read: its result, with zero bytes clocked out. -/
theorem State.beginTransaction_refuseRead (s : State) (p : Port) (r : ResultCode) :
    (s.beginTransaction p).refuseRead p r = s.readRefused p r :=
  State.modPort_modPort s p _ _

/-- A wrong number of bytes: FRAMING, counted, PROTOCOL on the port alone. -/
theorem State.command_framing {α : Type} (s : State) (p : Port) (right : Role → Bool)
    (take : α → State → Except ResultCode State) :
    s.command p none right take = s.modPort p (fun c =>
      { c with
        lastResult := .framing, statusOut := s.statusByte p, reading := none, response := []
        framingErrors := inc16 c.framingErrors, pending := c.pending ||| AttnSet.single .protocol }) := by
  simp only [State.command, State.checked, State.framingRefusal, State.raiseOn, State.beginTransaction,
    State.modPort_modPort, PortCtx.raise]

/-- In the soft reset period: BUSY, and nothing else. -/
theorem State.command_busy {α : Type} (s : State) (p : Port) (a : α) (right : Role → Bool)
    (take : α → State → Except ResultCode State) (h : s.resetting.isSome = true) :
    s.command p (some a) right take = s.answered p .busy := by
  simp only [State.command, State.checked, State.beginTransaction_resetting, h, if_true, State.beginTransaction_setResult]

/-- Without the right: RIGHTS, and nothing else. -/
theorem State.command_rights {α : Type} (s : State) (p : Port) (a : α) (right : Role → Bool)
    (take : α → State → Except ResultCode State) (h : s.resetting = none) (hr : right (s.port p).role = false) :
    s.command p (some a) right take = s.answered p .rights := by
  simp [State.command, State.checked, h, hr, State.beginTransaction_setResult]

/-- Refused by the owning block: its result, and nothing else. -/
theorem State.command_refused {α : Type} (s : State) (p : Port) (a : α) (right : Role → Bool)
    (take : α → State → Except ResultCode State) (e : ResultCode) (h : s.resetting = none)
    (hr : right (s.port p).role = true) (ht : take a (s.beginTransaction p) = .error e) :
    s.command p (some a) right take = s.answered p e := by
  simp [State.command, State.checked, h, hr, ht, State.conclude, State.beginTransaction_setResult]

/-- Taken by the owning block: its effect, and OK. -/
theorem State.command_taken {α : Type} (s t : State) (p : Port) (a : α) (right : Role → Bool)
    (take : α → State → Except ResultCode State) (h : s.resetting = none)
    (hr : right (s.port p).role = true) (ht : take a (s.beginTransaction p) = .ok t) :
    s.command p (some a) right take = t.setResult p .ok := by
  simp [State.command, State.checked, h, hr, ht, State.conclude]

/-! ## The checks of a read (R163, R164) -/

theorem State.readCommand_framing {α : Type} (s : State) (p : Port) (right : Role → Bool)
    (take : α → State → Except ResultCode Answer) :
    s.readCommand p none right take = s.modPort p (fun c =>
      { c with
        lastResult := .framing, statusOut := s.statusByte p, reading := none, response := []
        framingErrors := inc16 c.framingErrors, pending := c.pending ||| AttnSet.single .protocol }) := by
  simp only [State.readCommand, State.checked, State.framingRefusal, State.raiseOn, State.beginTransaction,
    State.modPort_modPort, PortCtx.raise]

theorem State.readCommand_busy {α : Type} (s : State) (p : Port) (a : α) (right : Role → Bool)
    (take : α → State → Except ResultCode Answer) (h : s.resetting.isSome = true) :
    s.readCommand p (some a) right take = s.readRefused p .busy := by
  simp only [State.readCommand, State.checked, State.beginTransaction_resetting, h, if_true,
    State.beginTransaction_refuseRead]

theorem State.readCommand_rights {α : Type} (s : State) (p : Port) (a : α) (right : Role → Bool)
    (take : α → State → Except ResultCode Answer) (h : s.resetting = none) (hr : right (s.port p).role = false) :
    s.readCommand p (some a) right take = s.readRefused p .rights := by
  simp [State.readCommand, State.checked, h, hr, State.beginTransaction_refuseRead]

theorem State.readCommand_refused {α : Type} (s : State) (p : Port) (a : α) (right : Role → Bool)
    (take : α → State → Except ResultCode Answer) (e : ResultCode) (h : s.resetting = none)
    (hr : right (s.port p).role = true) (ht : take a (s.beginTransaction p) = .error e) :
    s.readCommand p (some a) right take = s.readRefused p e := by
  simp [State.readCommand, State.checked, h, hr, ht, State.concludeRead, State.beginTransaction_refuseRead]

theorem State.readCommand_taken {α : Type} (s : State) (x : Answer) (p : Port) (a : α) (right : Role → Bool)
    (take : α → State → Except ResultCode Answer) (h : s.resetting = none)
    (hr : right (s.port p).role = true) (ht : take a (s.beginTransaction p) = .ok x) :
    s.readCommand p (some a) right take = x.state.modPort p
      (fun c => { c with lastResult := .ok, response := x.bytes, reading := some x.reading }) := by
  simp [State.readCommand, State.checked, h, hr, ht, State.concludeRead]

/-- A plain read that is taken: the response on the port, and nothing else. -/
theorem State.readCommand_plain {α : Type} (s : State) (bytes : List Byte) (p : Port) (a : α) (right : Role → Bool)
    (take : α → State → Except ResultCode Answer) (h : s.resetting = none) (hr : right (s.port p).role = true)
    (ht : take a (s.beginTransaction p) = (s.beginTransaction p).plainRead bytes) :
    s.readCommand p (some a) right take = s.modPort p (fun c =>
      { c with lastResult := .ok, statusOut := s.statusByte p, reading := some .plain, response := bytes }) := by
  rw [State.readCommand_taken s _ p a right take h hr ht]
  simp only [State.beginTransaction, State.modPort_modPort]

/-! ## Attention (R167, R168) -/

/-- Membership in a union. -/
theorem AttnSet.has_or (a b : AttnSet) (k : AttnKind) :
    AttnSet.has (a ||| b) k = (AttnSet.has a k || AttnSet.has b k) := by
  simp [AttnSet.has]

/-- A set of one kind has that kind alone. -/
theorem AttnSet.has_single (j k : AttnKind) : AttnSet.has (AttnSet.single j) k = decide (k = j) := by
  cases j <;> cases k <;> decide

/-- Raising a kind puts it into the pending set and leaves the other kinds. -/
@[simp] theorem PortCtx.raise_has (c : PortCtx) (j k : AttnKind) :
    AttnSet.has (c.raise j).pending k = (AttnSet.has c.pending k || decide (k = j)) := by
  simp only [PortCtx.raise, AttnSet.has_or, AttnSet.has_single]

/-- Raising a kind moves nothing of a port but its pending set and what a READ ATTENTION has noted. -/
theorem PortCtx.raisedFrom_raise (c : PortCtx) (k : AttnKind) : c.raisedFrom (c.raise k) := by
  refine ⟨rfl, ?_⟩
  simp only [PortCtx.raise]
  ext i
  simp
  intro h h'
  simp_all

theorem PortCtx.raisedFrom_refl (c : PortCtx) : c.raisedFrom c := by
  refine ⟨rfl, ?_⟩
  ext i
  simp

theorem PortCtx.raisedFrom_trans {a b c : PortCtx} (h : a.raisedFrom b) (h' : b.raisedFrom c) : a.raisedFrom c := by
  obtain ⟨h1, h2⟩ := h
  obtain ⟨h3, h4⟩ := h'
  refine ⟨?_, ?_⟩
  · rw [h3, h1]
  · ext i hi
    have e2 := congrArg (fun x : BitVec 16 => x.getLsbD i) h2
    have e4 := congrArg (fun x : BitVec 16 => x.getLsbD i) h4
    simp at e2 e4 ⊢
    intro ha
    rw [← BitVec.getLsbD_eq_getElem] at ha ⊢
    exact e4 (e2 ha hi) hi

theorem State.portsRaised_refl (s : State) : s.portsRaised s := fun p => PortCtx.raisedFrom_refl (s.port p)

theorem State.portsRaised_trans {s t u : State} (h : s.portsRaised t) (h' : t.portsRaised u) : s.portsRaised u :=
  fun p => PortCtx.raisedFrom_trans (h p) (h' p)

theorem State.raiseOn_port (s : State) (p : Port) (k : AttnKind) (q : Port) :
    (s.raiseOn p k).port q = if q = p then (s.port q).raise k else s.port q := by
  by_cases h : q = p
  · subst h; simp [State.raiseOn]
  · simp [State.raiseOn, h]

/-- A kind raised on all ports: each port raised, nothing else. -/
theorem State.raiseAll_port (s : State) (k : AttnKind) (q : Port) : (s.raiseAll k).port q = (s.port q).raise k := by
  cases q <;> simp [State.raiseAll, Port.all, State.raiseOn_port]

theorem State.raiseAll_eq (s : State) (k : AttnKind) : s.raiseAll k = { s with ports := (s.raiseAll k).ports } := rfl

theorem State.raiseAll_portsRaised (s : State) (k : AttnKind) : s.portsRaised (s.raiseAll k) := fun p => by
  rw [State.raiseAll_port]; exact PortCtx.raisedFrom_raise _ _

theorem State.raiseOn_portsRaised (s : State) (p : Port) (k : AttnKind) : s.portsRaised (s.raiseOn p k) := fun q => by
  rw [State.raiseOn_port]
  split
  · exact PortCtx.raisedFrom_raise _ _
  · exact PortCtx.raisedFrom_refl _

/-! ## The end of a read (R163, R171) -/

/-- The rise of select on a port's read: nothing without a read, BUSY for one that a soft reset cut off, and otherwise the
read is over with its result kept. -/
theorem State.interruptedRise_cases (s : State) (p : Port) :
    (s.port p).reading = none ∧ s.interruptedRise p = s
      ∨ (s.port p).reading = some .interrupted
        ∧ s.interruptedRise p = s.modPort p (fun c => { c with lastResult := .busy, reading := none })
      ∨ (s.port p).reading ≠ none ∧ (s.port p).reading ≠ some .interrupted
        ∧ s.interruptedRise p = s.modPort p (fun c => { c with reading := none }) := by
  unfold State.interruptedRise
  split <;> simp_all

end Sys2Proof.Machine
end

