-- ==== Sys2Proof/Laws/Frames.lean ====
section
/-! SUPPORT. The frames of the shared operations: which fields of the state each can touch. A lemma `f_routeOnly` says that
f touches nothing outside the route; `f_portsRaised` that it moves the port contexts by attention alone; `f_sameParameters`
that it leaves the selection parameters. -/

namespace Sys2Proof.Machine

/-! ## The three frames are reflexive and transitive -/

theorem State.routeOnly_iff (s t : State) : s.routeOnly t ↔
    t.time = s.time ∧ t.receivers = s.receivers ∧ t.peerSite = s.peerSite ∧ t.beaconInterval = s.beaconInterval
      ∧ t.rxStreams = s.rxStreams ∧ t.txStreams = s.txStreams ∧ t.localPort = s.localPort ∧ t.siteId = s.siteId
      ∧ t.resetting = s.resetting ∧ t.pending = s.pending := by
  cases s; cases t
  simp only [State.routeOnly, State.mk.injEq, true_and]

@[refl] theorem State.routeOnly_refl (s : State) : s.routeOnly s := rfl

@[trans] theorem State.routeOnly_trans {s t u : State} (h : s.routeOnly t) (h' : t.routeOnly u) : s.routeOnly u := by
  rw [State.routeOnly_iff] at *
  simp_all

@[refl] theorem State.sameParameters_refl (s : State) : s.sameParameters s := rfl

theorem State.sameParameters_iff (s t : State) : s.sameParameters t ↔
    t.selector.pin = s.selector.pin ∧ t.selector.hysteresis = s.selector.hysteresis
      ∧ t.selector.widthCode = s.selector.widthCode ∧ t.selector.shadow = s.selector.shadow
      ∧ t.selector.guardTime = s.selector.guardTime := by
  unfold State.sameParameters
  cases s.selector; cases t.selector
  simp

@[trans] theorem State.sameParameters_trans {s t u : State} (h : s.sameParameters t) (h' : t.sameParameters u) :
    s.sameParameters u := by
  rw [State.sameParameters_iff] at *
  simp_all

theorem State.sameParameters_of_selector {s t : State} (h : t.selector = s.selector) : s.sameParameters t := by
  rw [State.sameParameters_iff]; simp [h]

theorem State.portsRaised_of_ports {s t : State} (h : t.ports = s.ports) : s.portsRaised t := fun p => by
  have : t.port p = s.port p := by simp [State.port, h]
  rw [this]; exact PortCtx.raisedFrom_refl _

/-- All three frames at once: the footprint of the route operations. -/
def State.routed (s t : State) : Prop := s.routeOnly t ∧ s.sameParameters t ∧ s.portsRaised t

theorem State.routed_refl (s : State) : s.routed s :=
  ⟨s.routeOnly_refl, s.sameParameters_refl, s.portsRaised_refl⟩

theorem State.routed_trans {s t u : State} (h : s.routed t) (h' : t.routed u) : s.routed u :=
  ⟨State.routeOnly_trans h.1 h'.1, State.sameParameters_trans h.2.1 h'.2.1, State.portsRaised_trans h.2.2 h'.2.2⟩

/-- An update of route fields that are neither the selection nor the ports. -/
theorem State.routed_of {s t : State} (h : s.routeOnly t) (hs : t.selector = s.selector) (hp : t.ports = s.ports) :
    s.routed t := ⟨h, State.sameParameters_of_selector hs, State.portsRaised_of_ports hp⟩

/-- A relation kept by every item of a list is kept by its fold. -/
theorem foldl_rel {α β : Type} (R : α → α → Prop) (hrefl : ∀ a, R a a) (htrans : ∀ {a b c}, R a b → R b c → R a c)
    (f : α → β → α) (l : List β) (h : ∀ a, ∀ b ∈ l, R a (f a b)) (a : α) : R a (l.foldl f a) := by
  induction l generalizing a with
  | nil => exact hrefl a
  | cons b l ih =>
    exact htrans (h a b (by simp)) (ih (fun a b hb => h a b (by simp [hb])) (f a b))

theorem State.modEntry_routed (s : State) (p : Path) (g : PathEntry → PathEntry) : s.routed (s.modEntry p g) :=
  State.routed_of rfl rfl rfl

theorem State.modTransmitter_routed (s : State) (p : Path) (g : Transmitter → Transmitter) :
    s.routed (s.modTransmitter p g) := State.routed_of rfl rfl rfl

theorem State.modSounding_routed (s : State) (g : Sounding → Sounding) : s.routed (s.modSounding g) :=
  State.routed_of rfl rfl rfl

theorem State.modStats_routed (s : State) (p : Path) (g : Stats → Stats) : s.routed (s.modStats p g) :=
  State.routed_of rfl rfl rfl

theorem State.raiseOn_routed (s : State) (p : Port) (k : AttnKind) : s.routed (s.raiseOn p k) :=
  ⟨rfl, rfl, s.raiseOn_portsRaised p k⟩

theorem State.raiseAll_routed (s : State) (k : AttnKind) : s.routed (s.raiseAll k) :=
  ⟨rfl, rfl, s.raiseAll_portsRaised k⟩

/-! ## The log -/

/-- Nothing differs but the log and the ports, and the ports only by attention and by where a peek stands. -/
def State.logOnly (s t : State) : Prop := t = { s with log := t.log, ports := t.ports } ∧ s.portsRaised t

theorem State.logOnly_refl (s : State) : s.logOnly s := ⟨rfl, s.portsRaised_refl⟩

theorem State.logOnly_trans {s t u : State} (h : s.logOnly t) (h' : t.logOnly u) : s.logOnly u := by
  refine ⟨?_, State.portsRaised_trans h.2 h'.2⟩
  rw [h'.1, h.1]

theorem State.logOnly_routed {s t : State} (h : s.logOnly t) : s.routed t := by
  refine ⟨?_, ?_, h.2⟩
  · rw [State.routeOnly_iff, h.1]; simp
  · exact State.sameParameters_of_selector (by rw [h.1])

theorem State.raiseOn_logOnly (s : State) (p : Port) (k : AttnKind) : s.logOnly (s.raiseOn p k) :=
  ⟨rfl, s.raiseOn_portsRaised p k⟩

theorem State.raiseAll_logOnly (s : State) (k : AttnKind) : s.logOnly (s.raiseAll k) :=
  ⟨rfl, s.raiseAll_portsRaised k⟩

theorem State.modReader_logOnly (s : State) (p : Port) (g : ReadCtx → ReadCtx) : s.logOnly (s.modReader p g) :=
  ⟨rfl, State.portsRaised_of_ports rfl⟩

theorem State.modLog_logOnly (s : State) (g : Log → Log) : s.logOnly (s.modLog g) :=
  ⟨rfl, State.portsRaised_of_ports rfl⟩

/-- A read in progress may move to another place without anything else of the port moving. -/
theorem State.modPort_reading_logOnly (s : State) (p : Port) (f : Option Reading → Option Reading) :
    s.logOnly (s.modPort p (fun c => { c with reading := f c.reading })) := by
  refine ⟨rfl, fun q => ?_⟩
  rw [State.modPort_port]
  split
  · rename_i h; subst h
    exact ⟨rfl, (PortCtx.raisedFrom_refl _).2⟩
  · exact PortCtx.raisedFrom_refl _

theorem State.checkLogCondition_logOnly (s : State) (p : Port) : s.logOnly (s.checkLogCondition p) := by
  unfold State.checkLogCondition
  split
  · exact s.raiseOn_logOnly p .log
  · exact s.logOnly_refl

theorem State.recordCheck_logOnly (body : RecordBody) (s : State) (p : Port) : s.logOnly (s.recordCheck body p) := by
  unfold State.recordCheck
  split
  · exact s.checkLogCondition_logOnly p
  · exact s.logOnly_refl

theorem State.overwriteCheck_logOnly (serial : Seq) (s : State) (p : Port) : s.logOnly (s.overwriteCheck serial p) := by
  unfold State.overwriteCheck
  have h := s.modPort_reading_logOnly p (fun r => r.map (Reading.overwritten serial))
  dsimp only
  split
  · exact State.logOnly_trans h (State.logOnly_trans (State.modReader_logOnly _ _ _) (State.raiseOn_logOnly _ _ _))
  · exact h

/-- Taking a record touches the log and raises attention, and nothing else (R128, R134, R136). -/
theorem State.logWrite_logOnly (s : State) (body : RecordBody) : s.logOnly (s.logWrite body) := by
  unfold State.logWrite
  refine State.logOnly_trans ?_ (foldl_rel State.logOnly State.logOnly_refl State.logOnly_trans _ _
    (fun a q _ => State.recordCheck_logOnly body a q) _)
  split
  · exact State.logOnly_trans (State.modLog_logOnly s _) (foldl_rel State.logOnly State.logOnly_refl
      State.logOnly_trans _ _ (fun a q _ => State.overwriteCheck_logOnly _ a q) _)
  · exact State.modLog_logOnly s _

theorem State.logWrite_routed (s : State) (body : RecordBody) : s.routed (s.logWrite body) :=
  State.logOnly_routed (s.logWrite_logOnly body)

/-- A log footprint leaves every entry. -/
theorem State.logOnly_entry {s t : State} (h : s.logOnly t) (p : Path) : t.entry p = s.entry p := by rw [h.1]; rfl
theorem State.logOnly_transmitter {s t : State} (h : s.logOnly t) (p : Path) : t.transmitter p = s.transmitter p := by
  rw [h.1]; rfl
theorem State.logOnly_sounding {s t : State} (h : s.logOnly t) : t.sounding = s.sounding := by rw [h.1]
theorem State.logOnly_selector {s t : State} (h : s.logOnly t) : t.selector = s.selector := by rw [h.1]

/-! ## Transmitters -/

theorem State.startReport_routed (s : State) (body : FrameBody) : s.routed (s.startReport body) := by
  unfold State.startReport
  split
  · exact s.modSounding_routed _
  · exact s.routed_refl

/-- The arbiter touches transmitters and, for a PROBE, the sweep. -/
theorem State.arbitrate_routed (s : State) (p : Path) : s.routed (s.arbitrate p) := by
  unfold State.arbitrate
  dsimp only
  split
  · exact s.routed_refl
  · split
    · exact State.routed_trans (s.modTransmitter_routed p _) (State.startReport_routed _ _)
    · exact s.routed_refl

theorem State.flush_routed (s : State) (p : Path) : s.routed (s.flush p) := by
  unfold State.flush
  exact State.routed_trans (s.modStats_routed p _) (State.modTransmitter_routed _ _ _)

theorem State.transmitterReport_routed (s : State) (p : Path) (new : LocalState) :
    s.routed (s.transmitterReport p new) := by
  unfold State.transmitterReport
  split
  · exact State.routed_trans (s.flush_routed p) (State.modTransmitter_routed _ _ _)
  · exact s.flush_routed p
  · exact s.routed_refl

theorem State.abandonProbe_routed (s : State) : s.routed s.abandonProbe := by
  unfold State.abandonProbe
  dsimp only
  split
  · exact State.routed_trans (s.modTransmitter_routed _ _) (State.modSounding_routed _ _)
  · exact s.modSounding_routed _

/-! ## The selection -/

theorem State.fallbackReport_routed (s : State) : s.routed s.fallbackReport := by
  unfold State.fallbackReport
  dsimp only
  split
  · exact s.routed_refl
  · split
    · exact State.routed_trans s.abandonProbe_routed (State.modSounding_routed _ _)
    · exact s.modSounding_routed _
    · exact s.routed_refl

/-- An update of the selection that leaves its parameters. -/
theorem State.modSelector_routed (s : State) (g : Selector → Selector)
    (h : ∀ x, (g x).pin = x.pin ∧ (g x).hysteresis = x.hysteresis ∧ (g x).widthCode = x.widthCode
      ∧ (g x).shadow = x.shadow ∧ (g x).guardTime = x.guardTime) : s.routed (s.modSelector g) :=
  ⟨rfl, (State.sameParameters_iff _ _).2 (h s.selector), State.portsRaised_of_ports rfl⟩

theorem State.changePrimary_routed (s : State) (new : Option Path) (kind : ChangeKind) :
    s.routed (s.changePrimary new kind) := by
  unfold State.changePrimary
  have h := State.routed_trans (State.routed_trans (s.modSelector_routed (fun x =>
      { x with primary := new, guard := s.guardAfter s.selector.primary new }) (fun _ => ⟨rfl, rfl, rfl, rfl, rfl⟩))
    (State.logWrite_routed _ (.primary s.selector.primary new kind (s.selector.primary.map s.effDelay)
      (new.map s.effDelay)))) (State.raiseAll_routed _ .primary)
  dsimp only
  split
  · exact State.routed_trans h (State.fallbackReport_routed _)
  · exact State.routed_trans h (State.fallbackReport_routed _)
  · exact h

/-- A re-evaluation touches the route alone and leaves the selection parameters (R78). -/
theorem State.reEvaluate_routed (s : State) : s.routed s.reEvaluate := by
  unfold State.reEvaluate
  refine State.routed_trans ?_ (State.modSelector_routed _ _ (fun _ => ⟨rfl, rfl, rfl, rfl, rfl⟩))
  have h := s.modSelector_routed (fun x =>
    { x with rank := s.rankOrder, guard := x.guard.filter (fun g => s.eligible g.path) })
    (fun _ => ⟨rfl, rfl, rfl, rfl, rfl⟩)
  split
  · exact State.routed_trans h (State.changePrimary_routed _ _ _)
  · exact h

/-! ## Delays and scores -/

theorem State.recomputeDelay_routed (s : State) (p : Path) : s.routed (s.recomputeDelay p) := by
  unfold State.recomputeDelay
  dsimp only
  split
  · exact s.routed_refl
  · exact State.routed_trans (s.modEntry_routed p _) (State.reEvaluate_routed _)

theorem State.modScore_routed (s : State) (p : Path) (g : Nat → Nat) : s.routed (s.modScore p g) :=
  State.routed_trans (s.modEntry_routed p _) (State.recomputeDelay_routed _ _)

theorem State.retirePath_routed (mask seen : PathSet) (s : State) (p : Path) : s.routed (s.retirePath mask seen p) := by
  unfold State.retirePath
  split
  · exact s.modScore_routed p _
  · exact s.routed_refl

/-- A retire report touches the route alone (R57). -/
theorem State.retireReport_routed (s : State) (mask seen : PathSet) : s.routed (s.retireReport mask seen) :=
  foldl_rel State.routed State.routed_refl State.routed_trans _ _ (fun a q _ => State.retirePath_routed mask seen a q) s

theorem State.burstReport_routed (s : State) (p : Path) (result : BurstResult) (sample : Nat) :
    s.routed (s.burstReport p result sample).1 := by
  cases result
  · exact State.routed_trans (s.modEntry_routed p _) (State.recomputeDelay_routed _ _)
  · exact s.modScore_routed p _
  · exact s.routed_refl
  · exact s.routed_refl

theorem State.scoreDecay_routed (s : State) (p : Path) : s.routed (s.scoreDecay p) := by
  unfold State.scoreDecay
  split
  · exact State.routed_trans (s.modEntry_routed p _) (State.modScore_routed _ _ _)
  · exact s.routed_refl

/-! ## The sweep -/

theorem State.issueProbe_routed (s : State) (p : Path) : s.routed (s.issueProbe p) :=
  State.routed_trans (State.routed_trans (s.modTransmitter_routed p _) (State.modSounding_routed _ _))
    (State.arbitrate_routed _ _)

theorem State.endSweep_routed (s : State) : s.routed s.endSweep :=
  State.routed_trans (s.modSounding_routed _) (State.raiseAll_routed _ _)

theorem State.beginBurst_routed (s : State) (p : Path) : s.routed (s.beginBurst p) :=
  State.routed_trans (s.modSounding_routed _) (State.issueProbe_routed _ _)

theorem State.pathTurn_routed (fuel : Nat) (s : State) : s.routed (State.pathTurn fuel s) := by
  induction fuel generalizing s with
  | zero => exact s.routed_refl
  | succ fuel ih =>
    unfold State.pathTurn
    split
    · exact s.endSweep_routed
    · rename_i p _
      have h := s.modSounding_routed (fun x => { x with remaining := x.remaining.remove p })
      dsimp only
      split
      · exact State.routed_trans h (State.routed_trans (State.logWrite_routed _ _) (ih _))
      · exact State.routed_trans h (State.routed_trans (State.logWrite_routed _ _) (ih _))
      · exact State.routed_trans h (State.beginBurst_routed _ _)

/-- The end of a burst touches the route alone (R150). -/
theorem State.endBurst_routed (s : State) (p : Path) (result : BurstResult) : s.routed (s.endBurst p result) := by
  unfold State.endBurst
  have h := s.burstReport_routed p result (s.sounding.minimum.getD 0)
  have h2 := State.routed_trans (State.routed_trans h (State.logWrite_routed _ (.sound p result s.sounding.valid
      s.sounding.lost s.sounding.minimum ((s.burstReport p result (s.sounding.minimum.getD 0)).1.entry p).delay
      (s.burstReport p result (s.sounding.minimum.getD 0)).2)))
    (State.modSounding_routed _ (fun x => { x with current := none }))
  dsimp only
  split
  · exact State.routed_trans h2 (State.endSweep_routed _)
  · split
    · exact State.routed_trans h2 (State.pathTurn_routed _ _)
    · exact h2

theorem State.continueBurst_routed (s : State) : s.routed s.continueBurst := by
  unfold State.continueBurst
  split
  · exact s.routed_refl
  · split
    · exact s.endBurst_routed _ _
    · split
      · exact s.issueProbe_routed _
      · exact s.routed_refl

theorem State.probeIssue_routed (s : State) : s.routed s.probeIssue := by
  unfold State.probeIssue
  split
  · exact s.continueBurst_routed
  · exact s.routed_refl

theorem State.probeTimeout_routed (s : State) : s.routed s.probeTimeout := by
  unfold State.probeTimeout
  split
  · split
    · exact State.routed_trans (State.routed_trans (s.modSounding_routed _) (State.modStats_routed _ _ _))
        (State.continueBurst_routed _)
    · exact s.routed_refl
  · exact s.routed_refl

theorem State.judgeEcho_routed (s : State) (p : Path) (round residence : Nat) :
    s.routed (s.judgeEcho p round residence) := by
  unfold State.judgeEcho
  split
  · exact State.routed_trans (State.routed_trans (s.modSounding_routed _) (State.modStats_routed _ _ _))
      (State.continueBurst_routed _)
  · exact State.routed_trans (State.routed_trans (s.modSounding_routed _) (State.modStats_routed _ _ _))
      (State.continueBurst_routed _)

theorem State.takeEcho_routed (s : State) (p : Path) (tag : Byte) (index residence t4 : Nat) :
    s.routed (s.takeEcho p tag index residence t4) := by
  unfold State.takeEcho
  split
  · split
    · exact s.judgeEcho_routed _ _ _
    · exact s.modSounding_routed _
  · exact s.modSounding_routed _

theorem State.soundingReport_routed (s : State) (p : Path) (new : LocalState) : s.routed (s.soundingReport p new) := by
  unfold State.soundingReport
  split
  · split
    · exact State.routed_trans s.abandonProbe_routed (State.endBurst_routed _ _ _)
    · exact State.routed_trans s.abandonProbe_routed (State.endBurst_routed _ _ _)
    · exact s.routed_refl
  · exact s.routed_refl

theorem State.resume_routed (s : State) : s.routed s.resume := by
  unfold State.resume
  have h := s.modSounding_routed (fun x => { x with state := .running, reason := none, settleDeadline := none })
  dsimp only
  split
  · exact State.routed_trans h (State.continueBurst_routed _)
  · exact State.routed_trans h (State.pathTurn_routed _ _)

/-! ## Path states -/

/-- A change of local state touches the route alone (R39). -/
theorem State.setLocalState_routed (s : State) (p : Path) (new : LocalState) (reason : Reason) :
    s.routed (s.setLocalState p new reason) := by
  unfold State.setLocalState
  exact State.routed_trans (State.routed_trans (State.routed_trans (State.routed_trans (State.routed_trans
    (s.modEntry_routed p _) (State.logWrite_routed _ _)) (State.raiseAll_routed _ _)) (State.reEvaluate_routed _))
    (State.transmitterReport_routed _ _ _)) (State.soundingReport_routed _ _ _)

theorem State.evaluateUpTo_routed (n : Nat) (s : State) (p : Path) : s.routed (State.evaluateUpTo n s p) := by
  induction n generalizing s with
  | zero => exact s.routed_refl
  | succ n ih =>
    unfold State.evaluateUpTo
    split
    · exact State.routed_trans (s.setLocalState_routed p _ _) (ih _)
    · exact s.routed_refl

/-- An evaluation touches the route alone (R44). -/
theorem State.evaluate_routed (s : State) (p : Path) : s.routed (s.evaluate p) := State.evaluateUpTo_routed 3 s p

theorem State.setFar_routed (s : State) (p : Path) (state : Option LocalState) (quality : Option Quality) :
    s.routed (s.setFar p state quality) := by
  unfold State.setFar
  dsimp only
  split
  · exact s.modEntry_routed p _
  · exact State.routed_trans (s.modEntry_routed p _) (State.reEvaluate_routed _)

end Sys2Proof.Machine
end

