-- ==== Sys2Proof/Laws/Merge.lean ====
section
/-! SUPPORT. The frames of the Merge Unit's operations: delivering touches one stream, the local port, the log and attention;
an advance, whose retirements are reported to the Path Table, touches the route as well. -/

namespace Sys2Proof.Machine

/-- Nothing differs but stream i, the local port, the log and attention. -/
def State.mergeOnly (i : StreamId) (s t : State) : Prop :=
  t = { s with rxStreams := t.rxStreams, localPort := t.localPort, log := t.log, ports := t.ports }
    ∧ (∀ j, j ≠ i → t.rxStream j = s.rxStream j) ∧ s.portsRaised t

theorem State.mergeOnly_refl (i : StreamId) (s : State) : State.mergeOnly i s s := ⟨rfl, fun _ _ => rfl, s.portsRaised_refl⟩

theorem State.mergeOnly_trans {i : StreamId} {s t u : State} (h : State.mergeOnly i s t) (h' : State.mergeOnly i t u) :
    State.mergeOnly i s u := by
  refine ⟨?_, fun j hj => ?_, State.portsRaised_trans h.2.2 h'.2.2⟩
  · rw [h'.1, h.1]
  · rw [h'.2.1 j hj, h.2.1 j hj]

theorem State.logOnly_mergeOnly (i : StreamId) {s t : State} (h : s.logOnly t) : State.mergeOnly i s t := by
  refine ⟨?_, fun j _ => ?_, h.2⟩
  · rw [h.1]
  · rw [h.1]; rfl

theorem State.modRx_mergeOnly (s : State) (i : StreamId) (g : RxStream → RxStream) :
    State.mergeOnly i s (s.modRx i g) :=
  ⟨rfl, fun _ hj => State.modRx_rxStream_ne s i g hj, State.portsRaised_of_ports rfl⟩

theorem State.modLocal_mergeOnly (s : State) (i : StreamId) (g : LocalPort → LocalPort) :
    State.mergeOnly i s (s.modLocal g) := ⟨rfl, fun _ _ => rfl, State.portsRaised_of_ports rfl⟩

theorem State.queueDelivery_mergeOnly (s : State) (i : StreamId) (f : DeliveredFrame) :
    State.mergeOnly i s (s.queueDelivery i f) := by
  unfold State.queueDelivery
  split
  · exact State.mergeOnly_trans (s.modRx_mergeOnly i _) (State.logOnly_mergeOnly i (State.raiseAll_logOnly _ _))
  · exact s.modLocal_mergeOnly i _

/-- A delivery (R117, R118). -/
theorem State.deliver_mergeOnly (s : State) (i : StreamId) (d : Delivery) : State.mergeOnly i s (s.deliver i d) := by
  unfold State.deliver
  dsimp only
  split
  · exact State.mergeOnly_trans (s.queueDelivery_mergeOnly i _) (State.logOnly_mergeOnly i (State.logWrite_logOnly _ _))
  · exact s.queueDelivery_mergeOnly i _

theorem State.setSlot_mergeOnly (s : State) (i : StreamId) (n : Nat) (slot : Slot) :
    State.mergeOnly i s (s.setSlot i n slot) := s.modRx_mergeOnly i _

theorem State.releaseSlot_mergeOnly (s : State) (i : StreamId) (n : Nat) : State.mergeOnly i s (s.releaseSlot i n) := by
  unfold State.releaseSlot
  split
  · exact State.mergeOnly_trans (s.setSlot_mergeOnly i n _) (State.deliver_mergeOnly _ i _)
  · exact State.mergeOnly_refl i s

theorem State.releaseFirst_mergeOnly (s : State) (i : StreamId) (n : Nat) : State.mergeOnly i s (s.releaseFirst i n) :=
  foldl_rel (State.mergeOnly i) (State.mergeOnly_refl i) State.mergeOnly_trans _ _
    (fun a k _ => State.releaseSlot_mergeOnly a i k) s

theorem State.walk_mergeOnly (fuel : Nat) (s : State) (i : StreamId) : State.mergeOnly i s (State.walk fuel s i) := by
  induction fuel generalizing s with
  | zero => exact State.mergeOnly_refl i s
  | succ fuel ih =>
    unfold State.walk
    dsimp only
    split
    · exact State.mergeOnly_trans (State.mergeOnly_trans (s.releaseSlot_mergeOnly i _) (State.modRx_mergeOnly _ i _)) (ih _)
    · exact State.mergeOnly_refl i s

theorem State.releaseWalk_mergeOnly (s : State) (i : StreamId) : State.mergeOnly i s (s.releaseWalk i) :=
  State.walk_mergeOnly _ s i

theorem State.gapRun_mergeOnly (s : State) (i : StreamId) (first : Seq) (count : Nat) (cause : GapCause) :
    State.mergeOnly i s (s.gapRun i first count cause) := by
  unfold State.gapRun
  split
  · exact State.mergeOnly_refl i s
  · exact State.mergeOnly_trans (State.logOnly_mergeOnly i (s.logWrite_logOnly _)) (State.modRx_mergeOnly _ i _)

theorem State.expireOnce_mergeOnly (s : State) (i : StreamId) : State.mergeOnly i s (s.expireOnce i) := by
  unfold State.expireOnce
  dsimp only
  split
  · exact s.modRx_mergeOnly i _
  · exact State.mergeOnly_trans (State.mergeOnly_trans (State.mergeOnly_trans (State.mergeOnly_trans
      (s.modRx_mergeOnly i _) (State.gapRun_mergeOnly _ i _ _ _)) (State.modRx_mergeOnly _ i _))
      (State.releaseWalk_mergeOnly _ i)) (State.modRx_mergeOnly _ i _)

theorem State.expireUpTo_mergeOnly (fuel : Nat) (s : State) (i : StreamId) :
    State.mergeOnly i s (State.expireUpTo fuel s i) := by
  induction fuel generalizing s with
  | zero => exact State.mergeOnly_refl i s
  | succ fuel ih =>
    unfold State.expireUpTo
    split
    · exact State.mergeOnly_trans (s.expireOnce_mergeOnly i) (ih _)
    · exact State.mergeOnly_refl i s

/-- Every hold expiry that is due (R116). -/
theorem State.expireAll_mergeOnly (s : State) (i : StreamId) : State.mergeOnly i s (s.expireAll i) :=
  State.expireUpTo_mergeOnly _ s i

theorem State.settleHold_mergeOnly (s : State) (i : StreamId) : State.mergeOnly i s (s.settleHold i) :=
  State.mergeOnly_trans (s.modRx_mergeOnly i _) (State.expireAll_mergeOnly _ i)

/-- A resynchronization (R122). -/
theorem State.resync_mergeOnly (s : State) (i : StreamId) (cause : ResyncCause) (newSeq : Option Seq) :
    State.mergeOnly i s (s.resync i cause newSeq) := by
  have h (s1 : State) (h1 : State.mergeOnly i s s1) (body : RecordBody) (f g : RxStream → RxStream) :
      State.mergeOnly i s (((s1.modRx i f).logWrite body).modRx i g) :=
    State.mergeOnly_trans (State.mergeOnly_trans (State.mergeOnly_trans h1 (State.modRx_mergeOnly _ i _))
      (State.logOnly_mergeOnly i (State.logWrite_logOnly _ _))) (State.modRx_mergeOnly _ i _)
  unfold State.resync
  refine h _ ?_ _ _ _
  split
  · exact s.releaseFirst_mergeOnly i _
  · exact State.mergeOnly_refl i s

/-! ## With the route: what a DATA frame can touch -/

/-- Nothing differs but stream i, the local port, and the route. -/
def State.dataOnly (i : StreamId) (s t : State) : Prop :=
  t = { s with
      rxStreams := t.rxStreams, localPort := t.localPort, paths := t.paths, transmitters := t.transmitters
      selector := t.selector, sounding := t.sounding, log := t.log, ports := t.ports }
    ∧ (∀ j, j ≠ i → t.rxStream j = s.rxStream j) ∧ s.sameParameters t ∧ s.portsRaised t

theorem State.dataOnly_refl (i : StreamId) (s : State) : State.dataOnly i s s :=
  ⟨rfl, fun _ _ => rfl, s.sameParameters_refl, s.portsRaised_refl⟩

theorem State.dataOnly_trans {i : StreamId} {s t u : State} (h : State.dataOnly i s t) (h' : State.dataOnly i t u) :
    State.dataOnly i s u := by
  refine ⟨?_, fun j hj => ?_, State.sameParameters_trans h.2.2.1 h'.2.2.1, State.portsRaised_trans h.2.2.2 h'.2.2.2⟩
  · rw [h'.1, h.1]
  · rw [h'.2.1 j hj, h.2.1 j hj]

theorem State.mergeOnly_dataOnly {i : StreamId} {s t : State} (h : State.mergeOnly i s t) : State.dataOnly i s t := by
  refine ⟨?_, h.2.1, State.sameParameters_of_selector (by rw [h.1]), h.2.2⟩
  rw [h.1]

theorem State.routed_dataOnly (i : StreamId) {s t : State} (h : s.routed t) : State.dataOnly i s t := by
  refine ⟨?_, fun j _ => ?_, h.2.1, h.2.2⟩
  · have h1 : s.routeOnly t := h.1
    unfold State.routeOnly at h1
    rw [h1]
  · have h1 := (State.routeOnly_iff s t).1 h.1
    simp [State.rxStream, h1.2.2.2.2.1]

theorem State.holdArrival_mergeOnly (s : State) (i : StreamId) (d : DataArrival) (eligible : Bool) :
    State.mergeOnly i s (s.holdArrival i d eligible) := by
  have h := State.mergeOnly_trans (s.setSlot_mergeOnly i ((s.rxStream i).distance d.copy.seq)
    (.held d.info (d.kept eligible))) (State.modRx_mergeOnly _ i (RxStream.noteHeld d.stamp.mono))
  unfold State.holdArrival
  dsimp only
  split
  · exact State.mergeOnly_trans h (State.expireAll_mergeOnly _ i)
  · exact h

theorem State.deliverArrival_mergeOnly (s : State) (i : StreamId) (d : DataArrival) (eligible ordered : Bool) :
    State.mergeOnly i s (s.deliverArrival i d eligible ordered) :=
  State.mergeOnly_trans (s.setSlot_mergeOnly i _ _) (State.deliver_mergeOnly _ i _)

/-- A first arrival (R113, R114). -/
theorem State.firstArrival_dataOnly (s : State) (i : StreamId) (d : DataArrival) :
    State.dataOnly i s (s.firstArrival i d) := by
  have h := State.dataOnly_trans (State.mergeOnly_dataOnly (s.modRx_mergeOnly i
      (fun x => { x with accepted := inc32 x.accepted })))
    (State.routed_dataOnly i (State.modStats_routed _ d.path (fun x => { x with wins := inc32 x.wins })))
  unfold State.firstArrival
  dsimp only
  split
  · split
    · exact State.dataOnly_trans h (State.mergeOnly_dataOnly (State.mergeOnly_trans (State.mergeOnly_trans
        (State.mergeOnly_trans (State.deliverArrival_mergeOnly _ i d _ _) (State.modRx_mergeOnly _ i _))
        (State.releaseWalk_mergeOnly _ i)) (State.settleHold_mergeOnly _ i)))
    · exact State.dataOnly_trans h (State.mergeOnly_dataOnly (State.holdArrival_mergeOnly _ i d _))
  · exact State.dataOnly_trans h (State.mergeOnly_dataOnly (State.deliverArrival_mergeOnly _ i d _ _))

theorem State.lateCopy_dataOnly (s : State) (i : StreamId) (p : Path) : State.dataOnly i s (s.lateCopy i p) :=
  State.dataOnly_trans (State.mergeOnly_dataOnly (s.modRx_mergeOnly i _))
    (State.routed_dataOnly i (State.modStats_routed _ p _))

theorem State.duplicate_dataOnly (s : State) (i : StreamId) (n : Nat) (slot : Slot) (first : Nat) (d : DataArrival) :
    State.dataOnly i s (s.duplicate i n slot first d) :=
  State.dataOnly_trans (State.dataOnly_trans (State.mergeOnly_dataOnly (s.setSlot_mergeOnly i n _))
    (State.routed_dataOnly i (State.modStats_routed _ d.path _))) (State.mergeOnly_dataOnly (State.modRx_mergeOnly _ i _))

theorem State.takeTracked_dataOnly (s : State) (i : StreamId) (n : Nat) (d : DataArrival) :
    State.dataOnly i s (s.takeTracked i n d) := by
  unfold State.takeTracked
  split
  · exact s.firstArrival_dataOnly i d
  · exact s.duplicate_dataOnly i n _ _ d
  · exact s.duplicate_dataOnly i n _ _ d
  · exact s.lateCopy_dataOnly i _
  · exact State.dataOnly_refl i s

/-- The retiring range walked (R119 step 2). -/
theorem State.retire_dataOnly (i : StreamId) (untracked : Nat) (l : List Slot) (q : Seq) (run : Nat) (s : State) :
    State.dataOnly i s (State.retire i untracked l q run s) := by
  induction l generalizing q run s with
  | nil => exact State.mergeOnly_dataOnly (s.gapRun_mergeOnly i _ _ _)
  | cons x l ih =>
    cases x
    · exact ih _ _ _
    · exact State.dataOnly_trans (State.dataOnly_trans (State.mergeOnly_dataOnly (s.gapRun_mergeOnly i _ _ _))
        (State.routed_dataOnly i (State.retireReport_routed _ _ _))) (ih _ _ _)
    · exact State.dataOnly_trans (State.dataOnly_trans (State.mergeOnly_dataOnly (s.gapRun_mergeOnly i _ _ _))
        (State.routed_dataOnly i (State.retireReport_routed _ _ _))) (ih _ _ _)
    · exact State.dataOnly_trans (State.mergeOnly_dataOnly (s.gapRun_mergeOnly i _ _ _)) (ih _ _ _)

/-- An advance (R119). -/
theorem State.advance_dataOnly (s : State) (i : StreamId) (d : DataArrival) : State.dataOnly i s (s.advance i d) := by
  have h1 (n : Nat) : State.dataOnly i s (if (s.rxStream i).ordered then s.releaseFirst i n else s) := by
    split
    · exact State.mergeOnly_dataOnly (s.releaseFirst_mergeOnly i n)
    · exact State.dataOnly_refl i s
  have h2 (b : Bool) (x : State) : State.dataOnly i x (if b then x.releaseWalk i else x) := by
    split
    · exact State.mergeOnly_dataOnly (x.releaseWalk_mergeOnly i)
    · exact State.dataOnly_refl i x
  have h3 (b : Bool) (x : State) : State.dataOnly i x (if b then x.settleHold i else x) := by
    split
    · exact State.mergeOnly_dataOnly (x.settleHold_mergeOnly i)
    · exact State.dataOnly_refl i x
  unfold State.advance
  exact State.dataOnly_trans (State.dataOnly_trans (State.dataOnly_trans (State.dataOnly_trans (State.dataOnly_trans
    (h1 _) (State.retire_dataOnly i _ _ _ _ _)) (State.mergeOnly_dataOnly (State.modRx_mergeOnly _ i _))) (h2 _ _))
    (State.firstArrival_dataOnly _ i d)) (h3 _ _)

theorem State.synchronize_dataOnly (s : State) (i : StreamId) (d : DataArrival) :
    State.dataOnly i s (s.synchronize i d) :=
  State.dataOnly_trans (State.mergeOnly_dataOnly (s.modRx_mergeOnly i _)) (State.firstArrival_dataOnly _ i d)

/-- What a DATA frame can touch: its stream, the local port, and the route (R108 to R123). -/
theorem State.takeData_dataOnly (s : State) (d : DataArrival) : State.dataOnly d.copy.stream s (s.takeData d) := by
  unfold State.takeData State.mergeCopy
  dsimp only
  split
  · exact State.mergeOnly_dataOnly (s.modRx_mergeOnly _ _)
  · split
    · split
      · exact s.lateCopy_dataOnly _ _
      · split
        · exact s.takeTracked_dataOnly _ _ d
        · split
          · exact State.dataOnly_trans (State.mergeOnly_dataOnly (s.modRx_mergeOnly _ _))
              (State.firstArrival_dataOnly _ _ d)
          · split
            · exact s.advance_dataOnly _ d
            · exact State.dataOnly_trans (State.mergeOnly_dataOnly (s.resync_mergeOnly _ _ _))
                (State.synchronize_dataOnly _ _ d)
    · exact s.synchronize_dataOnly _ d

end Sys2Proof.Machine
end

