-- ==== Sys2Proof/Laws/Selection.lean ====
section
/-! SUPPORT. A command's result and a re-evaluation commute: the operations of the Route Selector and the Log Unit neither
read nor write a port's last result. -/

namespace Sys2Proof.Machine

/-! ## The last result commutes with a re-evaluation -/

/-- An update of a port's pending set and reading commutes with one of its last result. -/
theorem State.modPort_setResult (s : State) (p q : Port) (r : ResultCode) (g : PortCtx → PortCtx)
    (h : ∀ c : PortCtx, g { c with lastResult := r } = { g c with lastResult := r }) :
    (s.setResult p r).modPort q g = (s.modPort q g).setResult p r := by
  have e : ((s.setResult p r).modPort q g).ports = ((s.modPort q g).setResult p r).ports := by
    by_cases hpq : p = q
    · subst hpq
      simp [State.setResult, State.modPort, State.port, h]
    · have n : p.idx.val ≠ q.idx.val := by revert hpq; cases p <;> cases q <;> decide
      simp only [State.setResult, State.modPort, State.port, Fin.getElem_fin]
      rw [Vector.getElem_set_ne _ _ n, Vector.getElem_set_ne _ _ n.symm, Vector.set_comm _ _ n]
  exact congrArg (fun v => { s with ports := v }) e

theorem State.raiseOn_setResult (s : State) (p q : Port) (r : ResultCode) (k : AttnKind) :
    (s.setResult p r).raiseOn q k = (s.raiseOn q k).setResult p r :=
  State.modPort_setResult s p q r _ (fun _ => rfl)

/-- A fold of operations that each commute with a last result commutes with it. -/
theorem State.foldl_setResult {β : Type} (f : State → β → State) (p : Port) (r : ResultCode)
    (h : ∀ s b, f (s.setResult p r) b = (f s b).setResult p r) (l : List β) (s : State) :
    l.foldl f (s.setResult p r) = (l.foldl f s).setResult p r := by
  induction l generalizing s with
  | nil => rfl
  | cons b l ih => rw [List.foldl_cons, h, ih, List.foldl_cons]

theorem State.raiseAll_setResult (s : State) (p : Port) (r : ResultCode) (k : AttnKind) :
    (s.setResult p r).raiseAll k = (s.raiseAll k).setResult p r :=
  State.foldl_setResult _ p r (fun s q => s.raiseOn_setResult p q r k) _ s

theorem State.recordCheck_setResult (body : RecordBody) (s : State) (p q : Port) (r : ResultCode) :
    State.recordCheck body (s.setResult p r) q = (State.recordCheck body s q).setResult p r := by
  have e : State.checkLogCondition (s.setResult p r) q = (State.checkLogCondition s q).setResult p r := by
    by_cases h : s.logCondition q = true
    · exact (if_pos h).trans ((State.raiseOn_setResult s p q r .log).trans
        (congrArg (State.setResult · p r) (if_pos h).symm))
    · exact (if_neg h).trans (congrArg (State.setResult · p r) (if_neg h).symm)
  by_cases h : (s.reader q).accepts body = true
  · exact (if_pos h).trans (e.trans (congrArg (State.setResult · p r) (if_pos h).symm))
  · exact (if_neg h).trans (congrArg (State.setResult · p r) (if_neg h).symm)

theorem State.overwriteCheck_setResult (serial : Seq) (s : State) (p q : Port) (r : ResultCode) :
    State.overwriteCheck serial (s.setResult p r) q = (State.overwriteCheck serial s q).setResult p r := by
  have e := State.modPort_setResult s p q r
    (fun c => { c with reading := c.reading.map (Reading.overwritten serial) }) (fun _ => rfl)
  unfold State.overwriteCheck
  dsimp only
  rw [e]
  generalize s.modPort q (fun c => { c with reading := c.reading.map (Reading.overwritten serial) }) = u
  by_cases h : (u.reader q).cursor = serial
  · exact (if_pos h).trans ((State.raiseOn_setResult
      (u.modReader q (fun c => { c with cursor := c.cursor + 1, lost := inc16 c.lost })) p q r .lost).trans
      (congrArg (State.setResult · p r) (if_pos h).symm))
  · exact (if_neg h).trans (congrArg (State.setResult · p r) (if_neg h).symm)

/-- Taking a record neither reads nor writes a last result. -/
theorem State.logWrite_setResult (s : State) (p : Port) (r : ResultCode) (body : RecordBody) :
    (s.setResult p r).logWrite body = (s.logWrite body).setResult p r := by
  have e (c : Bool) (o : Seq) (u : State) :
      Port.all.foldl (State.recordCheck body)
        (if c then Port.all.foldl (State.overwriteCheck o) (u.setResult p r) else u.setResult p r)
      = (Port.all.foldl (State.recordCheck body)
        (if c then Port.all.foldl (State.overwriteCheck o) u else u)).setResult p r := by
    rw [← State.foldl_setResult _ p r (fun s q => State.recordCheck_setResult body s p q r)]
    congr 1
    cases c
    · rfl
    · exact State.foldl_setResult _ p r (fun s q => State.overwriteCheck_setResult o s p q r) _ _
  have a : (s.setResult p r).log = s.log := rfl
  have b (g : Log → Log) : (s.setResult p r).modLog g = (s.modLog g).setResult p r := rfl
  have c : (s.setResult p r).time = s.time := rfl
  unfold State.logWrite
  dsimp only
  rw [a, b, c]
  exact e _ _ _

theorem State.abandonProbe_setResult (s : State) (p : Port) (r : ResultCode) :
    (s.setResult p r).abandonProbe = s.abandonProbe.setResult p r := by
  unfold State.abandonProbe
  have a : (s.setResult p r).sounding = s.sounding := rfl
  rw [a]
  cases s.sounding.pendingProbe <;> cases s.sounding.current <;> rfl

theorem State.fallbackReport_setResult (s : State) (p : Port) (r : ResultCode) :
    (s.setResult p r).fallbackReport = s.fallbackReport.setResult p r := by
  have e (a : SweepState) (b : Option SuspendReason) (f g : Sounding → Sounding) :
      (match a, b with
        | .running, _ => (s.setResult p r).abandonProbe.modSounding f
        | .suspended, some .fallback => (s.setResult p r).modSounding g
        | _, _ => s.setResult p r)
      = State.setResult (match a, b with
        | .running, _ => s.abandonProbe.modSounding f
        | .suspended, some .fallback => s.modSounding g
        | _, _ => s) p r := by
    rw [State.abandonProbe_setResult]
    cases a <;> [rfl; rfl; (cases b with | none => rfl | some b => cases b <;> rfl)]
  by_cases h : s.sounding.settle = 0
  · exact (if_pos h).trans (congrArg (State.setResult · p r) (if_pos h).symm)
  · exact (if_neg h).trans ((e _ _ _ _).trans (congrArg (State.setResult · p r) (if_neg h).symm))

theorem State.changePrimary_setResult (s : State) (p : Port) (r : ResultCode) (new : Option Path) (kind : ChangeKind) :
    (s.setResult p r).changePrimary new kind = (s.changePrimary new kind).setResult p r := by
  have e (g : Selector → Selector) (b : RecordBody) :
      (((s.setResult p r).modSelector g).logWrite b).raiseAll .primary
        = (((s.modSelector g).logWrite b).raiseAll .primary).setResult p r := by
    rw [← State.raiseAll_setResult, ← State.logWrite_setResult]; rfl
  unfold State.changePrimary
  dsimp only
  rw [e]
  cases kind <;> first | exact State.fallbackReport_setResult _ p r | rfl

/-- A re-evaluation neither reads nor writes a last result (R78), so a command's OK may be set before it or after it. -/
theorem State.reEvaluate_setResult (s : State) (p : Port) (r : ResultCode) :
    (s.setResult p r).reEvaluate = s.reEvaluate.setResult p r := by
  unfold State.reEvaluate
  dsimp only
  have e (g : Selector → Selector) (x : Option (Option Path × ChangeKind)) :
      (match x with
        | some (new, kind) => ((s.setResult p r).modSelector g).changePrimary new kind
        | none => (s.setResult p r).modSelector g)
      = State.setResult (match x with
        | some (new, kind) => (s.modSelector g).changePrimary new kind
        | none => s.modSelector g) p r := by
    cases x with
    | none => rfl
    | some c => exact State.changePrimary_setResult (s.modSelector g) p r c.1 c.2
  exact congrArg (fun u : State => u.modSelector (fun x => { x with dispatchSet := u.dispatchSetOf })) (e _ _)
/-- What SET SELECTION, PIN PRIMARY and UNPIN PRIMARY leave: the re-evaluation of the answered state with a new selector. -/
theorem State.reEvaluate_answered (s : State) (p : Port) (x : Selector) :
    (State.reEvaluate { s.beginTransaction p with selector := x }).setResult p .ok
      = State.reEvaluate { s.answered p .ok with selector := x } := by
  rw [← State.reEvaluate_setResult, ← State.beginTransaction_setResult]
  rfl

end Sys2Proof.Machine
end

