-- ==== Sys2Proof/Laws/Time.lean ====
section
/-! SUPPORT. What a TOD step and a fresh programming can do to a marker output (R34, R36), and what choosing the active
reference can do (R28). -/

namespace Sys2Proof.Machine

/-- No match time has been reached exactly when TOD's difference from the next one is negative (R19). -/
@[simp] theorem matchesReached_eq_zero {period : Nat} {since : Int} : matchesReached period since = 0 ↔ since < 0 := by
  unfold matchesReached
  split
  · simp_all
  · split <;> simp_all

/-- More match times are reached later. -/
theorem matchesReached_mono {period : Nat} {x y : Int} (h : x ≤ y) : matchesReached period x ≤ matchesReached period y := by
  unfold matchesReached
  split_ifs with h1 h2 h3
  any_goals omega
  have := Int.ediv_le_ediv (show (0 : Int) < period by omega) h
  omega

/-- Either a step leaves an output as it is, or it moves forward, passes a match of the armed output and fires it LATE. -/
theorem Marker.step_cases (mono : Nat) (before : Tod) (d : Int) (m : Marker) :
    m.step mono before d = m
      ∨ m.armed = true ∧ 0 < d ∧ matchesReached m.period (m.since before) < matchesReached m.period (m.since before + d)
        ∧ m.step mono before d
          = m.fireLate mono (matchesReached m.period (m.since before + d) - matchesReached m.period (m.since before))
            (matchesReached m.period (m.since before + d)) := by
  unfold Marker.step
  dsimp only
  split
  · simp_all only [Bool.and_eq_true, decide_eq_true_eq]
    exact .inr ⟨by tauto, by tauto, by omega, trivial⟩
  · exact .inl rfl

/-- A step that does not bring TOD to the match leaves the output as it is (R36). -/
theorem Marker.step_of_not_reached {mono : Nat} {before : Tod} {d : Int} {m : Marker} (h : m.since before + d < 0) :
    m.step mono before d = m := by
  rcases m.step_cases mono before d with e | ⟨-, -, hlt, -⟩
  · exact e
  · rw [matchesReached_eq_zero.mpr h] at hlt
    omega

/-- A match that TOD has not reached leaves a newly programmed output waiting (R34). -/
theorem Marker.settle_of_not_reached {mono : Nat} {tod : Tod} {m : Marker} (h : m.since tod < 0) :
    m.settle mono tod = m := by
  unfold Marker.settle
  simp [matchesReached_eq_zero.mpr h]

/-- A change of the active reference does to the clock what R28 says. -/
theorem TimeUnit.switchActive_eq (t : TimeUnit) {new : Option Ref} (h : new ≠ t.active) :
    t.switchActive new = t.afterSwitch new := by
  have h' : t.active ≠ new := fun e => h e.symm
  unfold TimeUnit.switchActive TimeUnit.afterSwitch
  rcases hd : t.discipline <;> simp only [h', or_false] <;> rcases ha : t.active with _ | a <;> rcases new with _ | n <;>
    cases hq : t.quality <;> simp_all

/-- Choosing the active reference anew changes nothing, or switches to the one chosen, records and raises it, and notes the
change of quality. -/
theorem State.chooseActive_cases (s : State) :
    s.time.chosen = s.time.active ∧ s.chooseActive = s
      ∨ s.time.chosen ≠ s.time.active
        ∧ s.chooseActive = (((s.modTime (fun t => t.afterSwitch s.time.chosen)).logWrite
            (.time .refSwitch (refOffset s.time.chosen))).raiseAll .time).noteQuality s.time.quality 0 := by
  unfold State.chooseActive
  dsimp only
  split
  · exact .inl ⟨by assumption, rfl⟩
  · rename_i h
    refine .inr ⟨h, ?_⟩
    simp only [State.modTime, TimeUnit.switchActive_eq _ h]

end Sys2Proof.Machine
end

