-- ==== Sys2Proof/Tests/Slice0.lean ====
section
/-! SUPPORT. Tests: expected values are the manual's own examples and tables, or hand calculation from its rules. Then a
witness for each statement of Certificates/Slice0 that has hypotheses: a state and operands that meet them. -/

namespace Sys2Proof.Tests

set_option Elab.async false

open Sys2Proof Sys2Proof.Machine

/-! ## Helpers -/

/-- The state an input leaves. -/
def after (s : State) (i : Instr) : State :=
  match exec i s with
  | .next t => t
  | _ => s

/-- The clock set to a MONO. -/
def atMono (s : State) (ns : Nat) : State := s.modTime (fun t => { t with mono := ns })

/-- A path ACTIVE at both ends with the given D (and E), its silence timer far off. -/
def upPath (s : State) (p : Path) (d : Nat) : State :=
  (s.modReceiver p (fun r => { r with silence := .running 1000000000000 })).modEntry p (fun e =>
    { e with state := .active, reason := .starting, farState := some .active, delay := some d, effDelay := d })

/-- The given paths up with their delays, and the selection formed. -/
def up (l : List (Path × Nat)) : State := (l.foldl (fun s x => upPath s x.1 x.2) State.reset).reEvaluate

/-! ## Well-formedness and the transactions' words -/

theorem test_known_code_is_ill_formed : Instr.wellFormed (.unknownCommand .p0 0x01#8 []) = false := by decide
theorem test_unknown_code_is_well_formed : Instr.wellFormed (.unknownCommand .p0 0x00#8 []) = true := by decide
theorem test_bits_spell_no_command : decodeTableWord 8 0x01 = none := by decide
/-- A transaction with no complete byte is ignored (R160). -/
theorem test_no_byte_no_command : decodeTransaction .p0 [] = none := by decide

/-- Transactions of every family written out from R173: code, then arguments, least significant byte first. -/
theorem test_transactions_decode :
    decodeTransaction .p0 [0x01#8] = some (.readId .p0)
      ∧ decodeTransaction .p1 [0x04#8, 0x01#8, 0x01#8] = some (.setAttentionMask .p1 [0x01#8, 0x01#8])
      ∧ decodeTransaction .p0 [0x11#8, 0x02#8] = some (.enablePath .p0 [0x02#8])
      ∧ decodeTransaction .p1 [0x21#8, 0xC8#8, 0x00#8, 0x01#8, 0x01#8, 0xF4#8, 0x01#8]
        = some (.setSelection .p1 [0xC8#8, 0x00#8, 0x01#8, 0x01#8, 0xF4#8, 0x01#8])
      ∧ decodeTransaction .p2 [0x33#8, 0x03#8, 0xF4#8, 0x01#8, 0x00#8, 0x00#8]
        = some (.setTxSequence .p2 [0x03#8, 0xF4#8, 0x01#8, 0x00#8, 0x00#8])
      ∧ decodeTransaction .p1 [0x42#8, 0xFF#8, 0xFF#8, 0xFF#8, 0xFF#8]
        = some (.stepTime .p1 [0xFF#8, 0xFF#8, 0xFF#8, 0xFF#8])
      ∧ decodeTransaction .p0 [0x53#8] = some (.cancelSweep .p0 [])
      ∧ decodeTransaction .p0 [0x63#8, 0x01#8] = some (.seekLog .p0 [0x01#8])
      ∧ decodeTransaction .p1 [0x70#8, 0x64#8, 0x00#8] = some (.setLink .p1 [0x64#8, 0x00#8])
      ∧ decodeTransaction .p1 [0x7F#8] = some (.softReset .p1 [])
      ∧ decodeTransaction .p1 [0xFF#8, 0x00#8] = some (.unknownCommand .p1 0xFF#8 [0x00#8]) := by decide

/-- R160, R175: a byte's most significant bit is shifted first, and bits of an incomplete last byte do not count. -/
theorem test_bits_most_significant_first :
    decodeSerial .p1 [false, false, false, true, false, false, false, true,
        false, false, false, false, false, false, true, false, true, true]
      = some (.enablePath .p1 [0x02#8]) := by decide

/-! ## Frames (R4, R172) -/

/-- The check value of the CRC of R4 over the nine digits "123456789". -/
theorem test_crc_check_value :
    crc [0x31#8, 0x32#8, 0x33#8, 0x34#8, 0x35#8, 0x36#8, 0x37#8, 0x38#8, 0x39#8] = 0xCBF43926#32 := by decide +kernel

/-! ## Commands -/

/-- 10.10, transaction 3: POST MARGIN cut inside an entry is FRAMING, with PROTOCOL on the port. -/
theorem test_post_margin_inside_entry :
    let t := after (up [(.b, 100)]) (.postMargin .p0 [0x01#8, 0x14#8, 0x01#8])
    (t.port .p0).lastResult = .framing ∧ (t.port .p0).framingErrors = 1 ∧ AttnSet.has (t.port .p0).pending .protocol = true
      ∧ (t.entry .b).margin = none := by decide +kernel

/-- 10.10, transaction 4: a margin of 20 on ACTIVE B makes it FADING and raises PATH on every port. -/
theorem test_post_margin_fades :
    let t := after (up [(.b, 100)]) (.postMargin .p0 [0x01#8, 0x14#8])
    (t.entry .b).state = .fading ∧ (t.entry .b).reason = .margin ∧ (t.port .p2).pending.getLsbD 2 = true := by
  decide +kernel

/-- 10.10, transaction 5. -/
theorem test_set_tx_sequence :
    ((after State.reset (.setTxSequence .p2 [0x03#8, 0xF4#8, 0x01#8, 0#8, 0#8])).txStream 3).next = 500 := by
  decide +kernel

/-- 3.13 at 220: a margin of 34 after 6 leads from FAILED to RECOVERING with the hold 10,000 ms ahead. -/
theorem test_margin_recovers :
    let s := atMono ((up [(.c, 100)]).modEntry .c (fun e => { e with state := .failed, reason := .margin, margin := some 6 }))
      220000000000
    let t := after s (.postMargin .p0 [0x02#8, 0x22#8])
    (t.entry .c).state = .recovering ∧ (t.entry .c).reason = .margin ∧ (t.entry .c).holdDeadline = some 230000000000 := by
  decide +kernel

/-- 3.13 at 260: the hold's expiry makes the path ACTIVE with its reason kept. -/
theorem test_hold_expiry_activates :
    let s := atMono ((up [(.c, 100)]).modEntry .c (fun e =>
      { e with state := .recovering, reason := .margin, margin := some 35, holdDeadline := some 260000000000 })) 260000000000
    let t := after s (.recoverHoldExpiry .c)
    (t.entry .c).state = .active ∧ (t.entry .c).reason = .margin ∧ (t.entry .c).holdDeadline = none := by decide +kernel

/-- 3.9.1: three misses make 96, a hit 90, a decay 79; L is eight times the score. -/
theorem test_score_table :
    let s := up [(.d, 100)]
    let t := ((s.retireReport 8 0).retireReport 8 0).retireReport 8 0
    (t.entry .d).score = 96 ∧ (t.entry .d).effDelay = 868 ∧ ((t.retireReport 8 8).entry .d).score = 90
      ∧ ((after (atMono (t.retireReport 8 8) 1000000000) (.scoreDecay .d)).entry .d).score = 79 := by decide +kernel

/-- 4.6.4: path C saturates. -/
theorem test_delay_saturates :
    let s := State.reset.modEntry .c (fun e => { e with margin := some 0, score := 255, lossWeight := 255 })
    ((after s (.setBaseDelay .p1 [0x02#8, 0xC0#8, 0xBC#8, 0xFF#8, 0x00#8])).entry .c).effDelay = 16777215 := by
  decide +kernel

/-- 5.8, event 1: B's E falls to 3,981,588, B becomes primary with kind IMPROVE, and A is held until 500 us. -/
theorem test_improvement_switches :
    let s := up [(.a, 3982031), (.b, 3981948), (.d, 3982400), (.f, 6480120)]
    let s := s.modSelector (fun x => { x with primary := some .a, widthCode := 0 })
    let t := after s (.setBaseDelay .p1 [0x01#8, 0x14#8, 0xC1#8, 0x3C#8, 0x00#8])
    t.selector.primary = some .b ∧ t.selector.guard = some ⟨.a, 500000⟩ ∧ t.selector.dispatchSet = 0x13#5
      ∧ (t.log.records.drop s.log.records.length).map LogRecord.body
        = [.primary (some .a) (some .b) .improve (some 3982031) (some 3981588)] := by
  decide +kernel

/-- 5.8, event 2: B's silence expiry falls back to guard-held A, the PRIMARY record before the STATE record. -/
theorem test_silence_falls_back :
    let s := up [(.a, 3982031), (.b, 3981588), (.d, 3982400), (.f, 6480120)]
    let s := (s.modSelector (fun x => { x with widthCode := 0, guard := some ⟨.a, 500000⟩ })).modReceiver .b
      (fun r => { r with silence := .running 180000 })
    let t := after (atMono s 180000) (.silenceTimerExpiry .b)
    t.selector.primary = some .a ∧ t.selector.guard = none ∧ t.selector.dispatchSet = 0x11#5
      ∧ (t.log.records.drop s.log.records.length).map LogRecord.body
        = [.primary (some .b) (some .a) .fallback (some 3981588) (some 3982031), .state .b .active .failed .silence none] := by
  decide +kernel

/-- 5.8, event 4: the pin makes F primary, D is held until 900 us. -/
theorem test_pin_moves_primary :
    let s := up [(.a, 3982031), (.d, 3981700), (.f, 6480120)]
    let s := s.modSelector (fun x => { x with widthCode := 0, guard := some ⟨.a, 760000⟩ })
    let t := after (atMono s 400000) (.pinPrimary .p1 [0x04#8])
    t.selector.primary = some .f ∧ t.selector.guard = some ⟨.d, 900000⟩ ∧ t.selector.dispatchSet = 0x18#5 := by
  decide +kernel

/-- 6.7, events 2 and 3 on queues of 31 and 32: the frame goes out on B alone, and F counts a tx drop. -/
theorem test_intake_leaves_full_queue_out :
    let c : DataCopy := ⟨3, 0, ⟨0, 0⟩, 1, [0#8]⟩
    let f : PathFrame := ⟨0, 0, .active, .free, .beacon ⟨0, 0⟩⟩
    let fill (n : Nat) (x : Transmitter) : Transmitter := { x with queue := List.replicate n c, inProgress := some ⟨f, false⟩ }
    let s := (((up [(.b, 100), (.f, 200)]).modTransmitter .b (fill 31)).modTransmitter .f (fill 32)).modTx 3
      (fun x => { x with enabled := true, next := 7001 })
    let t := after (after s .localFrameStart) (.localFrameIntake (localFrameBytes 3 [7#8]))
    (t.transmitter .b).queue.length = 32 ∧ (t.transmitter .f).queue.length = 32 ∧ (t.txStream 3).next = 7002
      ∧ (t.entry .f).stats.txDrops = 1 ∧ (t.entry .b).stats.txDrops = 0
      ∧ ((t.transmitter .b).queue.getLast?).map DataCopy.mask = some 2 := by decide +kernel

/-- A stream synchronized at b, with the given slots, release point and front. -/
def stream (s : State) (i : StreamId) (ordered : Bool) (base release : Seq) (slots : List Slot) (deadline : Option Nat) :
    State :=
  s.modRx i (fun x => { x with
    enabled := true, ordered := ordered, windowCode := 0, resyncCode := 4, synced := true, base := base, release := release
    front := base + BitVec.ofNat 32 slots.length, slots := slots, holdDeadline := deadline })

def doneSlot (first seen : PathSet) : Slot := .done ⟨.a, 0, first, seen⟩

def heldSlot (p : Path) (arrival : Nat) : Slot := .held ⟨p, arrival, 3, 1#5 <<< p.idx.val⟩ ⟨[1#8], ⟨0, 0⟩, ⟨0, arrival⟩, .free, .free, true⟩

/-- A valid DATA arrival on a path at a MONO. -/
def arrival (i : StreamId) (seq : Seq) (p : Path) (mono : Nat) : DataArrival :=
  ⟨⟨i, seq, ⟨0, 0⟩, 3, [1#8]⟩, .free, p, ⟨mono, ⟨0, mono⟩, .free⟩⟩

/-- 7.9: sequence 120 on A advances the window to b = 105, f = 121 with one gap (104); 5,000 then jumps. -/
theorem test_immediate_advance_and_jump :
    let slots := List.replicate 4 (doneSlot 3 3) ++ [.empty] ++ List.replicate 5 (doneSlot 3 1)
    let t := (stream (up [(.a, 100)]) 2 false 100 100 slots none).takeData (arrival 2 120 .a 0)
    let u := t.takeData (arrival 2 5000 .a 0)
    (t.rxStream 2).base = 105 ∧ (t.rxStream 2).front = 121 ∧ (t.rxStream 2).gaps = 1 ∧ (t.rxStream 2).slots.length = 16
      ∧ (t.log.records[1]?).map LogRecord.body = some (.gap 2 104 1 .advance)
      ∧ (u.rxStream 2).base = 5000 ∧ (u.rxStream 2).front = 5001 ∧ (u.rxStream 2).resyncs = 1
      ∧ RecordBody.resync 2 121 .jump (some 5000) ∈ u.log.records.map LogRecord.body := by decide +kernel

/-- 7.10 at 60 and 230 us: the walk delivers 50 and 51, the deadline is formed anew as 230 us; its expiry skips 52. -/
theorem test_ordered_walk_and_expiry :
    let slots := List.replicate 10 (doneSlot 3 3) ++ [.empty, heldSlot .a 0, .empty, heldSlot .a 30000]
    let s := stream State.reset 6 true 40 50 slots (some 200000)
    let t := (atMono s 60000).takeData (arrival 6 50 .b 60000)
    let u := after (atMono t 230000) (.holdExpiry 6)
    (t.rxStream 6).release = 52 ∧ (t.rxStream 6).holdDeadline = some 230000 ∧ (u.rxStream 6).release = 54
      ∧ (u.rxStream 6).holdDeadline = none ∧ (u.rxStream 6).gaps = 1
      ∧ RecordBody.gap 6 52 1 .hold ∈ u.log.records.map LogRecord.body := by decide +kernel

/-- 7.10 at 250 and 260 us: 52 is late, 53 a duplicate with a lag of 230 us. -/
theorem test_late_and_duplicate :
    let s := stream State.reset 6 true 52 54 [.skipped, .done ⟨.a, 30000, 3, 1⟩] none
    ((s.takeData (arrival 6 52 .c 250000)).rxStream 6).late = 1
      ∧ ((s.takeData (arrival 6 53 .b 260000)).entry .b).stats.lagMax = 230000 := by decide +kernel

/-- The example after R35 and R36, with the step cut to the range of R23 (log entry 34): matches at 100 and 101 s are
passed by +2,000,000,000 ns, one pulse fires, the skipped count is 1 and the next match is 102 s. -/
theorem test_step_passes_matches :
    let s := State.reset.modTime (fun t => { (t.modMarker .out1 (fun _ =>
      ⟨.pulseHigh, ⟨100, 0⟩, 1000000000, 10, true, false, 0, none⟩)) with tod := ⟨99, 800000000⟩ })
    let t := after s (.stepTime .p1 [0x00#8, 0x94#8, 0x35#8, 0x77#8])
    t.time.tod = ⟨101, 800000000⟩ ∧ t.marker .out1 = ⟨.pulseHigh, ⟨102, 0⟩, 1000000000, 10, true, true, 1, some 1000⟩ := by
  decide +kernel

/-- R19 and R34: a match 2^31 s from TOD counts as ahead, so SET MARKER arms for it and no LATE pulse fires. -/
theorem test_marker_half_range :
    let t := after State.reset (.setMarker .p1 [0#8, 2#8, 0#8, 0#8, 0#8, 128#8, 0#8, 0#8, 0#8, 0#8, 0#8, 0#8, 0#8, 0#8, 1#8, 0#8])
    t.marker .out0 = ⟨.pulseHigh, ⟨2147483648#32, 0⟩, 0, 1, true, false, 0, none⟩ := by decide +kernel

/-- R19 and R36: a step of +1,500 ns does not reach a periodic match 2^31 s ahead, so k is 0 and nothing changes. -/
theorem test_step_half_range :
    let m : Marker := ⟨.pulseHigh, ⟨2147483648#32, 0⟩, 1000, 1, true, false, 0, none⟩
    let s := State.reset.modTime (fun t => t.modMarker .out0 (fun _ => m))
    let t := after s (.stepTime .p1 [0xDC#8, 0x05#8, 0x00#8, 0x00#8])
    t.time.tod = ⟨0, 1500⟩ ∧ t.marker .out0 = m := by decide +kernel

/-- 8.7: a record into a full log takes serial 3,976 from under the cursor, which becomes 3,977 with one lost record. -/
theorem test_full_log_overwrites :
    let records := (List.range 1024).map (fun n => (⟨BitVec.ofNat 32 (3976 + n), ⟨0, 0⟩, .free, .reset⟩ : LogRecord))
    let s := State.reset.modLog (fun l =>
      { l with records := records, next := 5000, readers := Vector.replicate 3 ⟨3976, 0x6#16, 4, 0⟩ })
    let t := s.logWrite (.primary none (some .a) .first none (some 5))
    t.log.records.length = 1024 ∧ t.log.oldest = 3977 ∧ t.reader .p1 = ⟨3977, 0x6#16, 4, 1⟩
      ∧ (t.port .p1).pending = 2#16 := by decide +kernel

/-- Path A swept with two probes of three done, as in 9.10. -/
def sweepOfA (p : Path) (index lost : Nat) (outstanding : Option Outstanding) : State :=
  (up [(.a, 3982050)]).modSounding (fun x => { x with
    state := .running, tag := 12, pathSet := 5, remaining := 4, countCode := 2, spacing := 1000, timeout := 20000
    current := some p, probeIndex := index, outstanding := outstanding, minimum := some 3981030, valid := 2, lost := lost
    lastT1 := some 1015929400 })

/-- 9.10: the deadline of probe 2 ends A's burst OK with D = 3,981,922; FAILED C is skipped and the sweep ends. -/
theorem test_sweep_ends :
    let s := (sweepOfA .a 3 0 (some ⟨2, 1015929400, 1035929400⟩)).modEntry .c (fun e => { e with state := .failed })
    let t := after (atMono s 1035929400) .probeTimeout
    (t.entry .a).delay = some 3981922 ∧ (t.entry .a).effDelay = 3981922 ∧ t.sounding.state = .idle
      ∧ (t.log.records.drop s.log.records.length).map LogRecord.body
        = [.sound .a .ok 2 1 (some 3981030) (some 3981922) false, .sound .c .skipped 0 0 none none false]
      ∧ (t.port .p0).pending.getLsbD 4 = true := by decide +kernel

/-- The example of R148: a round trip of 7,964,512 with residence 1,600 gives 3,981,456. -/
theorem test_echo_sample :
    let s := (up [(.a, 3982050)]).modSounding (fun x => { x with
      state := .running, tag := 12, countCode := 2, spacing := 1000, current := some .a, probeIndex := 1
      outstanding := some ⟨0, 1000000000, 1020000000⟩, lastT1 := some 1000000000 })
    ((atMono s 1000000000).takeEcho .a 12 0 1600 1007964512).sounding.minimum = some 3981456 := by decide +kernel

/-- R151 on the burst of 9.10: silence fails A with two valid samples, so the burst ends OK, halves the score, applies the
minimum to D, and its record follows the STATE record; C is passed over and the sweep ends. -/
theorem test_silence_closes_burst :
    let s := (sweepOfA .a 2 0 none).modEntry .a (fun e => { e with score := 9 })
    let s := atMono (s.modReceiver .a (fun r => { r with silence := .running 1020000000 })) 1020000000
    let t := after s (.silenceTimerExpiry .a)
    (t.entry .a).state = .failed ∧ (t.entry .a).score = 4 ∧ (t.entry .a).delay = some 3981922 ∧ t.sounding.state = .idle
      ∧ (s.written t).drop 1 = [.state .a .active .failed .silence none,
          .sound .a .ok 2 0 (some 3981030) (some 3981922) false, .sound .c .skipped 0 0 none none false] := by
  decide +kernel

/-- R151: DISABLE PATH ends the burst ABORTED although samples are valid, and keeps score and D. -/
theorem test_disable_aborts_burst :
    let s := (sweepOfA .a 2 0 none).modEntry .a (fun e => { e with score := 9 })
    let t := after s (.disablePath .p1 [0#8])
    (t.entry .a).score = 9 ∧ (t.entry .a).delay = some 3982050
      ∧ RecordBody.sound .a .aborted 2 0 (some 3981030) (some 3982050) false ∈ s.written t := by decide +kernel

/-- R41: a path index above 4 is refused ARGUMENT, and nothing but the port changes. -/
theorem test_disable_index_above_4 :
    let s := sweepOfA .a 2 0 none
    after s (.disablePath .p1 [5#8]) = s.answered .p1 .argument := by
  decide +kernel

/-- R146 and 9.10: an echo that arrives after the spacing lets the next probe out at once, its t1 the MONO of that instant. -/
theorem test_echo_issues_next :
    let s := sweepOfA .a 2 0 (some ⟨1, 1015929400, 1035929400⟩)
    let t := (atMono s 1023900000).takeEcho .a 12 1 1600 1023893512
    t.sounding.outstanding = some ⟨2, 1023900000, 1043900000⟩ ∧ t.sounding.probeIndex = 3 ∧ t.sounding.valid = 3
      ∧ ((t.transmitter .a).inProgress.map (fun x => x.frame.body)) = some (.probe 12 2) := by decide +kernel

/-- R42: at the end of the hold a margin of 25, at or above Rc 20 but below Wn 30, leads to FADING with reason MARGIN. -/
theorem test_hold_expiry_fades :
    let s := atMono ((up [(.c, 100)]).modEntry .c (fun e =>
      { e with state := .recovering, margin := some 25, bank0 := ⟨40, 30, 8, 20, 20, 20000⟩, holdDeadline := some 50 })) 50
    let t := after s (.recoverHoldExpiry .c)
    (t.entry .c).state = .fading ∧ (t.entry .c).reason = .margin ∧ (t.entry .c).entered = 50 := by decide +kernel

/-- 10.10, transaction 7: the copied kinds are removed when the response is out. -/
theorem test_attention_read_removes :
    let s := State.reset.modPort .p0 (fun c => { c with pending := 0x0104#16, mask := 0x0104#16 })
    let t := after (after s (.readAttention .p0)) (.attentionReadComplete .p0)
    (t.port .p0).response = [0x04#8, 0x01#8, 0x04#8, 0x01#8] ∧ (t.port .p0).pending = 0 := by decide +kernel

/-- The status byte (R165): last result RIGHTS (3), output asserted, RESETTING and sweep active clear. -/
theorem test_status_byte :
    let s := State.reset.modPort .p0 (fun c => { c with pending := 4#16, mask := 4#16, lastResult := .rights })
    s.statusByte .p0 = 0x13#8 := by decide +kernel

/-- R171: a read refused RIGHTS is in progress until select rises; a soft reset meanwhile makes its result BUSY there. -/
theorem test_refused_read_interrupted :
    let s := State.ofStraps 15 .observer .operator .gateway
    let t := after s (.readCapture .p0 [0#8])
    let u := after (after t (.softReset .p1 [])) (.interruptedReadSelectRise .p0)
    (t.port .p0).lastResult = .rights ∧ (t.port .p0).dataOut ≠ none ∧ (u.port .p0).lastResult = .busy
      ∧ (u.port .p0).dataOut = none := by decide +kernel

/-- R163, R175: data out is driven while the response of READ ID is clocked out, and no longer once select has risen. -/
theorem test_select_rise_ends_read :
    let t := after State.reset (.readId .p0)
    let u := after t (.interruptedReadSelectRise .p0)
    (t.port .p0).dataOut ≠ none ∧ (u.port .p0).dataOut = none ∧ (u.port .p0).lastResult = .ok := by decide +kernel

/-- R77, R38, R143: SOFT RESET keeps no selection parameter, no pin, no path timer and no sweep setting. -/
theorem test_soft_reset_keeps_no_parameter :
    let s := (State.reset.modEntry .b (fun e => { e with silenceTimeout := 100, weight := 7 })).modSounding
      (fun x => { x with spacing := 99, tag := 4 })
    let s := { s with selector := { s.selector with pin := some .b, hysteresis := 1, rank := [.b, .a, .c, .d, .f] } }
    let t := after s (.softReset .p1 [])
    t.selector.pin = none ∧ t.selector.hysteresis = 200 ∧ t.selector.rank = [.a, .b, .c, .d, .f]
      ∧ (t.entry .b).silenceTimeout = 2000 ∧ (t.entry .b).weight = 2 ∧ t.sounding.spacing = 10 ∧ t.sounding.tag = 0 := by
  decide +kernel

/-- The delivered frame of R17 and R172 with its trailer: sequence 1, path F, arrival at 5 s 7 ns. -/
theorem test_delivered_frame_trailer :
    let f : DeliveredFrame := ⟨3, [0xAA#8], 1, .f, ⟨5, 7⟩⟩
    f.bytes.length = 21 ∧ f.bytes.take 17
      = [3#8, 1#8, 0#8, 0xAA#8, 1#8, 0#8, 0#8, 0#8, 4#8, 5#8, 0#8, 0#8, 0#8, 7#8, 0#8, 0#8, 0#8] := by decide +kernel

/-- R46, R51: SET PATH TIMERS with another recover hold leaves the deadline of a running hold; a path that enters RECOVERING
by it takes the new length. -/
theorem test_timers_keep_running_hold :
    let c : Instr := .setPathTimers .p1 ([0#8] ++ leBytes 4 2000 ++ leBytes 2 100 ++ leBytes 2 50 ++ leBytes 2 3 ++ leBytes 2 5000)
    let held := (up [(.a, 100)]).modEntry .a (fun e => { e with state := .recovering, holdDeadline := some 77 })
    let failed := (up [(.a, 100)]).modEntry .a (fun e => { e with state := .failed })
    ((after held c).entry .a).state = .recovering ∧ ((after held c).entry .a).holdDeadline = some 77
      ∧ ((after failed c).entry .a).state = .recovering ∧ ((after failed c).entry .a).holdDeadline = some 3000000 := by
  decide +kernel

/-! ## Witnesses -/

theorem of_all {α : Type} {P : α → Prop} [DecidablePred P] {x : Option α} (h : x.all (fun a => decide (P a)) = true) :
    ∀ a, x = some a → P a := by
  rintro a rfl
  simpa using h

theorem forall_path {P : Path → Prop} (h : P .a ∧ P .b ∧ P .c ∧ P .d ∧ P .f) : ∀ p, P p := by
  obtain ⟨ha, hb, hc, hd, hf⟩ := h
  intro p
  cases p <;> assumption

/-- Every deadline reached by the next tick, at MONO 100,000. -/
def due : State :=
  let s := State.reset.modEntry .a (fun e => { e with
    state := .recovering, window := some ⟨0, 100000, 0⟩, holdDeadline := some 100000, reportDeadline := some 100000
    decayDeadline := 100000 })
  let s := (s.modReceiver .a (fun r => { r with silence := .running 100000 })).modTransmitter .a (fun x =>
    { x with beacon := .running 0 })
  let s := (s.modSelector (fun x => { x with guard := some ⟨.a, 100000⟩ })).modRx 7 (fun x => { x with holdDeadline := some 100000 })
  let s := s.modSounding (fun x => { x with outstanding := some ⟨0, 0, 100000⟩ })
  let s := s.modTime (fun t => t.modMarker .out1 (fun m => { m with pulseEnd := some 100000 }))
  atMono { s with resetting := some 100000 } 99999

theorem witness_ReachedDeadlinesQueueInputs : due.pending = [] ∧ due.resetting = some (due.mono + 1)
    ∧ (due.receiver .a).silence = .running (due.mono + 1) ∧ (due.entry .a).window = some ⟨0, due.mono + 1, 0⟩
    ∧ (due.entry .a).state = .recovering ∧ (due.entry .a).holdDeadline = some (due.mono + 1)
    ∧ (due.entry .a).reportDeadline = some (due.mono + 1) ∧ (due.entry .a).decayDeadline = due.mono + 1
    ∧ (due.transmitter .a).beacon = .running 0 ∧ due.beaconInterval * 1000 = due.mono + 1
    ∧ due.selector.guard = some ⟨.a, due.mono + 1⟩ ∧ (due.rxStream 7).holdDeadline = some (due.mono + 1)
    ∧ due.sounding.outstanding = some ⟨0, 0, due.mono + 1⟩ ∧ (due.marker .out1).pulseEnd = some (due.mono + 1) := by
  decide +kernel

theorem witness_IdleStepAdvancesClock : State.reset.pending = [] := by decide

/-- A part whose port P0 is an OBSERVER. -/
def observed : State := State.ofStraps 15 .observer .gateway .operator

theorem witness_InputsKeepStrapsQueueAndMono :
    ∃ t, exec .probeIssue State.reset = .next t
      ∧ ∀ site r0 r1 r2, Instr.probeIssue ≠ .pinReset site r0 r1 r2 ∧ Instr.probeIssue ≠ .powerOnReset site r0 r1 r2 :=
  ⟨_, rfl, fun _ _ _ _ => ⟨nofun, nofun⟩⟩

theorem witness_PortChecksRefuse :
    Instr.portArgs (.setLink .p0 [0#8]) = some (.p0, [0#8]) ∧ Instr.framing (.setLink .p0 [0#8]) = some false
      ∧ Instr.framing (.setLink .p0 [0#8, 0#8]) = some true ∧ due.resetting ≠ none
      ∧ Instr.setLink .p0 [0#8, 0#8] ≠ .readId .p0
      ∧ State.reset.resetting = none ∧ Instr.permits (.setLink .p0 [0#8, 0#8]) (State.reset.port .p0).role = false
      ∧ Instr.permits (.setCapture .p2 [1#8, 0#8, 0#8, 0#8]) (State.reset.port .p2).role = false
      ∧ Instr.permits (.setCapture .p2 [2#8, 0#8, 0#8, 0#8]) (State.reset.port .p2).role = true
      ∧ isCommandCode 0x00#8 = false ∧ isCommandCode 0x05#8 = false ∧ isCommandCode 0x80#8 = false := by decide +kernel

theorem witness_ObserverChangesNothingShared :
    let i : Instr := .setAttentionMask .p0 [1#8, 0#8]
    i.wellFormed = true ∧ i.portArgs = some (.p0, [1#8, 0#8]) ∧ (observed.port .p0).role = .observer
      ∧ ∃ t, exec i observed = .next t :=
  ⟨by decide, by decide, by decide, _, rfl⟩

theorem witness_StatusByteShown :
    let i : Instr := .readLog .p2
    i.wellFormed = true ∧ i.portArgs = some (.p2, []) ∧ ∃ t, exec i State.reset = .next t :=
  ⟨by decide, by decide, _, rfl⟩

/-- READ STATUS, READ ATTENTION, the plain reads, READ LOG, SET LOG FILTER and SEEK LOG ask only that no soft reset period
runs; the arguments stand at the ends of their ranges. -/
theorem witness_reads : State.reset.resetting = none ∧ (4#8).toNat = Path.f.idx.val ∧ 4 < (5#8).toNat
    ∧ (7#8).toNat = (7 : StreamId).val ∧ 7 < (8#8).toNat ∧ (3#8).toNat = Channel.mark1.idx.val ∧ 3 < (4#8).toNat
    ∧ (observed.port .p0).role = .observer ∧ observed.resetting = none ∧ (State.reset.port .p2).role ≠ .observer
    ∧ (1#8).toNat < 2 ∧ 2 ≤ (2#8).toNat ∧ 1 < (2#8).toNat ∧ (1#8).toNat ≤ 1
    ∧ ((254#8).toNat % 2 = 0 ∧ (3#8).toNat < 4 ∧ 1 ≤ (0#8).toNat + 256 * (4#8).toNat
      ∧ (0#8).toNat + 256 * (4#8).toNat ≤ 1024) ∧ 1024 < (1#8).toNat + 256 * (4#8).toNat := by decide +kernel

/-- A READ ATTENTION, a READ LOG head, image and EMPTY image, and the PEEK LOG ones, being clocked out on P0. -/
def readingOf (r : Reading) : State :=
  (State.reset.logWrite .reset).modPort .p0 (fun c => { c with reading := some r })

theorem witness_AttentionReadAndMasked :
    ((readingOf (.attention 5 1)).port .p0).reading = some (.attention 5 1) := by decide +kernel

theorem witness_LogReadsMoveCursor :
    ((readingOf (.log (.head 0))).port .p0).reading = some (.log (.head 0))
      ∧ ((readingOf (.log (.head 0))).log.since 0).find?
          (fun r => ((readingOf (.log (.head 0))).reader .p0).filter.getLsbD r.body.kindCode)
        = some ⟨0, ⟨0, 0⟩, .free, .reset⟩
      ∧ (∀ r ∈ State.reset.log.since 0, (State.reset.reader .p0).filter.getLsbD r.body.kindCode = false)
      ∧ ((readingOf (.peek 0 (.head 0))).port .p0).reading = some (.peek 0 (.head 0))
      ∧ (let s := readingOf (.log (.image 0))
         (s.port .p0).reading = some (.log (.image 0))
          ∧ ((s.reader .p0).cursor - s.log.oldest).toNat < ((0 : Seq) + 1 - s.log.oldest).toNat
          ∧ ((0 : Seq) + 1 - s.log.oldest).toNat ≤ s.log.records.length)
      ∧ (let s := readingOf (.log (.empty 1))
         (s.port .p0).reading = some (.log (.empty 1))
          ∧ ((s.reader .p0).cursor - s.log.oldest).toNat < ((1 : Seq) - s.log.oldest).toNat
          ∧ ((1 : Seq) - s.log.oldest).toNat ≤ s.log.records.length)
      ∧ (let s := (readingOf (.log (.image 0))).modReader .p0 (fun c => { c with cursor := 1 })
         (s.port .p0).reading = some (.log (.image 0))
          ∧ ((0 : Seq) + 1 - s.log.oldest).toNat ≤ ((s.reader .p0).cursor - s.log.oldest).toNat
          ∧ ∀ r ∈ s.log.since 1, (s.reader .p0).filter.getLsbD r.body.kindCode = false)
      ∧ (let s := (readingOf (.log (.empty 0))).modReader .p0 (fun c => { c with cursor := 0 })
         (s.port .p0).reading = some (.log (.empty 0))
          ∧ ((0 : Seq) - s.log.oldest).toNat ≤ ((s.reader .p0).cursor - s.log.oldest).toNat
          ∧ (s.log.since 0).find? (fun r => (s.reader .p0).filter.getLsbD r.body.kindCode) = some ⟨0, ⟨0, 0⟩, .free, .reset⟩)
      ∧ ((readingOf (.peek 0 (.image 0))).port .p0).reading = some (.peek 0 (.image 0))
      ∧ (let l := (readingOf (.peek 0 (.image 0))).log
         ((0 : Seq) - l.oldest).toNat < ((0 : Seq) + 1 - l.oldest).toNat ∧ ((0 : Seq) + 1 - l.oldest).toNat ≤ l.records.length
          ∧ ((0 : Seq) + 1 - l.oldest).toNat ≤ ((1 : Seq) - l.oldest).toNat)
      ∧ ((readingOf (.peek 0 (.empty 1))).port .p0).reading = some (.peek 0 (.empty 1)) := by decide +kernel

/-- A full log with the port's cursor at the overwritten serial and one that it does not match (see also
test_full_log_overwrites); a record that P0's filter leaves out. -/
theorem witness_RecordTaken :
    let records := (List.range 1024).map (fun n => (⟨BitVec.ofNat 32 n, ⟨0, 0⟩, .free, .reset⟩ : LogRecord))
    let s := State.reset.modLog (fun l => { l with records := records, next := 1024, readers := Vector.replicate 3 ⟨0, 2#16, 1024, 0⟩ })
    1024 ≤ s.log.records.length ∧ (s.reader .p0).cursor = s.log.oldest ∧ ¬1024 ≤ State.reset.log.records.length
      ∧ (State.reset.reader .p0).filter.getLsbD (RecordBody.kindCode .reset) = true
      ∧ ((State.reset.logWrite .reset).reader .p0).watermark ≤ (State.reset.logWrite .reset).unread .p0
      ∧ (s.reader .p0).filter.getLsbD (RecordBody.kindCode .reset) = false := by decide +kernel

theorem witness_SoftResetTaken : State.reset.resetting = none ∧ (State.reset.port .p1).role = .operator
    ∧ ((readingOf (.log (.head 0))).port .p0).reading ≠ none := by decide +kernel

theorem witness_SoftResetPeriodEnds :
    (atMono due 100000).resetting = some 100000 ∧ 100000 ≤ (atMono due 100000).mono ∧ due.mono < 100000
      ∧ State.reset.resetting = none ∧ ((readingOf .interrupted).port .p0).reading = some .interrupted
      ∧ (State.reset.port .p0).reading = none
      ∧ (let r := ((after State.reset (.readId .p0)).port .p0).reading
         r ≠ none ∧ r ≠ some .interrupted)
      ∧ (let s := (due.modReceiver .f (fun r => { r with arriving := some ⟨⟨5, ⟨0, 5⟩, .free⟩, false⟩ })).modLocal (fun l =>
           { l with arriving := some ⟨⟨3, 4⟩, true⟩ })
         (s.receiver .f).arriving = some ⟨⟨5, ⟨0, 5⟩, .free⟩, false⟩ ∧ s.resetting ≠ none
          ∧ s.localPort.arriving = some ⟨⟨3, 4⟩, true⟩) := by decide +kernel

theorem witness_FramesRoundTrip :
    (let c : DataCopy := ⟨7, 0xFFFFFFFF#32, ⟨0, 999999999⟩, 31#5, List.replicate 1408 255#8⟩
     c.origin.ns < 1000000000 ∧ c.mask ≠ 0 ∧ 1 ≤ c.payload.length ∧ c.payload.length ≤ 1408)
      ∧ (List.replicate 1409 255#8).length < 65536
      ∧ (let f : DeliveredFrame := ⟨7, List.replicate 1408 255#8, 0xFFFFFFFF#32, .f, ⟨0xFFFFFFFF#32, 999999999⟩⟩
         f.payload.length < 65536 ∧ f.arrival.ns < 4294967296) := by decide +kernel

theorem witness_TransactionRoundTrip :
    Instr.wellFormed (.unknownCommand .p2 0x80#8 [1#8]) = true
      ∧ encodeTransaction (.unknownCommand .p2 0x80#8 [1#8]) = some (.p2, [0x80#8, 1#8])
      ∧ decodeTransaction .p0 [0x01#8, 0x02#8] = some (.readId .p0) ∧ [true, false, true, true, false, true, true].length < 8 := by
  decide

/-- A path frame whose first byte has arrived at MONO 5 on a path. -/
def arriving (s : State) (p : Path) : State :=
  s.modReceiver p (fun r => { r with arriving := some ⟨⟨5, ⟨0, 5⟩, .free⟩, false⟩ })

def beaconOf (site pathId : BitVec 4) : PathFrame := ⟨site, pathId, .active, .locked, .beacon ⟨1, 2⟩⟩

/-- Path F up, a window whose next check error reaches the limit, site 3 the only peer. -/
def listening : State :=
  { arriving ((up [(.f, 100)]).modEntry .f (fun e => { e with window := some ⟨0, 1000, 49⟩ })) .f with peerSite := some 3 }

theorem witness_FrameChecksCount :
    (listening.receiver .f).arriving = some ⟨⟨5, ⟨0, 5⟩, .free⟩, false⟩ ∧ listening.resetting = none
      ∧ parsePathFrame (beaconOf 3 3).bytes = some (beaconOf 3 3) ∧ (3#4).toNat ≠ Path.f.idx.val
      ∧ parsePathFrame (beaconOf 4 4).bytes = some (beaconOf 4 4) ∧ listening.peerSite = some 3 ∧ (4#4) ≠ 3#4
      ∧ (listening.entry .f).state ≠ .disabled ∧ parsePathFrame ((beaconOf 3 4).bytes.set 0 0#8) = none
      ∧ (listening.entry .f).errorLimit = 50 ∧ (listening.entry .f).state ≠ .failed
      ∧ (listening.receiver .f).silence = .running 1000000000000
      ∧ ((arriving State.reset .f).entry .f).state = .disabled
      ∧ (let below := (listening.modEntry .f (fun e => { e with window := some ⟨0, 1000, 48⟩ })).entry .f
         let counted := { below with window := some ⟨0, 1000, 49⟩ }
         counted.exhausted = false ∧ (counted.evaluatesTo .f 0).1 = below.state)
      ∧ (let swept := listening.modSounding (fun x => { x with state := .running, current := some .f })
         swept.sounding.current = some .f ∧ (swept.receiver .f).silence = .running 1000000000000)
      ∧ (let failed := (listening.modEntry .f (fun e => { e with state := .failed })).entry .f
         failed.state = .failed ∧ { failed with window := some ⟨0, 1000, 50⟩ }.exhausted = true) := by decide +kernel

theorem witness_DisabledPathDiscards :
    let s := arriving State.reset .f
    (s.receiver .f).arriving = some ⟨⟨5, ⟨0, 5⟩, .free⟩, false⟩ ∧ s.resetting = none
      ∧ parsePathFrame (beaconOf 3 4).bytes = some (beaconOf 3 4) ∧ (s.entry .f).state = .disabled := by decide +kernel

theorem witness_ValidFrameReported :
    (listening.receiver .f).arriving = some ⟨⟨5, ⟨0, 5⟩, .free⟩, false⟩ ∧ listening.resetting = none
      ∧ parsePathFrame (beaconOf 3 4).bytes = some (beaconOf 3 4) ∧ (listening.entry .f).state ≠ .disabled
      ∧ (4#4).toNat = Path.f.idx.val ∧ listening.peerSite = some 3 ∧ (listening.entry .f).exhausted = false
      ∧ (let s := arriving ((up [(.d, 100)]).modEntry .d (fun e => { e with state := .failed })) .d
         let frames : List PathFrame := [.data ⟨7, 9, ⟨0, 0⟩, 8#5, [1#8]⟩, .beacon ⟨1, 2⟩, .probe 12#8 2, .echo 12#8 2 1600].map
           (fun b => ⟨3, 3, .active, .locked, b⟩)
         (s.receiver .d).arriving = some ⟨⟨5, ⟨0, 5⟩, .free⟩, false⟩ ∧ s.resetting = none ∧ s.peerSite = none
          ∧ (∀ f ∈ frames, parsePathFrame f.bytes = some f ∧ f.pathId.toNat = Path.d.idx.val)
          ∧ (s.entry .d).state = .failed ∧ (s.entry .d).exhausted = false ∧ (s.entry .d).bank.ordered = true
          ∧ 1 ≤ (s.entry .d).recoverHold) := by decide +kernel

/-- A burst on A whose probe 1 of 3 is outstanding at 10,000 ns, the spacing not yet passed. -/
def burst (index : Nat) : State :=
  atMono ((sweepOfA .a index 0 (some ⟨index - 1, 10000, 20010000⟩)).modSounding (fun x =>
    { x with remaining := 0, lastT1 := some 10000 })) 10001

theorem witness_EchoesAnsweredAndSampled :
    (∀ y, (burst 3).selector.primary = some y → (burst 3).eligible y = true)
      ∧ ((State.reset.transmitter .a).inProgress ≠ none ∨ (State.reset.entry .a).state = .disabled)
      ∧ ((burst 2).transmitter .a).inProgress = none ∧ ((burst 2).entry .a).state ≠ .disabled
      ∧ State.reset.sounding.outstanding = none ∧ (burst 2).sounding.outstanding = some ⟨1, 10000, 20010000⟩
      ∧ (burst 2).sounding.current = some .a ∧ (burst 2).sounding.tag = 12 ∧ (burst 2).sounding.tag ≠ 11
      ∧ (burst 2).sounding.probeIndex < (burst 2).sounding.countCode + 1
      ∧ (burst 2).mono < 10000 + (burst 2).sounding.spacing * 1000 ∧ 10001 - 10000 ≤ 1 ∧ 0 < 10001 - 10000
      ∧ (burst 3).sounding.countCode + 1 ≤ (burst 3).sounding.probeIndex ∧ (burst 3).sounding.remaining = 0
      ∧ (burst 3).sounding.outstanding = some ⟨2, 10000, 20010000⟩
      ∧ (let late := atMono (burst 2) 1010000
         late.sounding.probeIndex < late.sounding.countCode + 1 ∧ late.sounding.lastT1 = some 10000
          ∧ 10000 + late.sounding.spacing * 1000 ≤ late.mono ∧ (late.transmitter .a).inProgress = none)
      ∧ (let more := (burst 3).modSounding (fun x => { x with remaining := 4 })
         more.sounding.countCode + 1 ≤ more.sounding.probeIndex ∧ more.sounding.remaining ≠ 0
          ∧ more.skippedTurns = [.c] ∧ more.turnPath = none) := by
  refine ⟨of_all ?_, ?_⟩ <;> decide +kernel

/-- Path A's transmitter with a frame in progress. -/
def sending (s : State) (g : Transmitter → Transmitter) : State :=
  s.modTransmitter .a (fun x => g { x with inProgress := some ⟨beaconOf 0 0, false⟩ })

def copyA : DataCopy := ⟨3, 9, ⟨0, 0⟩, 1, [1#8]⟩

theorem witness_TransmitEndChoosesNext :
    let s := sending (up [(.a, 100)])
    ((s id).transmitter .a).inProgress = some ⟨beaconOf 0 0, false⟩ ∧ ((s id).entry .a).state ≠ .disabled
      ∧ ((sending State.reset id).entry .a).state = .disabled
      ∧ ((s (fun x => { x with echo := some ⟨1, 0, 0⟩ })).transmitter .a).echo = some ⟨1, 0, 0⟩
      ∧ ((s (fun x => { x with probe := some ⟨1, 15⟩ })).transmitter .a).probe = some ⟨1, 15⟩
      ∧ ((s (fun x => { x with probe := some ⟨1, 15⟩ })).transmitter .a).echo = none
      ∧ ((s (fun x => { x with queue := [copyA] })).transmitter .a).queue = [copyA]
      ∧ ((s (fun x => { x with queue := [copyA] })).transmitter .a).probe = none
      ∧ ((s (fun x => { x with queue := [copyA] })).transmitter .a).echo = none
      ∧ ((s id).transmitter .a).queue = [] := by decide +kernel

/-- Path A idle with its beacon wait running since 0. -/
def waiting (ns : Nat) : State :=
  atMono ((up [(.a, 100)]).modTransmitter .a (fun x => { x with beacon := .running 0 })) ns

theorem witness_BeaconsSent :
    ((waiting 99999).transmitter .a).beacon = .running 0 ∧ (waiting 99999).mono < 0 + (waiting 99999).beaconInterval * 1000
      ∧ 0 + (waiting 100000).beaconInterval * 1000 ≤ (waiting 100000).mono
      ∧ ((sending (waiting 100000) id).transmitter .a).inProgress ≠ none
      ∧ ((sending (waiting 100000) id).transmitter .a).beacon = .running 0
      ∧ (let x := (waiting 100000).transmitter .a
         x.inProgress = none ∧ x.echo = none ∧ x.probe = none ∧ x.queue = [])
      ∧ ((waiting 100000).entry .a).state ≠ .disabled ∧ (waiting 100000).resetting = none
      ∧ ((waiting 100000).port .p1).role = .operator ∧ (9#8).toNat + 256 * (0#8).toNat < 10
      ∧ 10 ≤ (10#8).toNat + 256 * (0#8).toNat ∧ (16#8).toNat + 256 * (39#8).toNat = 10000
      ∧ 10000 < (17#8).toNat + 256 * (39#8).toNat := by decide +kernel

theorem witness_EnablePathTaken :
    State.reset.resetting = none ∧ (State.reset.port .p1).role = .operator
      ∧ ((State.reset.port .p0).role = .supervisor ∧ (State.reset.entry .f).locked = false)
      ∧ (4#8).toNat = Path.f.idx.val ∧ (State.reset.entry .f).state = .disabled ∧ State.reset.sounding.current ≠ some .f
      ∧ (listening.entry .f).state ≠ .disabled ∧ (listening.port .p1).role = .operator ∧ listening.resetting = none
      ∧ (State.reset.transmitter .f).inProgress = none ∧ (State.reset.transmitter .f).echo = none
      ∧ (State.reset.transmitter .f).probe = none ∧ 4 < (5#8).toNat := by decide +kernel

theorem witness_DisablePathTaken :
    listening.resetting = none ∧ (listening.port .p1).role = .operator ∧ (4#8).toNat = Path.f.idx.val
      ∧ (listening.entry .f).state ≠ .disabled ∧ listening.log.records.length ≤ 1000
      ∧ (State.reset.entry .f).state = .disabled
      ∧ ((burst 2).sounding.current = some .a ∧ ((burst 2).entry .a).state ≠ .disabled ∧ (burst 2).resetting = none
        ∧ ((burst 2).port .p1).role = .operator ∧ (0#8).toNat = Path.a.idx.val)
      ∧ (listening.port .p0).role = .supervisor ∧ 4 < (5#8).toNat := by decide +kernel

theorem witness_LocksBindSupervisor :
    let s := State.reset.modEntry .d (fun e => { e with locked := true })
    s.resetting = none ∧ (s.port .p0).role = .supervisor ∧ (s.entry .d).locked = true ∧ (3#8).toNat = Path.d.idx.val
      ∧ Path.d ≠ .f ∧ (1#8).toNat ≤ 1 := by decide +kernel

/-- Path A locked and swept: an event, and a command from a port that is no OPERATOR, with their next states. -/
theorem witness_LocksBindSupervisor_inputs :
    let s := (burst 2).modEntry .a (fun e => { e with locked := true })
    (s.entry .a).locked = true
      ∧ ∀ i ∈ [Instr.probeTimeout, .disablePath .p0 [0#8]], (∃ t, exec i s = .next t)
        ∧ (∀ site r0 r1 r2, i ≠ .pinReset site r0 r1 r2 ∧ i ≠ .powerOnReset site r0 r1 r2)
        ∧ ∀ port args, i.portArgs = some (port, args) → (s.port port).role ≠ .operator := by
  refine ⟨by decide +kernel, ?_⟩
  rw [List.forall_mem_cons, List.forall_mem_singleton]
  refine ⟨⟨⟨_, rfl⟩, fun _ _ _ _ => ⟨nofun, nofun⟩, nofun⟩, ⟨_, rfl⟩, fun _ _ _ _ => ⟨nofun, nofun⟩, ?_⟩
  rintro port args h
  cases h
  decide +kernel

/-- R54: the sample of a burst on a locked path leaves D as it is, with HELD set in its record, and halves the score. -/
theorem test_locked_delay_held :
    let s := (sweepOfA .a 3 0 (some ⟨2, 1015929400, 1035929400⟩)).modEntry .a (fun e => { e with locked := true, score := 9 })
    let t := after (atMono s 1035929400) .probeTimeout
    (t.entry .a).delay = some 3982050 ∧ (t.entry .a).score = 4
      ∧ RecordBody.sound .a .ok 2 1 (some 3981030) (some 3982050) true ∈ s.written t := by decide +kernel

theorem witness_LocksSetAndCleared :
    State.reset.resetting = none ∧ (State.reset.port .p0).role ≠ .operator ∧ (State.reset.port .p1).role = .operator
      ∧ (4#8).toNat = Path.f.idx.val ∧ 4 < (5#8).toNat := by decide

theorem witness_PathStatsAndPeerSite :
    State.reset.resetting = none ∧ (State.reset.port .p2).role = .gateway ∧ (State.reset.port .p0).role = .supervisor
      ∧ (State.reset.port .p1).role = .operator ∧ (4#8).toNat = Path.f.idx.val ∧ (4 < (5#8).toNat ∧ (254#8).toNat < 255)
      ∧ (15#8).toNat ≤ 15 ∧ 15 < (16#8).toNat := by decide

/-- The commands of an OPERATOR on P1 of the reset part: settings at the ends of their ranges and just beyond. -/
theorem witness_PathTimersStored :
    let s := listening
    let ranges (silence window limit report : Nat) : Bool :=
      decide (100 ≤ silence ∧ silence ≤ 100000 ∧ 1 ≤ window ∧ 1 ≤ limit ∧ 100 ≤ report ∧ report ≤ 60000)
    s.resetting = none ∧ (s.port .p1).role = .operator ∧ ranges 100 1 1 100 = true ∧ ranges 100000 65535 65535 60000 = true
      ∧ ranges 99 1 1 100 = false ∧ ranges 100 0 1 100 = false ∧ ranges 100 1 1 60001 = false
      ∧ (4#8).toNat = Path.f.idx.val ∧ 4 < (5#8).toNat ∧ (s.entry .f).window = some ⟨0, 1000, 49⟩ ∧ 49 ≤ 49
      ∧ (s.receiver .f).silence = .running 1000000000000 ∧ (s.entry .f).state ≠ .failed
      ∧ (State.reset.entry .f).state = .disabled
      ∧ (let e := ((up [(.a, 100)]).modEntry .a (fun e => { e with state := .recovering, holdDeadline := some 77 })).entry .a
         ((up [(.a, 100)]).receiver .a).silence.silent = false ∧ { e with errorLimit := 1 }.exhausted = false
          ∧ Path.a ≠ .f ∧ e.bankOne = false ∧ e.bank0.fl < e.bank0.wn ∧ e.bank0.wn ≤ e.bank0.k ∧ e.bank0.fl < e.bank0.rc
          ∧ e.evaluatesTo .a 76 = (.recovering, .starting) ∧ e.evaluatesTo .a 77 = (.active, .starting)) := by
  decide +kernel

/-- Path D in contact: SET THRESHOLDS of its active bank, of the other one, and SELECT BANK from OPERATOR and SUPERVISOR. -/
theorem witness_ThresholdsStored :
    let s := (up [(.d, 100)]).modEntry .d (fun e => { e with margin := some 20 })
    s.resetting = none ∧ (s.port .p1).role = .operator ∧ (s.port .p0).role = .supervisor ∧ (s.entry .d).locked = false
      ∧ (3#8).toNat = Path.d.idx.val ∧ Path.d ≠ .f ∧ 3 < (4#8).toNat
      ∧ (1#8).toNat ≤ 1 ∧ 1 < (2#8).toNat ∧ (s.entry .d).bankOne = decide ((0#8).toNat = 1)
      ∧ (s.entry .d).bankOne ≠ decide ((1#8).toNat = 1)
      ∧ ((-128 : Int) < -127 ∧ (-127 : Int) ≤ -127 ∧ (-128 : Int) < 127) ∧ ¬((8 : Int) < 8)
      ∧ Bank.ordered { s.entry .d with bankOne := decide ((1#8).toNat = 1) }.bank = true ∧ (s.entry .d).state = .active
      ∧ (s.receiver .d).silence.silent = false ∧ (s.entry .d).exhausted = false
      ∧ (after s (.setThresholds .p1 [3#8, 0#8, 40#8, 24#8, 21#8, 32#8, 0#8, 0#8, 0#8])).entry .d
        = { s.entry .d with
            bank0 := ⟨40, 24, 21, 32, 0, 0⟩, state := .failed, reason := .margin } := by decide +kernel

theorem witness_SmoothingAndBaseDelayStored :
    State.reset.resetting = none ∧ (State.reset.port .p1).role = .operator ∧ (0#8).toNat = Path.a.idx.val
      ∧ 4 < (5#8).toNat ∧ (7#8).toNat ≤ 7 ∧ 7 < (8#8).toNat ∧ State.reset.sounding.state = .idle
      ∧ (burst 2).sounding.state ≠ .idle ∧ (burst 2).sounding.current = some .a ∧ (burst 2).resetting = none
      ∧ ((burst 2).port .p1).role = .operator := by decide +kernel

/-- An ACTIVE or FADING path A of reset thresholds (K 40, Wn 24, Fl 8) takes the margins 7, 8, 23, 24, 39 and 40. -/
theorem witness_MarginsPosted :
    let s := up [(.a, 100)]
    let f := s.modEntry .a (fun e => { e with state := .fading })
    s.resetting = none ∧ (s.port .p0).role = .supervisor ∧ (0#8).toNat = Path.a.idx.val ∧ Path.a ≠ .f
      ∧ (s.receiver .a).silence = .running 1000000000000 ∧ (s.entry .a).window = none ∧ (s.entry .a).state = .active
      ∧ (f.entry .a).state = .fading ∧ (f.entry .a).bankOne = false ∧ (f.entry .a).bank0 = ⟨40, 24, 8, 32, 20, 20000⟩
      ∧ (7#8).toInt < 8 ∧ (8 ≤ (8#8).toInt ∧ (23#8).toInt < 24 ∧ (24 : Int) ≤ 40) ∧ 24 ≤ (24#8).toInt
      ∧ (8 ≤ (40#8).toInt ∧ 40 ≤ (40#8).toInt) ∧ (39#8).toInt < 40 ∧ (State.reset.entry .a).state = .disabled
      ∧ (s.entry .a).bank.ordered = true ∧ (s.entry .a).exhausted = false ∧ (31#8).toInt < 32 ∧ 32 ≤ (32#8).toInt
      ∧ (let l : List (Path × Byte) := (Path.f, 1#8) :: List.replicate 8 (Path.d, 31#8)
         l ≠ [] ∧ ∀ e ∈ l.drop (l.length - 8), e.1 ≠ .f)
      ∧ ∃ e ∈ [((4#8 : Byte), (0#8 : Byte))].drop (1 - 8), 3 < e.1.toNat := by decide +kernel

theorem witness_SilenceFailsPath :
    let s (x : LocalState) (d : Nat) := atMono (((up [(.f, 100)]).modReceiver .f (fun r => { r with silence := .running 50 })).modEntry
      .f (fun e => { e with state := x })) d
    ((s .active 49).receiver .f).silence = .running 50 ∧ (s .active 49).mono < 50 ∧ 50 ≤ (s .active 50).mono
      ∧ ((s .active 50).entry .f).state = .active ∧ ((s .failed 50).entry .f).state = .failed
      ∧ ((s .disabled 50).receiver .f).silence = .running 50
      ∧ (let swept := (s .fading 50).modSounding (fun x => { x with state := .running, current := some .f })
         swept.sounding.current = some .f ∧ (swept.entry .f).state = .fading
          ∧ (swept.receiver .f).silence = .running 50) := by decide +kernel

/-- Path F FAILED with its window ending at 100, or RECOVERING with its hold ending at 100. -/
def timed (x : LocalState) (ns : Nat) : State :=
  atMono ((up [(.f, 100)]).modEntry .f (fun e =>
    { e with state := x, window := some ⟨0, 100, 3⟩, holdDeadline := some 100, reportDeadline := some 100 })) ns

theorem witness_PathTimersExpire :
    ((timed .failed 99).entry .f).window = some ⟨0, 100, 3⟩ ∧ (timed .failed 99).mono < 100 ∧ 100 ≤ (timed .failed 100).mono
      ∧ ((timed .failed 100).receiver .f).silence = .running 1000000000000 ∧ ((timed .failed 100).entry .f).state = .failed
      ∧ ((timed .failed 100).entry .f).errorLimit = 50 ∧ 1 ≤ ((timed .failed 100).entry .f).recoverHold
      ∧ ((timed .failed 100).entry .f).marginOf .f = none ∧ ((timed .recovering 100).entry .f).state = .recovering
      ∧ ((timed .recovering 100).entry .f).holdDeadline = some 100 ∧ ((timed .active 100).entry .f).reportDeadline = some 100
      ∧ (let e := ((timed .failed 100).modEntry .f (fun e => { e with recoverHold := 0, window := some ⟨100, 200, 0⟩ })).entry .f
         e.exhausted = false ∧ e.evaluatesTo .f 100 = (.active, e.reason))
      ∧ ((timed .failed 100).receiver .f).silence.silent = false
      ∧ (let s := atMono ((up [(.c, 100)]).modEntry .c (fun e => { e with
           state := .recovering, margin := some 20, bank0 := ⟨40, 30, 8, 20, 20, 20000⟩, holdDeadline := some 100 })) 100
         ((s.receiver .c).silence.silent = false ∧ (s.entry .c).exhausted = false) ∧ (s.entry .c).holdDeadline = some 100
          ∧ ((8 : Int) < 30 ∧ (30 : Int) ≤ 40 ∧ (8 : Int) < 20) ∧ (s.entry .c).bankOne = false
          ∧ (s.entry .c).evaluatesTo .c s.mono = (.fading, .margin)) := by
  decide +kernel

theorem witness_ScoresMove :
    State.reset.mono < (State.reset.entry .a).decayDeadline
      ∧ ((atMono State.reset 1000000000).entry .a).decayDeadline ≤ (atMono State.reset 1000000000).mono
      ∧ PathSet.has 16#5 .f = true ∧ PathSet.has 16#5 .a = false ∧ ((up [(.f, 100)]).entry .f).state ≠ .disabled
      ∧ (State.reset.entry .a).state = .disabled := by decide +kernel

/-- A settled route: A primary with B within the hysteresis, and one input waiting. -/
def settled : State := { up [(.a, 1000), (.b, 1100)] with pending := [.scoreDecay .a] }

theorem witness_RouteStaysSettled : settled.Routed ∧ ∃ t, step settled = .next t :=
  ⟨⟨forall_path (by decide +kernel), by decide +kernel, of_all (by decide +kernel), fun h => absurd h (by decide +kernel),
    fun q h => absurd (show settled.selector.pin = none by decide +kernel) (by rw [h]; exact Option.some_ne_none q),
    fun g h => absurd (show settled.selector.guard = none by decide +kernel) (by rw [h]; exact Option.some_ne_none g),
    by decide +kernel⟩, _, rfl⟩

theorem witness_GuardAndImprovement :
    let s (ns : Nat) := atMono ((up [(.a, 1000), (.b, 1100)]).modSelector (fun x => { x with guard := some ⟨.b, 50⟩ })) ns
    let far := (up [(.a, 1000), (.b, 1100)]).modEntry .a (fun e => { e with effDelay := 1301 })
    let held := far.modEntry .a (fun e => { e with effDelay := 1300 })
    (s 49).selector.guard = some ⟨.b, 50⟩ ∧ (s 49).mono < 50 ∧ 50 ≤ (s 50).mono ∧ far.selector.primary = some .a
      ∧ far.eligible .a = true ∧ far.selector.pin = none ∧ far.promotable .b = true
      ∧ far.effDelay .b + far.selector.hysteresis < far.effDelay .a
      ∧ ¬held.effDelay .b + held.selector.hysteresis < held.effDelay .a := by decide +kernel

/-- A primary A that has failed, with B promotable, with B only eligible, and alone; a sweep RUNNING and one SUSPENDED on
fallback, both with a settle time; a primary NONE. -/
theorem witness_GuardAndImprovement_lost :
    let fail (s : State) := s.modEntry .a (fun e => { e with state := .failed })
    let both := fail (up [(.a, 1000), (.b, 1100)])
    let weak := both.modEntry .b (fun e => { e with state := .fading })
    let alone := fail (up [(.a, 1000)])
    let running := both.modSounding (fun x => { x with state := .running, settle := 5, current := some .b, pendingProbe := some 1 })
    let waiting := both.modSounding (fun x => { x with
      state := .suspended, reason := some .fallback, settleDeadline := some 7, settle := 5 })
    (∀ s ∈ [both, weak, alone, running, waiting], s.selector.primary = some .a ∧ s.eligible .a = false ∧ s.selector.pin = none)
      ∧ both.promotable .b = true ∧ (∀ q ∈ Path.all, weak.promotable q = false) ∧ weak.eligible .b = true
      ∧ (∀ q ∈ Path.all, alone.eligible q = false) ∧ State.reset.selector.primary = none
      ∧ both.sounding.state = .idle ∧ running.sounding.state = .running ∧ running.sounding.settle ≠ 0
      ∧ waiting.sounding.state = .suspended ∧ waiting.sounding.reason = some .fallback ∧ waiting.sounding.settle ≠ 0 := by
  decide +kernel

theorem witness_SelectionCommandsTaken :
    let pinned := settled.modSelector (fun x => { x with pin := some .b })
    settled.resetting = none ∧ (settled.port .p1).role = .operator ∧ (4#8).toNat ≤ 4 ∧ 4 < (5#8).toNat ∧ 1 < (2#8).toNat
      ∧ (1#8).toNat = Path.b.idx.val ∧ settled.eligible .b = true ∧ settled.selector.primary ≠ some .b
      ∧ settled.selector.pin = none ∧ pinned.selector.pin ≠ none ∧ settled.selector.primary = some .a
      ∧ settled.eligible .a = true ∧ pinned.resetting = none ∧ (pinned.port .p1).role = .operator
      ∧ pinned.selector.primary = some .a ∧ pinned.eligible .a = true := by decide +kernel

/-- R87, R89: with E of 1,000 on A and 1,100 on primary B, an H of 100 keeps B and an H of 99 makes A primary. B is kept
while it is pinned, and with H 99 the removal of the pin makes A primary. -/
theorem test_new_hysteresis_improves :
    let s := (up [(.a, 1000), (.b, 1100)]).modSelector (fun x => { x with primary := some .b })
    let low := s.modSelector (fun x => { x with hysteresis := 99, pin := some .b })
    (after s (.setSelection .p1 [100#8, 0#8, 1#8, 1#8, 0#8, 0#8])).selector.primary = some .b
      ∧ (after s (.setSelection .p1 [99#8, 0#8, 1#8, 1#8, 0#8, 0#8])).selector.primary = some .a
      ∧ (after low (.setSelection .p1 [99#8, 0#8, 1#8, 1#8, 0#8, 0#8])).selector.primary = some .b
      ∧ (after low (.unpinPrimary .p1 [])).selector.primary = some .a := by decide +kernel

/-- Stream 7 tx-enabled, a local frame arriving; the queues of A and F with room for n more copies. -/
def intake (room : Nat) : State :=
  let fill (s : State) (p : Path) : State := s.modTransmitter p (fun x =>
    { x with queue := List.replicate (32 - room) copyA, inProgress := some ⟨beaconOf 0 0, false⟩ })
  let s := fill (fill (up [(.a, 100), (.f, 500)]) .a) .f
  (s.modTx 7 (fun x => { x with enabled := true })).modLocal (fun x => { x with arriving := some ⟨⟨3, 4⟩, false⟩ })

theorem witness_LocalFramesTaken :
    let enabled (s : State) := s.modTx 7 (fun x => { x with enabled := true })
    State.reset.localPort.inProgress = none ∧ (intake 0).localPort.arriving = some ⟨⟨3, 4⟩, false⟩
      ∧ (intake 0).resetting = none ∧ parseLocalFrame [] = none
      ∧ parseLocalFrame (localFrameBytes 7 [9#8]) = some (7, [9#8]) ∧ (State.reset.txStream 7).enabled = false
      ∧ ((enabled State.reset).txStream 7).enabled = true ∧ (enabled State.reset).selector.primary = none
      ∧ ((intake 0).txStream 7).enabled = true ∧ (intake 0).selector.primary ≠ none
      ∧ (∀ p ∈ Path.all, PathSet.has (0 : PathSet) p
          = (PathSet.has (intake 0).selector.dispatchSet p && decide (((intake 0).transmitter p).queue.length < 32)))
      ∧ (∀ p ∈ Path.all, PathSet.has 17#5 p
          = (PathSet.has (intake 1).selector.dispatchSet p && decide (((intake 1).transmitter p).queue.length < 32)))
      ∧ ((intake 1).transmitter .a).inProgress ≠ none
      ∧ (let s := enabled (up [(.a, 100)])
         s.selector.dispatchSet = 1 ∧ (s.transmitter .a).inProgress = none ∧ (s.transmitter .a).echo = none
          ∧ (s.transmitter .a).probe = none ∧ (s.transmitter .a).queue = []) := by decide +kernel

theorem witness_StreamCommandsTaken :
    let s := stream State.reset 7 true 40 40 [.empty, heldSlot .a 0] (some 200000)
    let busy := s.modLocal (fun x => { x with inProgress := some ⟨7, [1#8], 39, .a, ⟨0, 0⟩⟩ })
    busy.resetting = none ∧ (busy.port .p2).role = .gateway ∧ (busy.port .p1).role = .operator ∧ 7 < (8#8).toNat
      ∧ (7#8).toNat = (7 : StreamId).val ∧ (busy.rxStream 7).ordered = true ∧ busy.localPort.inProgress ≠ none
      ∧ busy.localPort.queue.length + 1 ≤ 64 ∧ (State.reset.rxStream 7).ordered = false ∧ (7#8).toNat ≤ 7
      ∧ (15#8).toNat ≤ 15 ∧ 15 < (16#8).toNat
      ∧ (decide ((0#8).toNat = 1), min 4 (4#8).toNat, decide ((0#8).toNat = 1))
        = ((State.reset.rxStream 7).enabled, (State.reset.rxStream 7).windowCode, (State.reset.rxStream 7).ordered) := by
  decide +kernel

theorem slot_not_held {x : Option Slot} (h : x.all (fun y => !y.isHeld) = true) : ∀ y, x = some y → y.isHeld = false := by
  rintro y rfl
  simpa using h

/-- The stream of 7.10 just before 50 arrives, r at its EMPTY slot. -/
def ordered : State :=
  stream State.reset 6 true 40 50 (List.replicate 10 (doneSlot 3 3) ++ [.empty, heldSlot .a 0, .empty, heldSlot .a 30000])
    (some 200000)

theorem ordered_windowed : (ordered.rxStream 6).Windowed :=
  ⟨by decide +kernel, by decide +kernel, by decide +kernel, by decide +kernel, by decide +kernel,
    fun _ _ => ⟨by decide +kernel, by decide +kernel, by decide +kernel, slot_not_held (by decide +kernel), by decide +kernel⟩⟩

theorem immediate_windowed (x : RxStream) (h : (decide (x.windowCode ≤ 4 ∧ x.resyncCode ≤ 12) && x.holdDeadline.isNone
    && !x.ordered && (if x.synced then decide (x.slots.length = x.distance x.front ∧ x.slots.length ≤ x.window)
      else x.slots.isEmpty) && x.slots.all (fun y => !y.isHeld)) = true) : x.Windowed := by
  simp only [Bool.and_eq_true, decide_eq_true_eq, Option.isNone_iff_eq_none, Bool.not_eq_true', List.all_eq_true] at h
  obtain ⟨⟨⟨⟨hc, hd⟩, ho⟩, hs⟩, hy⟩ := h
  refine ⟨hc.1, hc.2, fun h0 => ?_, fun h1 => ?_, fun _ => ⟨hd, hy⟩, fun h1 => ?_⟩
  · rw [h0] at hs
    exact ⟨by simpa using hs, hd⟩
  · rw [h1] at hs
    simpa using hs
  · rw [ho] at h1
    contradiction

theorem witness_WindowsKept : ({ ordered with pending := [.holdExpiry 6] } : State).Windows
    ∧ ∃ t, step { ordered with pending := [.holdExpiry 6] } = .next t := by
  refine ⟨fun i => ?_, _, rfl⟩
  by_cases h : i = 6
  · subst h
    exact ordered_windowed
  · exact immediate_windowed _ (by revert i; decide +kernel)

/-- One HELD slot that expires at 200 us; of `ordered` two slots are HELD, and the deadline left when 51 has been delivered
is 230 us: not past at 200 us, past at 230 us. -/
theorem witness_HoldExpiryAdvances :
    let s (ns : Nat) := atMono (stream State.reset 6 true 40 41 [doneSlot 3 3, .empty, heldSlot .a 0] (some 200000)) ns
    let o (ns : Nat) := (atMono ordered ns).modLocal (fun x => { x with inProgress := some ⟨6, [1#8], 9, .a, ⟨0, 0⟩⟩ })
    ((s 200000).rxStream 6).Windowed ∧ ((o 230000).rxStream 6).Windowed
      ∧ ((s 199999).rxStream 6).holdDeadline = some 200000 ∧ (s 199999).mono < 200000 ∧ 200000 ≤ (s 200000).mono
      ∧ ((s 200000).rxStream 6).slots[2]? = some (heldSlot .a 0)
      ∧ (∀ y ∈ ((s 200000).rxStream 6).slots.take 2, y.isHeld = false) ∧ ((s 200000).rxStream 6).slots.length = 3
      ∧ (s 200000).log.records.length ≤ 1000
      ∧ (((o 200000).expireOnce 6).rxStream 6).holdDeadline = some 230000 ∧ (o 200000).mono < 230000
      ∧ ((o 230000).rxStream 6).holdDeadline = some 200000 ∧ 230000 ≤ (o 230000).mono
      ∧ ((o 230000).rxStream 6).slots[11]? = some (heldSlot .a 0)
      ∧ (∀ y ∈ ((o 230000).rxStream 6).slots.take 11, y.isHeld = false) ∧ (o 230000).localPort.inProgress ≠ none
      ∧ (o 230000).localPort.queue.length + 1 ≤ 64 ∧ ((o 230000).rxStream 6).records = true
      ∧ (o 230000).log.records.length + 1 + 1 ≤ 1024 := by
  refine ⟨⟨?_, ?_, ?_, ?_, ?_, fun _ _ => ⟨?_, ?_, ?_, slot_not_held ?_, ?_⟩⟩, ordered_windowed, ?_⟩ <;> decide +kernel

theorem witness_CopiesJudged :
    let s := stream State.reset 6 false 52 52 [.skipped, doneSlot 3 1] none
    let n (s : State) (d : DataArrival) := (d.copy.seq - (s.rxStream 6).base).toNat
    (s.rxStream 6).Windowed
      ∧ (State.reset.rxStream 6).enabled = false ∧ (s.rxStream 6).enabled = true ∧ (s.rxStream 6).synced = true
      ∧ n s (arrival 6 (52 + 2147483648) .a 0) = 2147483648
      ∧ (s.rxStream 6).slots[n s (arrival 6 52 .a 0)]? = some .skipped
      ∧ (s.rxStream 6).slots[n s (arrival 6 53 .a 0)]? = some (.done ⟨.a, 0, 3, 1⟩)
      ∧ (ordered.rxStream 6).slots[n ordered (arrival 6 53 .a 0)]? = some (heldSlot .a 30000) :=
  ⟨immediate_windowed _ (by decide +kernel), by decide +kernel⟩

/-- Sequences at each end of each case: EMPTY 11, then 12 (t), 25 (W - 1), 26 (W), 4,105 (Q - 1), 4,106 (Q) and 2^31 - 1
beyond the base 10. -/
theorem witness_FirstArrivalsMoveWindow :
    let s := stream State.reset 6 false 10 10 [doneSlot 3 1, .empty] none
    let z := State.reset.modRx 6 (fun x => { x with enabled := true })
    let n (seq : Seq) := (seq - (s.rxStream 6).base).toNat
    let f : DeliveredFrame := ⟨6, [1#8], 9, .a, ⟨0, 0⟩⟩
    let b := s.modLocal (fun x => { x with inProgress := some f, queue := List.replicate 63 f })
    (s.rxStream 6).Windowed ∧ (z.rxStream 6).Windowed ∧ (z.rxStream 6).synced = false
      ∧ (s.rxStream 6).enabled = true ∧ (s.rxStream 6).ordered = false ∧ (s.rxStream 6).synced = true
      ∧ 16 * 2 ^ (s.rxStream 6).windowCode = 16 ∧ 2 ^ (8 + (s.rxStream 6).resyncCode) = 4096
      ∧ (s.rxStream 6).slots[n 11]? = some .empty ∧ (s.rxStream 6).slots.length = n 12 ∧ n 25 = 15 ∧ n 26 = 16
      ∧ n 4105 = 4095 ∧ n 4106 = 4096 ∧ n 2147483657 = 2147483647 ∧ (s.rxStream 6).gaps ≤ 4294967295
      ∧ (s.rxStream 6).records = true ∧ ((s.modRx 6 (fun x => { x with records := false })).rxStream 6).records = false
      ∧ (s.localPort.inProgress = none ∧ s.localPort.queue = [])
      ∧ b.localPort.inProgress ≠ none ∧ b.localPort.queue.length < 64
      ∧ 64 ≤ (b.modLocal (fun x => { x with queue := f :: x.queue })).localPort.queue.length :=
  ⟨immediate_windowed _ (by decide +kernel), immediate_windowed _ (by decide +kernel), by decide +kernel⟩

/-- Base 40, r at 50: 50 (r) and 52 are EMPTY, then 54 (the first beyond the newest), 55 (W - 1), 56 (W), 4,135 (Q - 1),
4,136 (Q) and 2^31 - 1 beyond the base; `e` is a stream whose r is one past its newest, `z` an unsynchronized one. -/
theorem witness_OrderedStreamHolds :
    let s := atMono ordered 60000
    let e := stream State.reset 6 true 40 42 [doneSlot 3 1, doneSlot 3 1] none
    let z := State.reset.modRx 6 (fun x => { x with enabled := true, ordered := true })
    let n (seq : Seq) := (seq - (s.rxStream 6).base).toNat
    let f : DeliveredFrame := ⟨6, [1#8], 9, .a, ⟨0, 0⟩⟩
    let busy := s.modLocal (fun x => { x with inProgress := some f })
    (s.rxStream 6).Windowed ∧ (e.rxStream 6).Windowed ∧ (z.rxStream 6).Windowed ∧ (z.rxStream 6).synced = false
      ∧ (z.rxStream 6).enabled = true ∧ (z.rxStream 6).ordered = true
      ∧ (s.rxStream 6).enabled = true ∧ (s.rxStream 6).synced = true ∧ (s.rxStream 6).ordered = true
      ∧ (s.rxStream 6).slots[n 52]? = some .empty ∧ (52 : Seq) ≠ (s.rxStream 6).release
      ∧ (s.rxStream 6).holdDeadline ≠ none ∧ (s.rxStream 6).slots[n 50]? = some .empty ∧ (s.rxStream 6).release = 50
      ∧ (s.rxStream 6).holdTime = 200 ∧ s.mono < 0 + 200 * 1000
      ∧ (∀ a ∈ (s.rxStream 6).heldArrivals, s.mono < a + (s.rxStream 6).holdTime * 1000)
      ∧ 16 * 2 ^ (s.rxStream 6).windowCode = 16 ∧ 2 ^ (8 + (s.rxStream 6).resyncCode) = 4096
      ∧ (s.rxStream 6).slots.length = n 54 ∧ n 55 = 15 ∧ (54 : Seq) ≠ (s.rxStream 6).release
      ∧ (e.rxStream 6).slots.length ≤ (42 - (e.rxStream 6).base).toNat ∧ (e.rxStream 6).release = 42
      ∧ (e.rxStream 6).holdDeadline = none ∧ e.mono < 0 + 200 * 1000 ∧ (43 : Seq) ≠ (e.rxStream 6).release
      ∧ (s.rxStream 6).gaps ≤ 4294967295 ∧ n 56 = 16 ∧ n 4135 = 4095 ∧ n 4136 = 4096 ∧ n 2147483687 = 2147483647
      ∧ busy.localPort.inProgress ≠ none ∧ busy.localPort.queue.length + ((s.rxStream 6).slots.length + 1) ≤ 64
      ∧ (s.rxStream 6).records = true ∧ busy.log.records.length + ((s.rxStream 6).slots.length + 2) ≤ 1024 := by
  refine ⟨ordered_windowed, ⟨?_, ?_, ?_, ?_, ?_, fun _ _ => ⟨?_, ?_, ?_, slot_not_held ?_, ?_⟩⟩,
    ⟨?_, ?_, ?_, ?_, ?_, fun _ h => absurd h ?_⟩, ?_⟩ <;> decide +kernel

/-- REF0 with a run of pulses, the last at 0; the clock at the given MONO and TOD nanoseconds, disciplined and LOCKING. -/
def pulsed (run ns todNs : Nat) : State :=
  State.reset.modTime (fun t =>
    let t := t.modRef .ref0 (fun _ => ⟨run, decide (3 ≤ run), some 0⟩)
    { t with
      mono := ns, tod := ⟨8, todNs⟩, active := if 3 ≤ run then some .ref0 else none, discipline := true
      quality := .locking, lockCount := 3 })

theorem witness_ReferencePulsesQualify :
    let c := State.reset.channel .ref0
    c.edge = .rising ∧ (State.reset.ref .ref0).run = 0 ∧ ((pulsed 3 999899999 0).ref .ref0).lastPulse = some 0
      ∧ ((pulsed 3 999899999 0).ref .ref0).run ≠ 0 ∧ (pulsed 3 999899999 0).mono < 0 + 999900000
      ∧ 0 + 999900000 ≤ (pulsed 3 999900000 0).mono ∧ (pulsed 3 1000100000 0).mono ≤ 0 + 1000100000
      ∧ 0 + 1000100000 < (pulsed 3 1000100001 0).mono ∧ (pulsed 3 1499999999 0).mono < 0 + 1500000000
      ∧ 0 + 1500000000 ≤ (pulsed 3 1500000000 0).mono ∧ (pulsed 3 0 0).time.discipline = true
      ∧ (pulsed 3 0 0).time.quality = .locking ∧ (pulsed 3 0 0).time.active ≠ none ∧ State.reset.resetting = none
      ∧ due.resetting ≠ none ∧ State.reset.time.discipline = false
      ∧ (after (pulsed 3 1500000000 0) (.refTimeout .ref0)).time.active = none
      ∧ EdgeDir.rising ≠ .falling ∧ c.fifo.length ≤ 2 ∧ c.log = false
      ∧ (let logged := (pulsed 2 1000000000 0).modTime (fun t => { (t.modChannel .ref0 (fun _ =>
           ⟨.both, .mono, true, [.mono 1, .mono 2], false⟩)) with discipline := false })
         logged.resetting = none ∧ (logged.channel .ref0).fifo.length ≤ 2 ∧ (logged.channel .ref0).log = true
          ∧ logged.log.records.length ≤ 1000 ∧ logged.time.discipline = false) := by decide +kernel

/-- R32 and 2.4.4: the third good pulse of REF0, the second stamp of its channel, raises CAPTURE and writes its MARK record
after the REFERENCE SWITCH record; a first stamp raises nothing. -/
theorem test_reference_capture :
    let s (fifo : List CaptureStamp) := (pulsed 2 1000000000 7).modTime (fun t => { (t.modChannel .ref0 (fun _ =>
      ⟨.rising, .tod, true, fifo, false⟩)) with discipline := false })
    let t := after (s [.mono 1]) (.refPulse .ref0 .rising)
    t.log.records.map LogRecord.body = [.time .refSwitch 0, .mark .ref0 (.tod ⟨8, 7⟩)]
      ∧ (∀ p ∈ Port.all, AttnSet.has (t.port p).pending .capture = true)
      ∧ AttnSet.has ((after (s []) (.refPulse .ref0 .rising)).port .p0).pending .capture = false := by decide +kernel

/-- The third good pulse of REF0 makes it active, with and without discipline; its loss leaves REF1 or none (2.4.4). -/
theorem test_reference_switches :
    let two (q1 : Bool) := (pulsed 3 1500000000 0).modTime (fun t => t.modRef .ref1 (fun _ => ⟨3, q1, some 1⟩))
    let third (on : Bool) := (pulsed 2 1000000000 0).modTime (fun t => { t with discipline := on })
    let bodies (s : State) (i : Instr) := (after s i).log.records.map LogRecord.body
    (third false).time.active = none ∧ bodies (third false) (.refPulse .ref0 .rising) = [.time .refSwitch 0]
      ∧ bodies (two true) (.refTimeout .ref0) = [.time .refSwitch 1]
      ∧ bodies (two false) (.refTimeout .ref0) = [.time .refSwitch (-1), .time .quality 0]
      ∧ (after (two false) (.refTimeout .ref0)).time.quality = .holdover
      ∧ bodies (pulsed 2 1500000000 0) (.refTimeout .ref0) = [] := by decide +kernel

/-- Pulse 6 of 2.4.4: 31,000 ns ahead with a step threshold of 20,000 ns, from LOCKED. -/
theorem test_discipline_steps :
    let s := (pulsed 3 1000000000 31000).modTime (fun t => { t with ts := 20000, quality := .locked, f := 1183 })
    let t := after s (.refPulse .ref0 .rising)
    t.log.records.map LogRecord.body = [.time .step (-31000), .time .quality 31000] ∧ t.time.tod = ⟨8, 0⟩
      ∧ t.time.f = 1183 ∧ t.time.quality = .locking := by decide +kernel

/-- Distances of 100 and 101 ns about the lock threshold and of 100,000 and 100,001 ns about the step threshold. -/
theorem witness_DisciplineSlewsOrSteps :
    ∀ x ∈ [(999900000, 100), (999900000, 101), (1000100000, 999900000), (1000100000, 999899999), (1000100000, 500000000)],
      let s := pulsed 3 x.1 x.2
      (s.channel .ref0).edge = .rising ∧ s.time.active = some .ref0 ∧ s.time.discipline = true ∧ s.time.quality = .locking
        ∧ (s.ref .ref0).qualified = true ∧ (s.ref .ref0).run ≠ 0 ∧ (s.ref .ref0).lastPulse = some 0
        ∧ s.log.records.length ≤ 1000 ∧ 0 + 999900000 ≤ s.mono ∧ s.mono ≤ 0 + 1000100000 := by decide +kernel

theorem witness_MarkEdgesCaptured :
    let s (log : Bool) := State.reset.modTime (fun t => t.modChannel .mark1 (fun _ => ⟨.both, .mono, log, [.mono 1, .mono 2], false⟩))
    (State.reset.channel .mark1).edge = .none ∧ ((s true).channel .mark1).edge = .both ∧ (s true).resetting = none
      ∧ ((s true).channel .mark1).fifo.length ≤ 2 ∧ ((s true).channel .mark1).log = true
      ∧ ((s false).channel .mark1).log = false ∧ due.resetting ≠ none := by decide +kernel

/-- OUT0 armed for 5 s 7 ns, its pulse ending at MONO 100; TOD 5 s and the given nanoseconds. -/
def armed (period todNs : Nat) : State :=
  State.reset.modTime (fun t => { (t.modMarker .out0 (fun _ => ⟨.pulseHigh, ⟨5, 7⟩, period, 1, true, false, 0, some 100⟩)) with
    tod := ⟨5, todNs⟩ })

theorem witness_MarkerOutputsFire :
    (let m := (armed 0 6).marker .out0
     m.armed = true ∧ ¬0 ≤ ((armed 0 6).time.tod.sec - m.matchAt.sec).toInt * 1000000000
        + (((armed 0 6).time.tod.ns : Int) - m.matchAt.ns))
      ∧ (let m := (armed 0 7).marker .out0
         m.period = 0 ∧ 0 ≤ ((armed 0 7).time.tod.sec - m.matchAt.sec).toInt * 1000000000
          + (((armed 0 7).time.tod.ns : Int) - m.matchAt.ns))
      ∧ ((armed 1000 7).marker .out0).period ≠ 0 ∧ (State.reset.marker .out0).pulseEnd = none
      ∧ ((armed 0 7).marker .out0).pulseEnd = some 100 ∧ (armed 0 7).mono < 100 ∧ 100 ≤ (atMono (armed 0 7) 100).mono
      ∧ State.reset.resetting = none ∧ (State.reset.port .p2).role = .gateway ∧ (State.reset.port .p1).role = .operator
      ∧ 1 < (2#8).toNat ∧ 3 < (4#8).toNat ∧ (1#8).toNat = Out.out1.idx.val ∧ (3#8).toNat = MarkerAction.code .pulseLow
      ∧ (1#8).toNat = MarkerAction.code .forcedHigh ∧ (1#8).toNat < 2 ∧ 2 ≤ (2#8).toNat
      ∧ (999999999 < 1000000000 ∧ (1000 ≤ 1000 ∧ 9 * 100 < 1000) ∧ 1 ≤ 9) ∧ ¬(10 * 100 < 1000) := by decide +kernel

theorem witness_TimeSetByCommand :
    State.reset.resetting = none ∧ (State.reset.port .p1).role = .operator ∧ 999999999 < 1000000000
      ∧ (-2147483648 : Int) ≤ -2147483647 ∧ State.reset.log.records.length ≤ 1000 ∧ (State.reset.marker .out0).armed = false
      ∧ State.reset.time.discipline = false ∧ (pulsed 3 0 0).time.discipline = true ∧ (pulsed 3 0 0).resetting = none
      ∧ ((pulsed 3 0 0).port .p1).role = .operator
      ∧ (∀ period ∈ [0, 1000], ((armed period 6).marker .out0).armed = true ∧ ((armed period 6).marker .out0).period = period
          ∧ ((armed period 6).marker .out0).since (armed period 6).time.tod = -1)
      ∧ matchesReached 0 (-1) = 0 ∧ matchesReached 0 (-1 + 1) = 1 ∧ matchesReached 1000 (-1 + 1000) = 1
      ∧ matchesReached 1000 (-1 + 1001) = 2 := by
  decide +kernel

theorem witness_TimeSettingsStored :
    State.reset.resetting = none ∧ (State.reset.port .p1).role = .operator ∧ (State.reset.port .p2).role = .gateway
      ∧ ((1#8).toNat ≤ 1 ∧ 1000 ≤ 1000000 ∧ 1000000 ≤ 1000000 ∧ 1 ≤ 1 ∧ (15#8).toNat ≤ 15) ∧ ¬((16#8).toNat ≤ 15)
      ∧ 3 < (4#8).toNat ∧ (3#8).toNat = Channel.mark1.idx.val ∧ (1#8).toNat = (Ref.channel .ref1).idx.val
      ∧ (3#8).toNat = EdgeSetting.code .both ∧ (1#8).toNat = Source.code .mono ∧ (1#8).toNat ≤ 1
      ∧ (State.reset.channel .ref1).edge ≠ .both ∧ (State.reset.channel .ref0).edge = .rising
      ∧ State.reset.time.discipline = false ∧ (pulsed 3 0 0).time.discipline = true := by decide +kernel

theorem witness_SweepCommandsTaken :
    let s := up [(.a, 100)]
    let suspended (ns : Nat) := atMono ((burst 2).modSounding (fun x => { x with
      state := .suspended, reason := some .command, outstanding := none, lastT1 := some 0 })) ns
    s.resetting = none ∧ (s.port .p0).role = .supervisor ∧ (1 ≤ (31#8).toNat ∧ (31#8).toNat < 32 ∧ (15#8).toNat ≤ 15 ∧ 10 ≤ 10)
      ∧ ¬((32#8).toNat < 32) ∧ s.sounding.state = .idle ∧ (burst 2).sounding.state = .running
      ∧ PathSet.has (BitVec.ofNat 5 31) .a = true ∧ (s.entry .a).state ≠ .disabled ∧ (s.entry .a).state ≠ .failed
      ∧ (s.transmitter .a).inProgress = none ∧ (s.transmitter .a).echo = none
      ∧ ((sending s id).transmitter .a).inProgress ≠ none
      ∧ (∀ p ∈ Path.all, (State.reset.entry p).state = .disabled) ∧ (suspended 0).sounding.state = .suspended
      ∧ (suspended 0).sounding.current = some .a
      ∧ (suspended 0).sounding.probeIndex < (suspended 0).sounding.countCode + 1
      ∧ (suspended 999999).mono < 0 + (suspended 0).sounding.spacing * 1000
      ∧ 0 + (suspended 0).sounding.spacing * 1000 ≤ (suspended 1000000).mono
      ∧ (suspended 0).sounding.lastT1 = some 0 ∧ State.reset.sounding.current = none
      ∧ (let x := ((suspended 0).modSounding (fun x => { x with current := none })).sounding
         x.state = .suspended ∧ x.current = none)
      ∧ (let x := ((suspended 0).modSounding (fun x => { x with probeIndex := 3 })).sounding
         x.state = .suspended ∧ x.current = some .a ∧ x.countCode + 1 ≤ x.probeIndex)
      ∧ (let s := ((burst 2).modSounding (fun x => { x with pendingProbe := some 1, outstanding := none })).modTransmitter .a
           (fun x => { x with probe := some ⟨12, 1⟩ })
         s.sounding.state ≠ .idle ∧ s.sounding.current = some .a ∧ s.sounding.pendingProbe ≠ none) := by decide +kernel

theorem witness_SweepTimersRunOut :
    let idle (ns : Nat) := atMono ((burst 2).modSounding (fun x => { x with outstanding := none, lastT1 := some 0 })) ns
    let settling (ns : Nat) := atMono ((idle 0).modSounding (fun x => { x with
      state := .suspended, reason := some .fallback, settleDeadline := some 500 })) ns
    let last := (burst 3).modSounding (fun x => { x with valid := 0, minimum := none })
    State.reset.sounding.state ≠ .running ∧ (idle 999999).sounding.lastT1 = some 0
      ∧ (idle 999999).mono < 0 + (idle 0).sounding.spacing * 1000 ∧ 0 + (idle 0).sounding.spacing * 1000 ≤ (idle 1000000).mono
      ∧ (idle 1000000).sounding.state = .running ∧ (idle 1000000).sounding.current = some .a
      ∧ (idle 1000000).sounding.pendingProbe = none ∧ (idle 1000000).sounding.outstanding = none
      ∧ (idle 1000000).sounding.probeIndex < (idle 1000000).sounding.countCode + 1
      ∧ ((idle 1000000).transmitter .a).inProgress = none ∧ ((idle 1000000).entry .a).state ≠ .disabled
      ∧ ((sending (idle 1000000) id).transmitter .a).inProgress ≠ none
      ∧ (burst 2).sounding.outstanding = some ⟨1, 10000, 20010000⟩ ∧ (burst 2).mono < 20010000
      ∧ 20010000 ≤ (atMono (burst 2) 20010000).mono
      ∧ (let s := atMono ((burst 2).modSounding (fun x => { x with lastT1 := some 20000000 })) 20010000
         s.mono < 20000000 + s.sounding.spacing * 1000)
      ∧ (let late := atMono (burst 2) 20010000
         late.sounding.probeIndex < late.sounding.countCode + 1 ∧ 10000 + late.sounding.spacing * 1000 ≤ late.mono)
      ∧ (let s := (burst 3).modSounding (fun x => { x with remaining := 4 })
         s.sounding.valid = 2 ∧ s.sounding.remaining ≠ 0 ∧ s.sounding.outstanding = some ⟨2, 10000, 20010000⟩)
      ∧ last.sounding.countCode + 1 ≤ last.sounding.probeIndex ∧ last.sounding.valid = 0 ∧ last.sounding.remaining = 0
      ∧ last.sounding.outstanding = some ⟨2, 10000, 20010000⟩ ∧ State.reset.sounding.state ≠ .suspended
      ∧ (settling 0).sounding.state = .suspended ∧ (settling 0).sounding.reason = some .fallback
      ∧ (settling 499).sounding.settleDeadline = some 500 ∧ (settling 499).mono < 500 ∧ 500 ≤ (settling 500).mono
      ∧ (settling 500).mono < 0 + (settling 500).sounding.spacing * 1000
      ∧ 0 + (settling 1000000).sounding.spacing * 1000 ≤ (settling 1000000).mono ∧ 500 ≤ (settling 1000000).mono
      ∧ (let x := ((settling 500).modSounding (fun x => { x with current := none })).sounding
         x.state = .suspended ∧ x.reason = some .fallback ∧ x.current = none ∧ x.settleDeadline = some 500)
      ∧ (let x := ((settling 500).modSounding (fun x => { x with probeIndex := 3 })).sounding
         x.current = some .a ∧ x.countCode + 1 ≤ x.probeIndex) := by decide +kernel

/-- The rows that wait on the sweep, on a reference and on a marker output, due at the next tick. -/
theorem witness_ReachedDeadlinesQueueInputs_more :
    let running := atMono ((burst 2).modSounding (fun x => { x with outstanding := none, lastT1 := some 0 })) 999999
    let settling := (atMono running 499).modSounding (fun x => { x with
      state := .suspended, reason := some .fallback, settleDeadline := some 500 })
    let quiet := pulsed 2 1499999999 0
    let ticked := match step (armed 0 6) with | .next t => t | _ => armed 0 6
    (running.pending = [] ∧ running.sounding.state = .running ∧ running.sounding.current = some .a
        ∧ running.sounding.pendingProbe = none ∧ running.sounding.outstanding = none
        ∧ running.sounding.probeIndex < running.sounding.countCode + 1 ∧ running.sounding.lastT1 = some 0
        ∧ 0 + running.sounding.spacing * 1000 ≤ running.mono + 1)
      ∧ (settling.pending = [] ∧ settling.sounding.state = .suspended ∧ settling.sounding.reason = some .fallback
        ∧ settling.sounding.settleDeadline = some (settling.mono + 1))
      ∧ (quiet.pending = [] ∧ (quiet.ref .ref0).run ≠ 0 ∧ (quiet.ref .ref0).lastPulse = some 0
        ∧ 0 + 1500000000 ≤ quiet.mono + 1)
      ∧ (armed 0 6).pending = [] ∧ ((armed 0 6).marker .out0).armed = true
      ∧ 0 ≤ (ticked.time.tod.sec - ((armed 0 6).marker .out0).matchAt.sec).toInt * 1000000000
        + ((ticked.time.tod.ns : Int) - ((armed 0 6).marker .out0).matchAt.ns) := by decide +kernel

/-- The burst of `burst 2`, probe 0 counted valid and probe 1 outstanding, with its probe timeout waiting. -/
def sweeping : State := { (burst 2).modSounding (fun x => { x with valid := 1 }) with pending := [.probeTimeout] }

theorem witness_SweptKept : sweeping.Swept ∧ ∃ t, step sweeping = .next t := by
  refine ⟨⟨of_all ?_, ?_, ?_, forall_path ?_, ?_⟩, _, rfl⟩ <;> decide +kernel

theorem stats_bounded (x : Stats) (h : x = Stats.reset) : x.bounded := by
  subst h
  unfold Stats.bounded
  decide

theorem streams_counted (s : State) (h : ∀ i, s.rxStream i = RxStream.reset ∧ s.txStream i = TxStream.reset) :
    (∀ i, (s.rxStream i).counted) ∧ ∀ i, (s.txStream i).counted := by
  refine ⟨fun i => ?_, fun i => ?_⟩
  · rw [(h i).1]
    unfold RxStream.counted
    decide
  · rw [(h i).2]
    unfold TxStream.counted
    decide

theorem log_in_order (l : Log) (h : (List.range l.records.length).all (fun k =>
      l.records[k]?.all (fun r => r.serial == l.oldest + BitVec.ofNat 32 k)) = true)
    (c : ∀ p ∈ Port.all, (l.readers[p.idx].cursor - l.oldest).toNat ≤ l.records.length) : l.inOrder := by
  refine ⟨fun k r hk => ?_, fun p => c p (by cases p <;> decide)⟩
  have hl : k < l.records.length := (List.getElem?_eq_some_iff.mp hk).1
  have e := (List.all_eq_true.mp h) k (List.mem_range.mpr hl)
  rw [hk] at e
  simpa using e

theorem witness_BoundsKept : sweeping.Bounded ∧ ∃ t, step sweeping = .next t := by
  have entries : ∀ p, (sweeping.entry p).bounded := by
    intro p
    cases p <;> refine ⟨?_, ?_, of_all ?_, of_all ?_, stats_bounded _ ?_, of_all ?_, ?_⟩ <;>
      (try unfold Bank.bounded) <;> decide +kernel
  have streams := streams_counted sweeping (by decide +kernel)
  refine ⟨⟨entries, forall_path (by decide +kernel), by decide +kernel, by decide +kernel, fun p => ?_, fun p => ?_,
    ⟨?_, ?_, ?_, ?_, ?_, fun r => ?_, fun k => ?_⟩, of_all (by decide +kernel), ⟨streams.1, streams.2, ?_, ?_, fun o => ?_⟩,
    log_in_order _ (by decide +kernel) (by decide +kernel), ?_, ?_, ?_, fun p => ?_, fun i => ?_, ?_⟩, _, rfl⟩
  case refine_1 => cases p <;> decide +kernel
  case refine_2 => cases p <;> (unfold PortCtx.bounded; decide +kernel)
  case refine_8 => cases r <;> decide +kernel
  case refine_9 => cases k <;> (unfold CaptureState.bounded; decide +kernel)
  case refine_12 => cases o <;> decide +kernel
  case refine_16 => cases p <;> decide +kernel
  case refine_17 => revert i; decide +kernel
  all_goals decide +kernel

end Sys2Proof.Tests
end

/-! The receive checks of a path frame (R5 to R7), and the discard on a DISABLED path. -/

namespace Sys2Proof.Machine

/-- A frame that met no soft reset period and passes the first check ends its arrival and comes to the checks of R7 to R9. -/
theorem State.pathFrameEnd_of_parsed {s : State} {p : Path} {bytes : List Byte} {f : PathFrame} {stamp : Stamp}
    (arriving : (s.receiver p).arriving = some ⟨stamp, false⟩) (ready : s.resetting = none)
    (parsed : parsePathFrame bytes = some f) :
    s.pathFrameEnd p bytes = (s.modReceiver p (fun r => { r with arriving := none })).judgeFrame p stamp f := by
  simp [State.pathFrameEnd, arriving, ready, parsed]

/-- On a DISABLED path the discard comes before the checks of path id and sender site (R7). -/
theorem State.judgeFrame_of_disabled {s : State} {p : Path} (stamp : Stamp) (f : PathFrame)
    (disabled : (s.entry p).state = .disabled) :
    s.judgeFrame p stamp f = s.modStats p (fun x => { x with discardedDisabled := inc32 x.discardedDisabled }) :=
  if_pos disabled

/-- Settles O23: the end of the arrival leaves the path DISABLED, so the frame is counted discarded-disabled and judged no
further. -/
theorem disabledPathDiscards : Obligations.DisabledPathDiscards := by
  intro s p bytes f stamp arriving ready parsed disabled
  have stillDisabled : ((s.modReceiver p (fun r => { r with arriving := none })).entry p).state = .disabled := by
    rw [State.modReceiver_entry, disabled]
  calc exec (.pathFrameEnd p bytes) s
    _ = .next (s.pathFrameEnd p bytes) := rfl
    _ = .next ((s.modReceiver p (fun r => { r with arriving := none })).modStats p
          (fun x => { x with discardedDisabled := inc32 x.discardedDisabled })) := by
        rw [State.pathFrameEnd_of_parsed arriving ready parsed, State.judgeFrame_of_disabled stamp f stillDisabled]
    _ = _ := rfl

end Sys2Proof.Machine

/-! LOCK PATH, UNLOCK PATH, LOCK ALL and UNLOCK ALL (R53): the path an index names, what setting a flag leaves, and the
four transactions. -/

namespace Sys2Proof

theorem Path.ofIndex_idx (p : Path) : Path.ofIndex p.idx.val = some p := by cases p <;> rfl

theorem Path.ofIndex_eq_none {n : Nat} (above : 4 < n) : Path.ofIndex n = none := List.getElem?_eq_none above

end Sys2Proof

namespace Sys2Proof.Machine

theorem Role.operates_iff {r : Role} : r.operates = true ↔ r = .operator := beq_iff_eq

/-! ## The locked flags -/

theorem State.lockPath_idx (s : State) (p : Path) (locked : Bool) :
    s.lockPath p.idx.val locked = .ok (s.setLock p locked) := by
  simp only [State.lockPath, Path.ofIndex_idx]

theorem State.lockPath_above (s : State) {n : Nat} (above : 4 < n) (locked : Bool) :
    s.lockPath n locked = .error .argument := by
  simp only [State.lockPath, Path.ofIndex_eq_none above]

theorem State.setLock_entry (s : State) (p : Path) (locked : Bool) (q : Path) :
    (s.setLock p locked).entry q = if q = p then { s.entry p with locked := locked } else s.entry q :=
  State.modEntry_entry s p _ q

/-- Flags set path by path along a list: the listed paths' flags are set, whatever the order and the repetitions. -/
theorem State.foldl_setLock_entry (paths : List Path) (s : State) (locked : Bool) (q : Path) :
    (paths.foldl (fun u p => u.setLock p locked) s).entry q
      = if q ∈ paths then { s.entry q with locked := locked } else s.entry q := by
  induction paths generalizing s with
  | nil => simp
  | cons p rest ih =>
    rw [List.foldl_cons, ih, State.setLock_entry]
    by_cases named : q = p
    · subst named; simp
    · simp [named]

theorem State.lockAll_entry (s : State) (locked : Bool) (q : Path) :
    (s.lockAll locked).entry q = { s.entry q with locked := locked } := by
  have listed : q ∈ Path.all := by cases q <;> decide
  rw [State.lockAll, State.foldl_setLock_entry, if_pos listed]

/-- Nothing outside the Path Table differs. -/
theorem State.lockAll_frame (s : State) (locked : Bool) :
    s.lockAll locked = { s with paths := (s.lockAll locked).paths } := rfl

/-! ## Setting the result and setting flags come to the same in either order -/

theorem State.setLock_setResult (s : State) (port : Port) (p : Path) (locked : Bool) (r : ResultCode) :
    (s.setLock p locked).setResult port r = (s.setResult port r).setLock p locked := rfl

theorem State.lockAll_setResult (s : State) (port : Port) (locked : Bool) (r : ResultCode) :
    (s.lockAll locked).setResult port r = (s.setResult port r).lockAll locked :=
  (List.foldl_hom (fun u : State => u.setResult port r)
    (fun u p => (State.setLock_setResult u port p locked r).symm)).symm

/-! ## The transactions, the flag's new value left open -/

section Operator

variable {s : State} {port : Port} (ready : s.resetting = none) (operator : (s.port port).role = .operator)
include ready operator

theorem State.command_lockPath_idx (locked : Bool) {n : Nat} {p : Path} (named : n = p.idx.val) :
    s.command port (some n) Role.operates (fun index t => t.lockPath index locked)
      = (s.answered port .ok).setLock p locked := by
  subst named
  rw [← State.beginTransaction_setResult, ← State.setLock_setResult]
  exact State.command_taken _ _ _ _ _ _ ready (Role.operates_iff.mpr operator) (State.lockPath_idx _ p locked)

theorem State.command_lockPath_above (locked : Bool) {n : Nat} (above : 4 < n) :
    s.command port (some n) Role.operates (fun index t => t.lockPath index locked) = s.answered port .argument :=
  State.command_refused _ _ _ _ _ _ ready (Role.operates_iff.mpr operator) (State.lockPath_above _ above locked)

theorem State.command_lockAll (locked : Bool) :
    s.command port (some ()) Role.operates (fun _ t => .ok (t.lockAll locked))
      = (s.answered port .ok).lockAll locked := by
  rw [← State.beginTransaction_setResult, ← State.lockAll_setResult]
  exact State.command_taken _ _ _ _ _ _ ready (Role.operates_iff.mpr operator) rfl

end Operator

theorem State.command_operates_rights {α : Type} {s : State} {port : Port} (ready : s.resetting = none)
    (other : (s.port port).role ≠ .operator) (a : α) (take : α → State → Except ResultCode State) :
    s.command port (some a) Role.operates take = s.answered port .rights :=
  State.command_rights _ _ _ _ _ ready (Bool.eq_false_iff.mpr (other ∘ Role.operates_iff.mp))

/-! ## The four rows -/

theorem exec_lockPath (port : Port) (b : Byte) (s : State) : exec (.lockPath port [b]) s
    = .next (s.command port (some b.toNat) Role.operates (fun index t => t.lockPath index true)) := rfl

theorem exec_unlockPath (port : Port) (b : Byte) (s : State) : exec (.unlockPath port [b]) s
    = .next (s.command port (some b.toNat) Role.operates (fun index t => t.lockPath index false)) := rfl

theorem exec_lockAll (port : Port) (s : State) : exec (.lockAll port []) s
    = .next (s.command port (some ()) Role.operates (fun _ t => .ok (t.lockAll true))) := rfl

theorem exec_unlockAll (port : Port) (s : State) : exec (.unlockAll port []) s
    = .next (s.command port (some ()) Role.operates (fun _ t => .ok (t.lockAll false))) := rfl

/-- The state after LOCK ALL or UNLOCK ALL from an OPERATOR port has every flag at the new value and differs from the
answered state in the Path Table alone. -/
theorem State.lockAll_answered_entries (s : State) (port : Port) (locked : Bool) :
    (∀ p, ((s.answered port .ok).lockAll locked).entry p = { s.entry p with locked := locked })
      ∧ (s.answered port .ok).lockAll locked
          = { s.answered port .ok with paths := ((s.answered port .ok).lockAll locked).paths } :=
  ⟨State.lockAll_entry (s.answered port .ok) locked, State.lockAll_frame _ _⟩

/-- Settles O31: each of the four rows is a command of the OPERATOR, and the rules above say what it leaves for either value
of the flag. -/
theorem locksSetAndCleared : Obligations.LocksSetAndCleared := by
  intro s port ready
  simp only [exec_lockPath, exec_unlockPath, exec_lockAll, exec_unlockAll, Host.Outcome.next.injEq]
  refine ⟨fun other b => ?rights, fun operator => ⟨fun p b named => ?named, fun b above => ?above, ?lockAll, ?unlockAll⟩⟩
  case rights => simp only [State.command_operates_rights ready other, and_self]
  case named =>
    exact ⟨State.command_lockPath_idx ready operator true named, State.command_lockPath_idx ready operator false named⟩
  case above =>
    exact ⟨State.command_lockPath_above ready operator true above, State.command_lockPath_above ready operator false above⟩
  case lockAll => exact ⟨_, State.command_lockAll ready operator true, State.lockAll_answered_entries s port true⟩
  case unlockAll => exact ⟨_, State.command_lockAll ready operator false, State.lockAll_answered_entries s port false⟩

end Sys2Proof.Machine

/-! What an input can do, said once: a transaction of a command port updates its port context around one action of a block
(`State.Takes`), every other row is its own operation, and an invariant is kept by a step as soon as it is kept by these. -/

namespace Sys2Proof.Machine

/-! ## What a block does for a taken command -/

/-- `s.Takes role port t`: a command that the checks of R161 and R164 let pass on `port`, whose role is `role`, makes `t` of
`s` before the port's result is set. A refusal by the owning block and a read that changes nothing are `nothing`. -/
inductive State.Takes (s : State) (role : Role) (port : Port) : State → Prop
  | nothing : s.Takes role port s
  | softReset (right : role = .operator) : s.Takes role port s.softReset
  | attentionMask (mask : AttnSet) : s.Takes role port (s.modPort port (fun c => { c with mask := mask }))
  | enablePath {args : List Byte} {index : Nat} {t : State} (framed : oneByte args = some index)
      (right : role.supervises = true) (ok : s.enablePath role index = .ok t) : s.Takes role port t
  | disablePath {args : List Byte} {index : Nat} {t : State} (framed : oneByte args = some index)
      (right : role.supervises = true) (ok : s.disablePath role index = .ok t) : s.Takes role port t
  | setPathTimers {args : List Byte} {a : PathTimersArgs} {t : State} (framed : pathTimersArgs args = some a)
      (right : role = .operator) (ok : s.setPathTimers a = .ok t) : s.Takes role port t
  | setThresholds {args : List Byte} {a : ThresholdArgs} {t : State} (framed : thresholdArgs args = some a)
      (right : role = .operator) (ok : s.setThresholds a = .ok t) : s.Takes role port t
  | selectBank {args : List Byte} {a : Nat × Nat} {t : State} (framed : bytePair args = some a)
      (right : role.supervises = true) (ok : s.selectBank role a.1 a.2 = .ok t) : s.Takes role port t
  | setBaseDelay {args : List Byte} {a : Nat × Nat} {t : State} (framed : byteAndLong args = some a)
      (right : role = .operator) (ok : s.setBaseDelay a.1 a.2 = .ok t) : s.Takes role port t
  | setSmoothing {args : List Byte} {a : SmoothingArgs} {t : State} (framed : smoothingArgs args = some a)
      (right : role = .operator) (ok : s.setSmoothing a = .ok t) : s.Takes role port t
  | postMargin {args : List Byte} {entries : List MarginEntry} {t : State} (framed : postMarginArgs args = some entries)
      (right : role.supervises = true) (ok : s.postMargin entries = .ok t) : s.Takes role port t
  | lockPath {index : Nat} {locked : Bool} {t : State} (right : role = .operator)
      (ok : s.lockPath index locked = .ok t) : s.Takes role port t
  | lockAll {locked : Bool} (right : role = .operator) : s.Takes role port (s.lockAll locked)
  | clearPathStats {index : Nat} {t : State} (right : role.supervises = true)
      (ok : s.clearPathStats index = .ok t) : s.Takes role port t
  | setPeerSite {site : Nat} {t : State} (right : role = .operator) (ok : s.setPeerSite site = .ok t) :
      s.Takes role port t
  | setSelection {args : List Byte} {a : SelectionArgs} {t : State} (framed : selectionArgs args = some a)
      (right : role = .operator) (ok : s.setSelection a = .ok t) : s.Takes role port t
  | pinPrimary {index : Nat} {t : State} (right : role = .operator) (ok : s.pinPrimary index = .ok t) :
      s.Takes role port t
  | unpinPrimary (right : role = .operator) : s.Takes role port s.unpinPrimary
  | setStream {args : List Byte} {a : StreamArgs} {t : State} (framed : streamArgs args = some a)
      (right : role.gates = true) (ok : s.setStream a = .ok t) : s.Takes role port t
  | resyncStream {index : Nat} {t : State} (right : role.gates = true) (ok : s.resyncStream index = .ok t) :
      s.Takes role port t
  | setTxSequence {index seq : Nat} {t : State} (right : role.gates = true) (ok : s.setTxSequence index seq = .ok t) :
      s.Takes role port t
  | setTime {sec ns : Nat} {t : State} (right : role = .operator) (ok : s.setTime sec ns = .ok t) : s.Takes role port t
  | stepTime {offset : Int} {t : State} (right : role = .operator) (ok : s.stepTime offset = .ok t) : s.Takes role port t
  | setFrequency {ppb : Int} {t : State} (right : role = .operator) (ok : s.setFrequency ppb = .ok t) :
      s.Takes role port t
  | setDiscipline {args : List Byte} {a : DisciplineArgs} {t : State} (framed : disciplineArgs args = some a)
      (right : role = .operator) (ok : s.setDiscipline a = .ok t) : s.Takes role port t
  | setCapture {a : CaptureArgs} {t : State} (ok : s.setCapture role a = .ok t) : s.Takes role port t
  | readCapture (channel : Channel) (right : role.readsCapture = true) :
      s.Takes role port (s.modTime (fun t => t.modChannel channel CaptureState.pop))
  | setMarker {a : MarkerArgs} {t : State} (right : role.gates = true) (ok : s.setMarker a = .ok t) : s.Takes role port t
  | startSweep {args : List Byte} {a : SweepArgs} {t : State} (framed : sweepArgs args = some a)
      (right : role.supervises = true) (ok : s.startSweep a = .ok t) : s.Takes role port t
  | suspendSweep (right : role.supervises = true) : s.Takes role port s.suspendSweep
  | resumeSweep (right : role.supervises = true) : s.Takes role port s.resumeSweep
  | cancelSweep (right : role.supervises = true) : s.Takes role port s.cancelSweep
  | setLogFilter {args : List Byte} {a : Nat × Nat} {t : State} (framed : wordPair args = some a)
      (ok : s.setLogFilter port a.1 a.2 = .ok t) : s.Takes role port t
  | seekLog {target : Nat} {t : State} (ok : s.seekLog port target = .ok t) : s.Takes role port t
  | setLink {us : Nat} {t : State} (right : role = .operator) (ok : s.setLink us = .ok t) : s.Takes role port t

/-- What a transaction does to its own port context once the status byte is out: the role and the status byte stay, the
counts keep their bounds, and a transaction that is no read begins none. -/
structure PortCtx.Concludes (reads : Bool) (g : PortCtx → PortCtx) : Prop where
  role : ∀ c, (g c).role = c.role
  statusOut : ∀ c, (g c).statusOut = c.statusOut
  bounded : ∀ c : PortCtx, c.bounded → (g c).bounded
  idle : reads = false → ∀ c : PortCtx, c.reading = none → (g c).reading = none

/-- `t` is what a transaction on `port` leaves of `s`. -/
def State.Transacted (s : State) (reads : Bool) (t : State) (port : Port) : Prop :=
  ∃ (u : State) (g : PortCtx → PortCtx), (s.beginTransaction port).Takes (s.port port).role port u
    ∧ PortCtx.Concludes reads g ∧ t = u.modPort port g

theorem PortCtx.concludes_result (reads : Bool) (r : ResultCode) :
    PortCtx.Concludes reads (fun c => { c with lastResult := r }) :=
  ⟨fun _ => rfl, fun _ => rfl, fun _ b => b, fun _ _ none => none⟩

theorem PortCtx.raise_reading {c : PortCtx} (k : AttnKind) (none : c.reading = none) : (c.raise k).reading = Option.none := by
  rw [PortCtx.raise, none]

theorem PortCtx.concludes_framing (reads : Bool) : PortCtx.Concludes reads (fun c => PortCtx.raise
    { c with lastResult := .framing, framingErrors := inc16 c.framingErrors } .protocol) :=
  ⟨fun _ => rfl, fun _ => rfl, fun _ b => ⟨Nat.min_le_left _ _, b.2⟩, fun _ _ none => PortCtx.raise_reading .protocol none⟩

theorem PortCtx.concludes_unknown (reads : Bool) :
    PortCtx.Concludes reads (fun c => { c with lastResult := .unknown, unknownCommands := inc16 c.unknownCommands }) :=
  ⟨fun _ => rfl, fun _ => rfl, fun _ b => ⟨b.1, Nat.min_le_left _ _⟩, fun _ _ none => none⟩

/-- A transaction that leaves every block as it was. -/
theorem State.transacted_of_nothing {s : State} {port : Port} {reads : Bool} {g : PortCtx → PortCtx}
    (h : PortCtx.Concludes reads g) : s.Transacted reads ((s.beginTransaction port).modPort port g) port :=
  ⟨_, g, .nothing, h, rfl⟩

theorem State.framingRefusal_transacted (s : State) (reads : Bool) (port : Port) :
    s.Transacted reads ((s.beginTransaction port).framingRefusal port) port := by
  rw [State.framingRefusal, State.raiseOn, State.modPort_modPort]
  exact State.transacted_of_nothing (PortCtx.concludes_framing reads)

/-- A command: FRAMING, BUSY, RIGHTS, a refusal of the owning block, or its action with OK. -/
theorem State.command_transacted {α : Type} {s : State} {port : Port} {args : Option α} {right : Role → Bool}
    {take : α → State → Except ResultCode State}
    (taken : ∀ a u, args = some a → right (s.port port).role = true → take a (s.beginTransaction port) = .ok u →
      (s.beginTransaction port).Takes (s.port port).role port u) :
    s.Transacted false (s.command port args right take) port := by
  have result := PortCtx.concludes_result false
  unfold State.command State.checked
  cases args with
  | none => exact s.framingRefusal_transacted _ port
  | some a =>
    dsimp only
    split_ifs with busy right
    · exact State.transacted_of_nothing (result _)
    · cases answer : take a (s.beginTransaction port) with
      | error e => exact State.transacted_of_nothing (result e)
      | ok u => exact ⟨u, _, taken a u rfl (by simpa using right) answer, result .ok, rfl⟩
    · exact State.transacted_of_nothing (result _)

theorem PortCtx.concludes_answer (x : Answer) :
    PortCtx.Concludes true (fun c => { c with lastResult := .ok, response := x.bytes, reading := some x.reading }) :=
  ⟨fun _ => rfl, fun _ => rfl, fun _ b => b, fun read => absurd read (by decide)⟩

/-- A read: FRAMING, a refusal with zero bytes, or the answer put out with OK. -/
theorem State.readCommand_transacted {α : Type} {s : State} {port : Port} {args : Option α} {right : Role → Bool}
    {take : α → State → Except ResultCode Answer}
    (taken : ∀ a x, args = some a → right (s.port port).role = true → take a (s.beginTransaction port) = .ok x →
      (s.beginTransaction port).Takes (s.port port).role port x.state) :
    s.Transacted true (s.readCommand port args right take) port := by
  have refusal (r : ResultCode) : PortCtx.Concludes true (fun c => { c with lastResult := r, reading := some .plain }) :=
    ⟨fun _ => rfl, fun _ => rfl, fun _ b => b, fun read => absurd read (by decide)⟩
  unfold State.readCommand State.checked
  cases args with
  | none => exact s.framingRefusal_transacted _ port
  | some a =>
    dsimp only
    split_ifs with busy right
    · exact State.transacted_of_nothing (refusal _)
    · cases answer : take a (s.beginTransaction port) with
      | error e => exact State.transacted_of_nothing (refusal e)
      | ok x =>
        exact ⟨x.state, _, taken a x rfl (by simpa using right) answer, PortCtx.concludes_answer x, rfl⟩
    · exact State.transacted_of_nothing (refusal _)

/-- A read whose answer leaves the state as it is. -/
theorem State.readCommand_transacted_plain {α : Type} {s : State} {port : Port} {args : Option α} {right : Role → Bool}
    {take : α → State → Except ResultCode Answer}
    (kept : ∀ a x, take a (s.beginTransaction port) = .ok x → x.state = s.beginTransaction port) :
    s.Transacted true (s.readCommand port args right take) port :=
  State.readCommand_transacted fun a x _ _ answer => kept a x answer ▸ .nothing

theorem Role.eq_operator {r : Role} (h : r.operates = true) : r = .operator := Role.operates_iff.mp h

/-- What a command row leaves is what a transaction leaves. -/
theorem exec_transacted {i : Instr} {port : Port} {args : List Byte} {s t : State} (command : i.portArgs = some (port, args))
    (known : i.wellFormed = true) (run : exec i s = .next t) : s.Transacted i.isRead t port := by
  cases i with
  | unknownCommand q code b =>
    cases command
    have unknown : isCommandCode code = false := by simpa [Instr.wellFormed] using known
    cases run
    rw [State.unknownCommand, unknown, if_neg Bool.false_ne_true]
    exact State.transacted_of_nothing (PortCtx.concludes_unknown _)
  | softReset q b =>
    cases command; cases run
    exact State.command_transacted fun _ _ _ right ok => by cases ok; exact .softReset (Role.eq_operator right)
  | readId q =>
    cases command; cases run
    exact State.transacted_of_nothing (PortCtx.concludes_answer ⟨_, _, .plain⟩)
  | setAttentionMask q b =>
    cases command; cases run
    refine State.command_transacted fun kinds u _ _ ok => ?_
    unfold State.setAttentionMask at ok
    split at ok <;> cases ok
    exact .attentionMask _
  | readPath q b =>
    cases command; cases run
    refine State.readCommand_transacted_plain fun index x answer => ?_
    unfold State.readPath at answer
    split at answer <;> cases answer; rfl
  | readStream q b =>
    cases command; cases run
    refine State.readCommand_transacted_plain fun index x answer => ?_
    unfold State.readStream at answer
    split at answer <;> cases answer; rfl
  | readCapture q b =>
    cases command; cases run
    refine State.readCommand_transacted fun index x _ right answer => ?_
    unfold State.readCapture at answer
    split at answer <;> cases answer
    exact .readCapture _ right
  | readStatus _ | readSelection _ | readTime _ | readSweep _ =>
    cases command; cases run
    exact State.readCommand_transacted_plain fun _ _ answer => by cases answer; rfl
  | readAttention _ | readLog _ | peekLog _ =>
    cases command; cases run
    exact State.readCommand_transacted_plain fun _ _ answer => by cases answer; rfl
  | enablePath q b =>
    cases command; cases run
    exact State.command_transacted fun _ _ framed right ok =>
      .enablePath framed right (by rwa [State.beginTransaction_port] at ok)
  | disablePath q b =>
    cases command; cases run
    exact State.command_transacted fun _ _ framed right ok =>
      .disablePath framed right (by rwa [State.beginTransaction_port] at ok)
  | selectBank q b =>
    cases command; cases run
    exact State.command_transacted fun _ _ framed right ok =>
      .selectBank framed right (by rwa [State.beginTransaction_port] at ok)
  | setCapture q b =>
    cases command; cases run
    exact State.command_transacted fun _ _ _ _ ok => .setCapture (by rwa [State.beginTransaction_port] at ok)
  | setPathTimers q b =>
    cases command; cases run
    exact State.command_transacted fun _ _ framed right ok => .setPathTimers framed (Role.eq_operator right) ok
  | setThresholds q b =>
    cases command; cases run
    exact State.command_transacted fun _ _ framed right ok => .setThresholds framed (Role.eq_operator right) ok
  | setBaseDelay q b =>
    cases command; cases run
    exact State.command_transacted fun _ _ framed right ok => .setBaseDelay framed (Role.eq_operator right) ok
  | setSmoothing q b =>
    cases command; cases run
    exact State.command_transacted fun _ _ framed right ok => .setSmoothing framed (Role.eq_operator right) ok
  | postMargin q b =>
    cases command; cases run
    exact State.command_transacted fun _ _ framed right ok => .postMargin framed right ok
  | lockPath q b =>
    cases command; cases run
    exact State.command_transacted fun _ _ _ right ok => .lockPath (Role.eq_operator right) ok
  | unlockPath q b =>
    cases command; cases run
    exact State.command_transacted fun _ _ _ right ok => .lockPath (Role.eq_operator right) ok
  | lockAll q b =>
    cases command; cases run
    exact State.command_transacted fun _ _ _ right ok => by cases ok; exact .lockAll (Role.eq_operator right)
  | unlockAll q b =>
    cases command; cases run
    exact State.command_transacted fun _ _ _ right ok => by cases ok; exact .lockAll (Role.eq_operator right)
  | clearPathStats q b =>
    cases command; cases run
    exact State.command_transacted fun _ _ _ right ok => .clearPathStats right ok
  | setPeerSite q b =>
    cases command; cases run
    exact State.command_transacted fun _ _ _ right ok => .setPeerSite (Role.eq_operator right) ok
  | setSelection q b =>
    cases command; cases run
    exact State.command_transacted fun _ _ framed right ok => .setSelection framed (Role.eq_operator right) ok
  | pinPrimary q b =>
    cases command; cases run
    exact State.command_transacted fun _ _ _ right ok => .pinPrimary (Role.eq_operator right) ok
  | unpinPrimary q b =>
    cases command; cases run
    exact State.command_transacted fun _ _ _ right ok => by cases ok; exact .unpinPrimary (Role.eq_operator right)
  | setStream q b =>
    cases command; cases run
    exact State.command_transacted fun _ _ framed right ok => .setStream framed right ok
  | resyncStream q b =>
    cases command; cases run
    exact State.command_transacted fun _ _ _ right ok => .resyncStream right ok
  | setTxSequence q b =>
    cases command; cases run
    exact State.command_transacted fun _ _ _ right ok => .setTxSequence right ok
  | setTime q b =>
    cases command; cases run
    exact State.command_transacted fun _ _ _ right ok => .setTime (Role.eq_operator right) ok
  | stepTime q b =>
    cases command; cases run
    exact State.command_transacted fun _ _ _ right ok => .stepTime (Role.eq_operator right) ok
  | setFrequency q b =>
    cases command; cases run
    exact State.command_transacted fun _ _ _ right ok => .setFrequency (Role.eq_operator right) ok
  | setDiscipline q b =>
    cases command; cases run
    exact State.command_transacted fun _ _ framed right ok => .setDiscipline framed (Role.eq_operator right) ok
  | setMarker q b =>
    cases command; cases run
    exact State.command_transacted fun _ _ _ right ok => .setMarker right ok
  | startSweep q b =>
    cases command; cases run
    exact State.command_transacted fun _ _ framed right ok => .startSweep framed right ok
  | suspendSweep q b =>
    cases command; cases run
    exact State.command_transacted fun _ _ _ right ok => by cases ok; exact .suspendSweep right
  | resumeSweep q b =>
    cases command; cases run
    exact State.command_transacted fun _ _ _ right ok => by cases ok; exact .resumeSweep right
  | cancelSweep q b =>
    cases command; cases run
    exact State.command_transacted fun _ _ _ right ok => by cases ok; exact .cancelSweep right
  | setLogFilter q b =>
    cases command; cases run
    exact State.command_transacted fun _ _ framed _ ok => .setLogFilter framed ok
  | seekLog q b =>
    cases command; cases run
    exact State.command_transacted fun _ _ _ _ ok => .seekLog ok
  | setLink q b =>
    cases command; cases run
    exact State.command_transacted fun _ _ _ right ok => .setLink (Role.eq_operator right) ok
  | _ => cases command

/-! ## The rows that are no transaction -/

/-- `s.Occurs t`: a row that is neither a transaction nor a pin or power-on reset makes `t` of `s`. -/
inductive State.Occurs (s : State) : State → Prop
  | nothing : s.Occurs s
  | softResetPeriodEnd : s.Occurs s.softResetPeriodEnd
  | pathFrameStart (p : Path) : s.Occurs (s.pathFrameStart p)
  | pathFrameEnd (p : Path) (bytes : List Byte) : s.Occurs (s.pathFrameEnd p bytes)
  | silenceExpiry (p : Path) : s.Occurs (s.silenceExpiry p)
  | windowEnd (p : Path) : s.Occurs (s.windowEnd p)
  | recoverHoldExpiry (p : Path) : s.Occurs (s.recoverHoldExpiry p)
  | reportExpiry (p : Path) : s.Occurs (s.reportExpiry p)
  | scoreDecay (p : Path) : s.Occurs (s.scoreDecay p)
  | guardExpiry : s.Occurs s.guardExpiry
  | frameTransmitEnd (p : Path) : s.Occurs (s.frameTransmitEnd p)
  | beaconWaitEnd (p : Path) : s.Occurs (s.beaconWaitEnd p)
  | localFrameStart : s.Occurs s.localFrameStart
  | localFrameIntake (bytes : List Byte) : s.Occurs (s.localFrameIntake bytes)
  | localTransmitEnd : s.Occurs s.localTransmitEnd
  | holdExpiry (i : StreamId) : s.Occurs (s.holdExpiry i)
  | probeIssue : s.Occurs s.probeIssue
  | probeTimeout : s.Occurs s.probeTimeout
  | settleDeadline : s.Occurs s.settleDeadline
  | refPulse (r : Ref) (dir : EdgeDir) : s.Occurs (s.refPulse r dir)
  | refTimeout (r : Ref) : s.Occurs (s.refTimeout r)
  | markEdge (m : Mark) (dir : EdgeDir) : s.Occurs (s.markEdge m dir)
  | markerMatch (o : Out) : s.Occurs (s.markerMatch o)
  | markerPulseEnd (o : Out) : s.Occurs (s.markerPulseEnd o)
  | logHeadDone (port : Port) : s.Occurs (s.logHeadDone port)
  | logImageDone (port : Port) : s.Occurs (s.logImageDone port)
  | emptyImageDone (port : Port) : s.Occurs (s.emptyImageDone port)
  | attentionDone (port : Port) : s.Occurs (s.modPort port PortCtx.attentionDone)
  | interruptedRise (port : Port) : s.Occurs (s.interruptedRise port)

/-- `s.Happens t`: a row that is no transaction makes `t` of `s`. -/
inductive State.Happens (s : State) : State → Prop
  | pinReset (site : BitVec 4) (role0 role1 role2 : BitVec 2) : s.Happens (s.pinReset site role0 role1 role2)
  | occurs {t : State} (run : s.Occurs t) : s.Happens t

/-- The input is neither a pin reset nor a power-on reset. -/
def Instr.NoPinReset (i : Instr) : Prop :=
  ∀ site role0 role1 role2, i ≠ .pinReset site role0 role1 role2 ∧ i ≠ .powerOnReset site role0 role1 role2

/-- Every row that is neither a transaction nor a pin or power-on reset is one of these operations. -/
theorem exec_occurs {i : Instr} {s t : State} (event : i.portArgs = none) (noReset : Instr.NoPinReset i)
    (run : exec i s = .next t) : s.Occurs t := by
  cases i with
  | pinReset => exact absurd rfl (noReset _ _ _ _).1
  | powerOnReset => exact absurd rfl (noReset _ _ _ _).2
  | softResetPeriodEnd => cases run; exact .softResetPeriodEnd
  | pathFrameStart p => cases run; exact .pathFrameStart p
  | pathFrameEnd p bytes => cases run; exact .pathFrameEnd p bytes
  | silenceTimerExpiry p => cases run; exact .silenceExpiry p
  | errorWindowEnd p => cases run; exact .windowEnd p
  | recoverHoldExpiry p => cases run; exact .recoverHoldExpiry p
  | reportTimeout p => cases run; exact .reportExpiry p
  | scoreDecay p => cases run; exact .scoreDecay p
  | guardExpiry => cases run; exact .guardExpiry
  | frameTransmitEnd p => cases run; exact .frameTransmitEnd p
  | beaconWaitEnd p => cases run; exact .beaconWaitEnd p
  | localFrameStart => cases run; exact .localFrameStart
  | localFrameIntake bytes => cases run; exact .localFrameIntake bytes
  | localTransmitEnd => cases run; exact .localTransmitEnd
  | holdExpiry i => cases run; exact .holdExpiry i
  | probeIssue => cases run; exact .probeIssue
  | probeTimeout => cases run; exact .probeTimeout
  | settleDeadline => cases run; exact .settleDeadline
  | refPulse r dir => cases run; exact .refPulse r dir
  | refTimeout r => cases run; exact .refTimeout r
  | markEdge m dir => cases run; exact .markEdge m dir
  | markerMatch o => cases run; exact .markerMatch o
  | markerPulseEnd o => cases run; exact .markerPulseEnd o
  | logHeadComplete port => cases run; exact .logHeadDone port
  | logImageComplete port => cases run; exact .logImageDone port
  | emptyImageComplete port => cases run; exact .emptyImageDone port
  | attentionReadComplete port => cases run; exact .attentionDone port
  | interruptedReadSelectRise port => cases run; exact .interruptedRise port
  | _ => cases event

/-- Every row that is no transaction is one of these operations, or a reset by the pin or at power-on. -/
theorem exec_happens {i : Instr} {s t : State} (event : i.portArgs = none) (run : exec i s = .next t) : s.Happens t := by
  cases i with
  | pinReset site r0 r1 r2 => cases run; exact .pinReset site r0 r1 r2
  | powerOnReset site r0 r1 r2 => cases run; exact .pinReset site r0 r1 r2
  | _ => exact .occurs (exec_occurs event (fun _ _ _ _ => ⟨nofun, nofun⟩) run)

/-- An unknown command with a code of the table is the one row of a transaction that does nothing (log entry 3). -/
theorem exec_not_wellFormed {i : Instr} {s t : State} (known : i.wellFormed = false) (run : exec i s = .next t) : t = s := by
  cases i with
  | unknownCommand q code b =>
    have code_known : isCommandCode code = true := by simpa [Instr.wellFormed] using known
    cases run
    rw [State.unknownCommand, code_known, if_pos rfl]
  | _ => cases known

/-- What an input other than a pin or power-on reset can do: a row that is no transaction, or a transaction on its port. -/
theorem exec_cases_noPinReset {i : Instr} {s t : State} (noReset : Instr.NoPinReset i) (run : exec i s = .next t) :
    (i.portArgs = none ∨ i.wellFormed = false) ∧ s.Occurs t
      ∨ ∃ port args, i.portArgs = some (port, args) ∧ s.Transacted i.isRead t port := by
  rcases known : i.wellFormed with _ | _
  · exact .inl ⟨.inr rfl, exec_not_wellFormed known run ▸ .nothing⟩
  · rcases command : i.portArgs with _ | ⟨port, args⟩
    · exact .inl ⟨.inl rfl, exec_occurs command noReset run⟩
    · exact .inr ⟨port, args, rfl, exec_transacted command known run⟩

/-- What an input can do: a row that is no transaction, or a transaction on its port. -/
theorem exec_cases {i : Instr} {s t : State} (run : exec i s = .next t) :
    (i.portArgs = none ∨ i.wellFormed = false) ∧ s.Happens t
      ∨ ∃ port args, i.portArgs = some (port, args) ∧ s.Transacted i.isRead t port := by
  rcases known : i.wellFormed with _ | _
  · exact .inl ⟨.inr rfl, exec_not_wellFormed known run ▸ .occurs .nothing⟩
  · rcases command : i.portArgs with _ | ⟨port, args⟩
    · exact .inl ⟨.inl rfl, exec_happens command run⟩
    · exact .inr ⟨port, args, rfl, exec_transacted command known run⟩

/-! ## Invariants -/

/-- An invariant of the part is kept by every step: what has to be shown of a tick, of a row that is no transaction, of a
block's action, and of an update of one port context. The queue must not matter to it. -/
structure State.Kept (I : State → Prop) : Prop where
  pending : ∀ (s : State) (queue : List Instr), I s → I { s with pending := queue }
  advance : ∀ s : State, I s → I (s.modTime TimeUnit.advance)
  happens : ∀ s t : State, s.Happens t → I s → I t
  takes : ∀ (s t : State) (role : Role) (port : Port), s.Takes role port t → I s → I t
  port : ∀ (s : State) (port : Port) (g : PortCtx → PortCtx), (∀ c : PortCtx, c.bounded → (g c).bounded) → I s →
    I (s.modPort port g)

theorem State.Kept.transacted {I : State → Prop} (kept : State.Kept I) {s t : State} {reads : Bool} {port : Port}
    (h : s.Transacted reads t port) (hs : I s) : I t := by
  obtain ⟨u, g, takes, concludes, rfl⟩ := h
  have begun : I (s.beginTransaction port) := kept.port _ _ _ (fun _ b => b) hs
  exact kept.port _ _ _ concludes.bounded (kept.takes _ _ _ _ takes begun)

theorem State.Kept.exec {I : State → Prop} (kept : State.Kept I) {i : Instr} {s t : State} (run : exec i s = .next t)
    (hs : I s) : I t := by
  rcases exec_cases run with ⟨-, happens⟩ | ⟨port, -, -, transacted⟩
  · exact kept.happens _ _ happens hs
  · exact kept.transacted transacted hs

theorem State.Kept.step {I : State → Prop} (kept : State.Kept I) {s t : State} (hs : I s) (run : step s = .next t) : I t := by
  unfold Machine.step at run
  split at run
  · cases run
    exact kept.pending _ _ (kept.advance s hs)
  · exact kept.exec run (kept.pending s _ hs)

end Sys2Proof.Machine

/-! Footprints that the frames of Laws/Frames.lean leave open: the operations of the sweep, those of the Time Unit, and the
entries whose statistics alone move. -/

namespace Sys2Proof.Machine

/-! ## The sweep -/

/-- Nothing differs but the transmitters, the sweep, the log and attention. -/
def State.sweepOnly (s t : State) : Prop :=
  t = { s with transmitters := t.transmitters, sounding := t.sounding, log := t.log, ports := t.ports } ∧ s.portsRaised t

theorem State.sweepOnly_refl (s : State) : s.sweepOnly s := ⟨rfl, s.portsRaised_refl⟩

theorem State.sweepOnly_trans {s t u : State} (h : s.sweepOnly t) (h' : t.sweepOnly u) : s.sweepOnly u := by
  refine ⟨?_, State.portsRaised_trans h.2 h'.2⟩
  rw [h'.1, h.1]

theorem State.logOnly.sweepOnly {s t : State} (h : s.logOnly t) : s.sweepOnly t := by
  refine ⟨?_, h.2⟩
  rw [h.1]

theorem State.modTransmitter_sweepOnly (s : State) (p : Path) (g : Transmitter → Transmitter) :
    s.sweepOnly (s.modTransmitter p g) := ⟨rfl, State.portsRaised_of_ports rfl⟩

theorem State.modSounding_sweepOnly (s : State) (g : Sounding → Sounding) : s.sweepOnly (s.modSounding g) :=
  ⟨rfl, State.portsRaised_of_ports rfl⟩

theorem State.sweepOnly.paths {s t : State} (h : s.sweepOnly t) : t.paths = s.paths := by rw [h.1]
theorem State.sweepOnly.selector {s t : State} (h : s.sweepOnly t) : t.selector = s.selector := by rw [h.1]
theorem State.sweepOnly.entry {s t : State} (h : s.sweepOnly t) (p : Path) : t.entry p = s.entry p := by rw [h.1]; rfl
theorem State.sweepOnly.rxStreams {s t : State} (h : s.sweepOnly t) : t.rxStreams = s.rxStreams := by rw [h.1]

theorem State.startReport_sweepOnly (s : State) (body : FrameBody) : s.sweepOnly (s.startReport body) := by
  unfold State.startReport
  split
  · exact s.modSounding_sweepOnly _
  · exact s.sweepOnly_refl

theorem State.arbitrate_sweepOnly (s : State) (p : Path) : s.sweepOnly (s.arbitrate p) := by
  unfold State.arbitrate
  dsimp only
  split
  · exact s.sweepOnly_refl
  · split
    · exact State.sweepOnly_trans (s.modTransmitter_sweepOnly p _) (State.startReport_sweepOnly _ _)
    · exact s.sweepOnly_refl

theorem State.abandonProbe_sweepOnly (s : State) : s.sweepOnly s.abandonProbe := by
  unfold State.abandonProbe
  dsimp only
  split
  · exact State.sweepOnly_trans (s.modTransmitter_sweepOnly _ _) (State.modSounding_sweepOnly _ _)
  · exact s.modSounding_sweepOnly _

theorem State.fallbackReport_sweepOnly (s : State) : s.sweepOnly s.fallbackReport := by
  unfold State.fallbackReport
  dsimp only
  split
  · exact s.sweepOnly_refl
  · split
    · exact State.sweepOnly_trans s.abandonProbe_sweepOnly (State.modSounding_sweepOnly _ _)
    · exact s.modSounding_sweepOnly _
    · exact s.sweepOnly_refl

theorem State.issueProbe_sweepOnly (s : State) (p : Path) : s.sweepOnly (s.issueProbe p) :=
  State.sweepOnly_trans (State.sweepOnly_trans (s.modTransmitter_sweepOnly p _) (State.modSounding_sweepOnly _ _))
    (State.arbitrate_sweepOnly _ _)

theorem State.endSweep_sweepOnly (s : State) : s.sweepOnly s.endSweep :=
  State.sweepOnly_trans (s.modSounding_sweepOnly _) (State.raiseAll_logOnly _ _).sweepOnly

theorem State.beginBurst_sweepOnly (s : State) (p : Path) : s.sweepOnly (s.beginBurst p) :=
  State.sweepOnly_trans (s.modSounding_sweepOnly _) (State.issueProbe_sweepOnly _ _)

/-- A turn of the sweep moves no entry and no selection (R145). -/
theorem State.pathTurn_sweepOnly (fuel : Nat) (s : State) : s.sweepOnly (State.pathTurn fuel s) := by
  induction fuel generalizing s with
  | zero => exact s.sweepOnly_refl
  | succ fuel ih =>
    unfold State.pathTurn
    split
    · exact s.endSweep_sweepOnly
    · rename_i p _
      have h := s.modSounding_sweepOnly (fun x => { x with remaining := x.remaining.remove p })
      dsimp only
      split
      · exact State.sweepOnly_trans h (State.sweepOnly_trans (State.logWrite_logOnly _ _).sweepOnly (ih _))
      · exact State.sweepOnly_trans h (State.sweepOnly_trans (State.logWrite_logOnly _ _).sweepOnly (ih _))
      · exact State.sweepOnly_trans h (State.beginBurst_sweepOnly _ _)

/-- What follows the report of a burst that ends: the record, then the next turn or the end of the sweep (R150). -/
theorem State.endBurst_sweepOnly (s : State) (p : Path) (result : BurstResult) :
    (s.burstReport p result (s.sounding.minimum.getD 0)).1.sweepOnly (s.endBurst p result) := by
  unfold State.endBurst
  dsimp only
  generalize s.burstReport p result (s.sounding.minimum.getD 0) = r
  have h := State.sweepOnly_trans (State.logWrite_logOnly r.1 (.sound p result s.sounding.valid s.sounding.lost
    s.sounding.minimum (r.1.entry p).delay r.2)).sweepOnly (State.modSounding_sweepOnly _ (fun x => { x with current := none }))
  split_ifs
  · exact State.sweepOnly_trans h (State.endSweep_sweepOnly _)
  · exact State.sweepOnly_trans h (State.pathTurn_sweepOnly _ _)
  · exact h

theorem State.suspendSweep_sweepOnly (s : State) : s.sweepOnly s.suspendSweep := by
  unfold State.suspendSweep
  split
  · exact State.sweepOnly_trans s.abandonProbe_sweepOnly (State.modSounding_sweepOnly _ _)
  · exact s.sweepOnly_refl

theorem State.cancelSweep_sweepOnly (s : State) : s.sweepOnly s.cancelSweep := by
  have ended (u : State) (h : s.sweepOnly u) : s.sweepOnly (u.modSounding (fun x => { x with remaining := 0 })).endSweep :=
    State.sweepOnly_trans h (State.sweepOnly_trans (u.modSounding_sweepOnly _) (State.endSweep_sweepOnly _))
  unfold State.cancelSweep
  dsimp only
  split
  · exact s.sweepOnly_refl
  · refine ended _ ?_
    split
    · exact State.sweepOnly_trans s.abandonProbe_sweepOnly (State.logWrite_logOnly _ _).sweepOnly
    · exact s.sweepOnly_refl

theorem State.startSweep_sweepOnly {s t : State} {a : SweepArgs} (ok : s.startSweep a = .ok t) : s.sweepOnly t := by
  unfold State.startSweep at ok
  split_ifs at ok
  cases ok
  exact State.sweepOnly_trans (s.modSounding_sweepOnly _) (State.pathTurn_sweepOnly _ _)

theorem State.beaconWaitEnd_sweepOnly (s : State) (p : Path) : s.sweepOnly (s.beaconWaitEnd p) := by
  unfold State.beaconWaitEnd
  split
  · exact State.sweepOnly_trans (s.modTransmitter_sweepOnly p _) (State.arbitrate_sweepOnly _ _)
  · exact s.sweepOnly_refl

theorem State.echoService_sweepOnly (s : State) (p : Path) (tag : Byte) (index arrival : Nat) :
    s.sweepOnly (s.echoService p tag index arrival) :=
  State.sweepOnly_trans (s.modTransmitter_sweepOnly p _) (State.arbitrate_sweepOnly _ _)

/-! ## The Time Unit -/

/-- Nothing differs but the Time Unit, the log and attention, and MONO does not. -/
def State.timeOnly (s t : State) : Prop :=
  t = { s with time := t.time, log := t.log, ports := t.ports } ∧ t.time.mono = s.time.mono ∧ s.portsRaised t

theorem State.timeOnly_refl (s : State) : s.timeOnly s := ⟨rfl, rfl, s.portsRaised_refl⟩

theorem State.timeOnly_trans {s t u : State} (h : s.timeOnly t) (h' : t.timeOnly u) : s.timeOnly u := by
  refine ⟨?_, h'.2.1.trans h.2.1, State.portsRaised_trans h.2.2 h'.2.2⟩
  rw [h'.1, h.1]

theorem State.logOnly.timeOnly {s t : State} (h : s.logOnly t) : s.timeOnly t := by
  refine ⟨?_, by rw [h.1], h.2⟩
  rw [h.1]

theorem State.modTime_timeOnly (s : State) {g : TimeUnit → TimeUnit} (mono : (g s.time).mono = s.time.mono) :
    s.timeOnly (s.modTime g) := ⟨rfl, mono, State.portsRaised_of_ports rfl⟩

theorem State.noteQuality_timeOnly (s : State) (old : Quality) (offset : Int) : s.timeOnly (s.noteQuality old offset) := by
  unfold State.noteQuality
  split
  · exact s.timeOnly_refl
  · exact (State.logOnly_trans (s.logWrite_logOnly _) (State.raiseAll_logOnly _ _)).timeOnly

theorem State.noteStep_timeOnly (s : State) (old : Quality) (offset qualityOffset : Int) :
    s.timeOnly (s.noteStep old offset qualityOffset) :=
  State.timeOnly_trans (State.logOnly_trans (s.logWrite_logOnly _) (State.raiseAll_logOnly _ _)).timeOnly
    (State.noteQuality_timeOnly _ _ _)

theorem TimeUnit.afterSwitch_mono (u : TimeUnit) (new : Option Ref) : (u.afterSwitch new).mono = u.mono := by
  unfold TimeUnit.afterSwitch
  split
  · rfl
  · split <;> rfl

theorem State.chooseActive_timeOnly (s : State) : s.timeOnly s.chooseActive := by
  rcases s.chooseActive_cases with ⟨-, h⟩ | ⟨-, h⟩ <;> rw [h]
  · exact s.timeOnly_refl
  · exact State.timeOnly_trans (State.timeOnly_trans (s.modTime_timeOnly (s.time.afterSwitch_mono _))
      (State.logOnly_trans (State.logWrite_logOnly _ _) (State.raiseAll_logOnly _ _)).timeOnly)
      (State.noteQuality_timeOnly _ _ _)

theorem TimeUnit.slew_mono (t : TimeUnit) (e : Int) : (t.slew e).mono = t.mono := by
  unfold TimeUnit.slew
  dsimp only
  split <;> rfl

theorem State.applyPulse_timeOnly (s : State) (ns : Nat) : s.timeOnly (s.applyPulse ns) := by
  unfold State.applyPulse
  dsimp only
  split
  · split
    · exact State.timeOnly_trans (s.modTime_timeOnly rfl) (State.noteStep_timeOnly _ _ _ _)
    · exact State.timeOnly_trans (s.modTime_timeOnly (s.time.slew_mono _)) (State.noteQuality_timeOnly _ _ _)
  · exact s.timeOnly_refl

theorem State.capture_timeOnly (s : State) (c : Channel) (t : Stamp) : s.timeOnly (s.capture c t) := by
  unfold State.capture
  dsimp only
  generalize (s.channel c).stamp t = v
  have pushed : s.timeOnly (s.modTime (fun u => u.modChannel c (fun x => x.push v))) := s.modTime_timeOnly rfl
  generalize s.modTime (fun u => u.modChannel c (fun x => x.push v)) = s1 at pushed
  have raised : s.timeOnly (if (s1.channel c).fifo.length = 2 then s1.raiseAll .capture else s1) := by
    split
    · exact State.timeOnly_trans pushed (State.raiseAll_logOnly _ _).timeOnly
    · exact pushed
  split
  · exact State.timeOnly_trans raised (State.logWrite_logOnly _ _).timeOnly
  · exact raised

theorem State.refPulse_timeOnly (s : State) (r : Ref) (dir : EdgeDir) : s.timeOnly (s.refPulse r dir) := by
  have chosen := State.timeOnly_trans (s.modTime_timeOnly (g := fun u => u.modRef r (RefState.pulse s.stamp.mono)) rfl)
    (State.chooseActive_timeOnly _)
  have captured (u : State) (h : s.timeOnly u) :
      s.timeOnly (if u.resetting.isSome then u else u.capture r.channel s.stamp) := by
    split
    · exact h
    · exact State.timeOnly_trans h (State.capture_timeOnly _ _ _)
  have applied (u : State) (h : s.timeOnly u) :
      s.timeOnly (if u.time.active = some r then u.applyPulse s.stamp.tod.ns else u) := by
    split
    · exact State.timeOnly_trans h (State.applyPulse_timeOnly _ _)
    · exact h
  unfold State.refPulse
  split
  · exact applied _ (captured _ chosen)
  · exact s.timeOnly_refl

theorem State.refTimeout_timeOnly (s : State) (r : Ref) : s.timeOnly (s.refTimeout r) := by
  unfold State.refTimeout
  split
  · exact State.timeOnly_trans (s.modTime_timeOnly rfl) (State.chooseActive_timeOnly _)
  · exact s.timeOnly_refl

theorem State.markEdge_timeOnly (s : State) (m : Mark) (dir : EdgeDir) : s.timeOnly (s.markEdge m dir) := by
  unfold State.markEdge
  split
  · exact s.capture_timeOnly _ _
  · exact s.timeOnly_refl

theorem State.markerMatch_timeOnly (s : State) (o : Out) : s.timeOnly (s.markerMatch o) := by
  unfold State.markerMatch
  split
  · exact s.modTime_timeOnly rfl
  · exact s.timeOnly_refl

theorem State.markerPulseEnd_timeOnly (s : State) (o : Out) : s.timeOnly (s.markerPulseEnd o) := by
  unfold State.markerPulseEnd
  split
  · exact s.modTime_timeOnly rfl
  · exact s.timeOnly_refl

theorem State.setTime_timeOnly {s t : State} {sec ns : Nat} (ok : s.setTime sec ns = .ok t) : s.timeOnly t := by
  unfold State.setTime at ok
  split_ifs at ok
  cases ok
  refine State.timeOnly_trans (s.modTime_timeOnly ?_) (State.noteStep_timeOnly _ _ _ _)
  unfold TimeUnit.load
  dsimp only
  split <;> rfl

theorem State.stepTime_timeOnly {s t : State} {offset : Int} (ok : s.stepTime offset = .ok t) : s.timeOnly t := by
  unfold State.stepTime at ok
  split_ifs at ok
  cases ok
  refine State.timeOnly_trans (s.modTime_timeOnly ?_) (State.noteStep_timeOnly _ _ _ _)
  split <;> rfl

theorem State.setFrequency_timeOnly {s t : State} {ppb : Int} (ok : s.setFrequency ppb = .ok t) : s.timeOnly t := by
  unfold State.setFrequency at ok
  split_ifs at ok
  cases ok
  exact s.modTime_timeOnly rfl

theorem TimeUnit.switchDiscipline_mono (t : TimeUnit) (on : Bool) : (t.switchDiscipline on).mono = t.mono := by
  unfold TimeUnit.switchDiscipline
  split
  · split <;> rfl
  · rfl
  · rfl

theorem State.setDiscipline_timeOnly {s t : State} {a : DisciplineArgs} (ok : s.setDiscipline a = .ok t) :
    s.timeOnly t := by
  unfold State.setDiscipline at ok
  split at ok
  · cases ok
  · split_ifs at ok
    cases ok
    exact State.timeOnly_trans (s.modTime_timeOnly (s.time.switchDiscipline_mono _)) (State.noteQuality_timeOnly _ _ _)

theorem State.storeCapture_timeOnly (s : State) (c : Channel) (edge : EdgeSetting) (source : Source) (log : Bool) :
    s.timeOnly (s.storeCapture c edge source log) := by
  have stored := s.modTime_timeOnly (g := fun u => u.modChannel c (fun _ => ⟨edge, source, log, [], false⟩)) rfl
  unfold State.storeCapture
  dsimp only
  split
  · split
    · exact stored
    · exact State.timeOnly_trans (State.timeOnly_trans stored (State.modTime_timeOnly _ rfl)) (State.chooseActive_timeOnly _)
  · exact stored

theorem State.setCapture_timeOnly {s t : State} {role : Role} {a : CaptureArgs} (ok : s.setCapture role a = .ok t) :
    s.timeOnly t := by
  unfold State.setCapture at ok
  split at ok
  · cases ok
  · split_ifs at ok
    split at ok
    · cases ok
      exact s.storeCapture_timeOnly _ _ _ _
    · cases ok

theorem State.setMarker_timeOnly {s t : State} {a : MarkerArgs} (ok : s.setMarker a = .ok t) : s.timeOnly t := by
  unfold State.setMarker at ok
  split at ok
  · split_ifs at ok
    cases ok
    exact s.modTime_timeOnly rfl
  · cases ok

/-! ## Log reads and settings -/

/-- Nothing differs but the log's reading contexts and the port contexts. -/
def State.readersOnly (s t : State) : Prop := t = { s with log := { s.log with readers := t.log.readers }, ports := t.ports }

theorem State.readersOnly_trans {s t u : State} (h : s.readersOnly t) (h' : t.readersOnly u) : s.readersOnly u := by
  unfold State.readersOnly at *
  rw [h', h]

theorem State.modReader_readersOnly (s : State) (p : Port) (g : ReadCtx → ReadCtx) : s.readersOnly (s.modReader p g) := rfl
theorem State.modPort_readersOnly (s : State) (p : Port) (g : PortCtx → PortCtx) : s.readersOnly (s.modPort p g) := rfl

theorem State.logHeadDone_readersOnly (s : State) (p : Port) : s.readersOnly (s.logHeadDone p) := by
  unfold State.logHeadDone
  split <;> rfl

theorem State.logImageDone_readersOnly (s : State) (p : Port) : s.readersOnly (s.logImageDone p) := by
  unfold State.logImageDone
  split <;> rfl

theorem State.emptyImageDone_readersOnly (s : State) (p : Port) : s.readersOnly (s.emptyImageDone p) := by
  unfold State.emptyImageDone
  split <;> rfl

theorem State.interruptedRise_readersOnly (s : State) (p : Port) : s.readersOnly (s.interruptedRise p) := by
  unfold State.interruptedRise
  split <;> rfl

theorem State.checkLogCondition_readersOnly (s : State) (p : Port) : s.readersOnly (s.checkLogCondition p) := by
  unfold State.checkLogCondition
  split <;> rfl

theorem State.setLogFilter_readersOnly {s t : State} {p : Port} {kinds watermark : Nat}
    (ok : s.setLogFilter p kinds watermark = .ok t) : s.readersOnly t := by
  unfold State.setLogFilter at ok
  split_ifs at ok
  cases ok
  exact State.readersOnly_trans (s.modReader_readersOnly p _) (State.checkLogCondition_readersOnly _ _)

theorem State.seekLog_readersOnly {s t : State} {p : Port} {target : Nat} (ok : s.seekLog p target = .ok t) :
    s.readersOnly t := by
  unfold State.seekLog at ok
  split at ok
  · cases ok
    exact State.readersOnly_trans (s.modReader_readersOnly p _) (State.checkLogCondition_readersOnly _ _)
  · cases ok
    exact State.readersOnly_trans (s.modReader_readersOnly p _) (State.checkLogCondition_readersOnly _ _)
  · cases ok

end Sys2Proof.Machine

/-! The rank order and the selection steps (R75 to R85): a re-evaluation leaves the selection in agreement with the entries,
whatever it was before. -/

namespace Sys2Proof.Machine

/-! ## The rank order -/

theorem Path.mem_all (p : Path) : p ∈ Path.all := by cases p <;> decide

@[simp] theorem mem_insertByDelay {key : Path → Nat} {p q : Path} {l : List Path} :
    q ∈ insertByDelay key p l ↔ q = p ∨ q ∈ l := by
  induction l with
  | nil => simp [insertByDelay]
  | cons x rest ih =>
    unfold insertByDelay
    split
    · simp
    · simp only [List.mem_cons, ih]
      tauto

@[simp] theorem mem_sortByDelay {key : Path → Nat} {q : Path} {l : List Path} : q ∈ sortByDelay key l ↔ q ∈ l := by
  induction l with
  | nil => simp [sortByDelay]
  | cons x rest ih => simpa [sortByDelay] using or_congr_right ih

theorem State.mem_rankOrder (s : State) (p : Path) : p ∈ s.rankOrder := by
  simp only [State.rankOrder, List.mem_append, mem_sortByDelay, List.mem_filter, Path.mem_all, true_and]
  cases s.eligible p <;> simp

/-- Whoever may become primary by improvement may carry traffic (R55). -/
theorem State.eligible_of_promotable {s : State} {p : Path} (h : s.promotable p = true) : s.eligible p = true := by
  unfold State.promotable PathEntry.promotable at h
  unfold State.eligible PathEntry.eligible
  split_ifs at h ⊢ <;> simp only [Bool.and_eq_true, Bool.or_eq_true] at h ⊢ <;> tauto

theorem State.eligible_of_bestEligible {s : State} {rank : List Path} {q : Path} (h : s.bestEligible rank = some q) :
    s.eligible q = true := (Option.filter_eq_some_iff.mp h).2

theorem State.promotable_of_bestPromotable {s : State} {rank : List Path} {q : Path}
    (h : s.bestPromotable rank = some q) : s.promotable q = true := by
  simpa using List.find?_some h

/-- The rank order begins with an eligible path when there is one (R75). -/
theorem State.bestEligible_rankOrder_eq_none {s : State} (h : s.bestEligible s.rankOrder = none) (p : Path) :
    s.eligible p = false := by
  by_contra eligible
  have member : p ∈ sortByDelay s.effDelay (Path.all.filter s.eligible) := by
    simpa [Path.mem_all] using eligible
  obtain ⟨q, rest, sorted⟩ := List.exists_cons_of_ne_nil (List.ne_nil_of_mem member)
  have first : s.eligible q = true := by
    have : q ∈ sortByDelay s.effDelay (Path.all.filter s.eligible) := by rw [sorted]; exact List.mem_cons_self
    simpa [Path.mem_all] using this
  simp [State.bestEligible, State.rankOrder, sorted, Option.filter, first] at h

/-! ## The selection steps -/

/-- What a choice of primary must be: eligible, NONE only when no path is eligible, and the acting pin when there is one
(R78, R79). -/
def State.ChoosesWell (s : State) (primary : Option Path) : Prop :=
  (∀ x, primary = some x → s.eligible x = true) ∧ (primary = none → ∀ p, s.eligible p = false)
    ∧ ∀ q, s.actingPin = some q → primary = some q

theorem State.eligible_of_actingPin {s : State} {q : Path} (h : s.actingPin = some q) : s.eligible q = true :=
  (Option.filter_eq_some_iff.mp h).2

theorem State.fallbackStep_some {s : State} {new : Option Path} {kind : ChangeKind} (noPin : s.actingPin = none)
    (h : s.fallbackStep s.rankOrder = some (new, kind)) : s.ChoosesWell new := by
  have best {q : Path} (hq : (s.bestPromotable s.rankOrder).or (s.bestEligible s.rankOrder) = some q) :
      s.eligible q = true := by
    rcases Option.or_eq_some_iff.mp hq with found | ⟨-, found⟩
    · exact State.eligible_of_promotable (State.promotable_of_bestPromotable found)
    · exact State.eligible_of_bestEligible found
  have none' (hn : (s.bestPromotable s.rankOrder).or (s.bestEligible s.rankOrder) = none) (p : Path) :
      s.eligible p = false := State.bestEligible_rankOrder_eq_none (Option.or_eq_none_iff.mp hn).2 p
  refine ⟨?_, ?_, fun q pin => by simp [noPin] at pin⟩
  all_goals
    unfold State.fallbackStep at h
    dsimp only at h
    split at h <;> rename_i found <;> cases h
  · rintro x ⟨⟩; exact best found
  · rintro x ⟨⟩; exact best found
  · rintro x ⟨⟩
  · rintro ⟨⟩
  · rintro ⟨⟩
  · exact fun _ => none' found

theorem State.fallbackStep_none {s : State} (noPin : s.actingPin = none)
    (h : s.fallbackStep s.rankOrder = none) :
    s.ChoosesWell s.selector.primary := by
  unfold State.fallbackStep at h
  dsimp only at h
  split at h <;> cases h
  rename_i primary found
  rw [primary]
  exact ⟨(by rintro x ⟨⟩),
    fun _ => State.bestEligible_rankOrder_eq_none (Option.or_eq_none_iff.mp found).2, fun q pin => by simp [noPin] at pin⟩

theorem State.improveStep_some {s : State} {rank : List Path} {x : Path} {new : Option Path} {kind : ChangeKind}
    (h : s.improveStep rank x = some (new, kind)) :
    kind = .improve ∧ ∃ q, new = some q ∧ rank.find? (fun q => s.promotable q && q != x) = some q
      ∧ s.effDelay q + s.selector.hysteresis < s.effDelay x := by
  unfold State.improveStep at h
  split at h
  · rename_i q found
    split_ifs at h with less
    cases h
    exact ⟨rfl, q, rfl, found, less⟩
  · cases h

/-- The selection steps choose well, and where they keep the primary it is well chosen already (R78 to R81). -/
theorem State.selectPrimary_some {s : State} {new : Option Path} {kind : ChangeKind}
    (h : s.selectPrimary s.rankOrder = some (new, kind)) : s.ChoosesWell new := by
  unfold State.selectPrimary at h
  split at h
  · rename_i q pin
    split_ifs at h
    cases h
    refine ⟨?_, (by rintro ⟨⟩), fun q' pin' => by rw [← pin', pin]⟩
    rintro x ⟨⟩
    exact State.eligible_of_actingPin pin
  · rename_i noPin
    split at h
    · obtain ⟨-, q, rfl, found, -⟩ := State.improveStep_some h
      refine ⟨?_, (by rintro ⟨⟩), fun q' pin' => by simp [noPin] at pin'⟩
      rintro x ⟨⟩
      have promotable := List.find?_some found
      rw [Bool.and_eq_true] at promotable
      exact State.eligible_of_promotable promotable.1
    · exact State.fallbackStep_some noPin h

theorem State.selectPrimary_none {s : State} (h : s.selectPrimary s.rankOrder = none) :
    s.ChoosesWell s.selector.primary := by
  unfold State.selectPrimary at h
  split at h
  · rename_i q pin
    split_ifs at h with kept
    refine ⟨?_, (by rw [kept]; rintro ⟨⟩), fun q' pin' => by rw [kept, ← pin', pin]⟩
    rw [kept]
    rintro x ⟨⟩
    exact State.eligible_of_actingPin pin
  · rename_i noPin
    split at h
    · rename_i x kept
      obtain ⟨primary, eligible⟩ := Option.filter_eq_some_iff.mp kept
      refine ⟨?_, (by rw [primary]; rintro ⟨⟩), fun q' pin' => by simp [noPin] at pin'⟩
      rw [primary]
      rintro y ⟨⟩
      exact eligible
    · exact State.fallbackStep_none noPin h

/-! ## A change of primary and a re-evaluation -/

theorem State.guardAfter_eligible {s : State} {old new : Option Path} {g : Guard} (h : s.guardAfter old new = some g) :
    s.eligible g.path = true := by
  unfold State.guardAfter at h
  cases old with
  | none => split_ifs at h
  | some x =>
    dsimp only at h
    split_ifs at h with same zero eligible
    cases h
    exact eligible

/-- A change of primary moves the primary, the guard, the sweep, the transmitters, the log and attention. -/
theorem State.changePrimary_sweepOnly (s : State) (new : Option Path) (kind : ChangeKind) :
    (s.modSelector (fun x => { x with primary := new, guard := s.guardAfter s.selector.primary new })).sweepOnly
      (s.changePrimary new kind) := by
  have noted (u : State) (b : RecordBody) : u.sweepOnly ((u.logWrite b).raiseAll .primary) :=
    (State.logOnly_trans (State.logWrite_logOnly _ _) (State.raiseAll_logOnly _ _)).sweepOnly
  unfold State.changePrimary
  cases kind
  case fallback | loss => exact State.sweepOnly_trans (noted _ _) (State.fallbackReport_sweepOnly _)
  all_goals exact noted _ _

theorem State.changePrimary_paths (s : State) (new : Option Path) (kind : ChangeKind) :
    (s.changePrimary new kind).paths = s.paths := (s.changePrimary_sweepOnly new kind).paths

theorem State.changePrimary_selector (s : State) (new : Option Path) (kind : ChangeKind) :
    (s.changePrimary new kind).selector
      = { s.selector with primary := new, guard := s.guardAfter s.selector.primary new } :=
  (s.changePrimary_sweepOnly new kind).selector

/-- The state in which a re-evaluation chooses: the rank order formed and the guard checked (R78 steps 1 and 2). -/
def State.ranked (s : State) : State :=
  s.modSelector (fun x => { x with rank := s.rankOrder, guard := x.guard.filter (fun g => s.eligible g.path) })

/-- The dispatch set formed (R78 step 5, R85). -/
def State.formDispatch (s : State) : State := s.modSelector (fun x => { x with dispatchSet := s.dispatchSetOf })

/-- A re-evaluation keeps the primary or changes it, and forms the dispatch set. -/
theorem State.reEvaluate_cases (s : State) :
    s.ranked.selectPrimary s.ranked.rankOrder = none ∧ s.reEvaluate = s.ranked.formDispatch
      ∨ ∃ new kind, s.ranked.selectPrimary s.ranked.rankOrder = some (new, kind)
        ∧ s.reEvaluate = (s.ranked.changePrimary new kind).formDispatch := by
  have unfolded : s.reEvaluate = (match s.ranked.selectPrimary s.ranked.rankOrder with
      | some (new, kind) => s.ranked.changePrimary new kind
      | none => s.ranked).formDispatch := rfl
  rw [unfolded]
  rcases choice : s.ranked.selectPrimary s.ranked.rankOrder with _ | ⟨new, kind⟩
  · exact .inl ⟨rfl, rfl⟩
  · exact .inr ⟨new, kind, rfl, rfl⟩

@[simp] theorem State.reEvaluate_paths (s : State) : s.reEvaluate.paths = s.paths := by
  rcases s.reEvaluate_cases with ⟨-, h⟩ | ⟨new, kind, -, h⟩ <;> rw [h]
  · rfl
  · exact s.ranked.changePrimary_paths new kind

@[simp] theorem State.reEvaluate_entry (s : State) (p : Path) : s.reEvaluate.entry p = s.entry p := by
  simp only [State.entry, State.reEvaluate_paths]

theorem State.formDispatch_selected {s : State} (rank : s.selector.rank = s.rankOrder)
    (primary : s.ChoosesWell s.selector.primary)
    (guard : ∀ g, s.selector.guard = some g → s.eligible g.path = true) : s.formDispatch.Selected := by
  obtain ⟨eligible, exhausted, pin⟩ := primary
  exact ⟨rank, eligible, exhausted,
    fun q pinned able => pin q (Option.filter_eq_some_iff.mpr ⟨pinned, able⟩), guard, rfl⟩

/-- After a re-evaluation the selection agrees with the entries, whatever it was before (R78). -/
theorem State.reEvaluate_selected (s : State) : s.reEvaluate.Selected := by
  rcases s.reEvaluate_cases with ⟨choice, h⟩ | ⟨new, kind, choice, h⟩ <;> rw [h]
  · exact State.formDispatch_selected rfl (State.selectPrimary_none choice)
      (fun g guarded => (Option.filter_eq_some_iff.mp guarded).2)
  · have wellChosen := State.selectPrimary_some choice
    have paths := s.ranked.changePrimary_paths new kind
    have selector := s.ranked.changePrimary_selector new kind
    generalize s.ranked.changePrimary new kind = u at paths selector
    have able : u.eligible = s.ranked.eligible := by funext q; simp only [State.eligible, State.entry, paths]
    have delays : u.effDelay = s.ranked.effDelay := by funext q; simp only [State.effDelay, State.entry, paths]
    apply State.formDispatch_selected
    · simp only [State.rankOrder, able, delays, selector]
      rfl
    · simpa only [State.ChoosesWell, State.actingPin, able, selector] using wellChosen
    · intro g guarded
      rw [able]
      rw [selector] at guarded
      exact State.guardAfter_eligible guarded

end Sys2Proof.Machine

/-! The route stays settled (O40): what changes an entry's E or eligibility ends in a re-evaluation, and everything else
leaves the entries' delays and states and the selection. -/

namespace Sys2Proof.Machine

/-! ## What the settled route depends on -/

/-- Two values of path p's entry have the same state, far state, E, and E as R72 forms it. -/
def PathEntry.sameRoute (p : Path) (e e' : PathEntry) : Prop :=
  e'.state = e.state ∧ e'.farState = e.farState ∧ e'.effDelay = e.effDelay ∧ e'.formDelay p = e.formDelay p

theorem PathEntry.formDelay_congr {p : Path} {e e' : PathEntry} (delay : e'.delay = e.delay) (score : e'.score = e.score)
    (weight : e'.lossWeight = e.lossWeight) (margin : e'.margin = e.margin) (bank : e'.bank = e.bank) :
    e'.formDelay p = e.formDelay p := by
  simp only [PathEntry.formDelay, PathEntry.rainPenalty, PathEntry.marginOf, PathEntry.lossPenalty, delay, score, weight,
    margin, bank]

/-- What stays outside the terms of E, the state and the far state. -/
theorem PathEntry.sameRoute_of {p : Path} {e e' : PathEntry} (state : e'.state = e.state) (far : e'.farState = e.farState)
    (eff : e'.effDelay = e.effDelay) (delay : e'.delay = e.delay) (score : e'.score = e.score)
    (weight : e'.lossWeight = e.lossWeight) (margin : e'.margin = e.margin) (one : e'.bankOne = e.bankOne)
    (bank0 : e'.bank0 = e.bank0) (bank1 : e'.bank1 = e.bank1) : e.sameRoute p e' :=
  ⟨state, far, eff, PathEntry.formDelay_congr delay score weight margin
    (by simp only [PathEntry.bank, one, bank0, bank1])⟩

theorem PathEntry.setBank_route (e : PathEntry) (bankOne : Bool) (b : Bank) :
    (e.setBank bankOne b).state = e.state ∧ (e.setBank bankOne b).farState = e.farState
      ∧ (e.setBank bankOne b).effDelay = e.effDelay := by
  cases bankOne <;> exact ⟨rfl, rfl, rfl⟩

/-- Thresholds stored in the bank that is not active leave E as it is formed (R49). -/
theorem PathEntry.setBank_inactive {p : Path} {e : PathEntry} {bankOne : Bool} (inactive : e.bankOne ≠ bankOne) (b : Bank) :
    e.sameRoute p (e.setBank bankOne b) := by
  have bank : (e.setBank bankOne b).bank = e.bank := by
    cases bankOne <;> cases active : e.bankOne <;> simp_all [PathEntry.setBank, PathEntry.bank]
  have fields : (e.setBank bankOne b).delay = e.delay ∧ (e.setBank bankOne b).score = e.score
      ∧ (e.setBank bankOne b).lossWeight = e.lossWeight ∧ (e.setBank bankOne b).margin = e.margin := by
    cases bankOne <;> exact ⟨rfl, rfl, rfl, rfl⟩
  obtain ⟨state, far, eff⟩ := e.setBank_route bankOne b
  obtain ⟨delay, score, weight, margin⟩ := fields
  exact ⟨state, far, eff, PathEntry.formDelay_congr delay score weight margin bank⟩

theorem PathEntry.eligible_congr {p : Path} {e e' : PathEntry} (state : e'.state = e.state) (far : e'.farState = e.farState) :
    e'.eligible p = e.eligible p := by simp only [PathEntry.eligible, state, far]

/-- The selection agrees with the entries as long as their states, far states and E stay. -/
theorem State.Selected.congr {s t : State} (h : s.Selected) (selector : t.selector = s.selector)
    (entries : ∀ p, (t.entry p).state = (s.entry p).state ∧ (t.entry p).farState = (s.entry p).farState
      ∧ (t.entry p).effDelay = (s.entry p).effDelay) : t.Selected := by
  have able : t.eligible = s.eligible := by
    funext p; exact PathEntry.eligible_congr (entries p).1 (entries p).2.1
  have delays : t.effDelay = s.effDelay := by funext p; exact (entries p).2.2
  have rank : t.rankOrder = s.rankOrder := by simp only [State.rankOrder, able, delays]
  have dispatch : t.dispatchSetOf = s.dispatchSetOf := by simp only [State.dispatchSetOf, able, selector]
  simpa only [State.Selected, able, rank, dispatch, selector] using h

theorem State.Routed.congr {s t : State} (h : s.Routed) (selector : t.selector = s.selector)
    (entries : ∀ p, (s.entry p).sameRoute p (t.entry p)) : t.Routed := by
  refine ⟨fun p => ?_, h.2.congr selector fun p => ⟨(entries p).1, (entries p).2.1, (entries p).2.2.1⟩⟩
  obtain ⟨-, -, delay, formed⟩ := entries p
  rw [delay, formed, h.1 p]

theorem State.Routed.of_paths {s t : State} (h : s.Routed) (paths : t.paths = s.paths) (selector : t.selector = s.selector) :
    t.Routed := by
  refine h.congr selector fun p => ?_
  have entry : t.entry p = s.entry p := by simp only [State.entry, paths]
  rw [entry]
  exact ⟨rfl, rfl, rfl, rfl⟩

theorem State.Routed.sweepOnly {s t : State} (h : s.Routed) (only : s.sweepOnly t) : t.Routed :=
  h.of_paths only.paths only.selector

theorem State.Routed.logOnly {s t : State} (h : s.Routed) (only : s.logOnly t) : t.Routed := h.sweepOnly only.sweepOnly

theorem State.Routed.timeOnly {s t : State} (h : s.Routed) (only : s.timeOnly t) : t.Routed :=
  h.of_paths (by rw [only.1]) (by rw [only.1])

theorem State.Routed.readersOnly {s t : State} (h : s.Routed) (only : s.readersOnly t) : t.Routed :=
  h.of_paths (by rw [only]) (by rw [only])

theorem State.Routed.mergeOnly {s t : State} {i : StreamId} (h : s.Routed) (only : State.mergeOnly i s t) : t.Routed :=
  h.of_paths (by rw [only.1]) (by rw [only.1])

/-- An update of one entry that leaves what the route depends on. -/
theorem State.Routed.modEntry {s : State} (h : s.Routed) (p : Path) (g : PathEntry → PathEntry)
    (same : (s.entry p).sameRoute p (g (s.entry p))
      := by exact PathEntry.sameRoute_of rfl rfl rfl rfl rfl rfl rfl rfl rfl rfl) : (s.modEntry p g).Routed := by
  refine h.congr rfl fun q => ?_
  rw [State.modEntry_entry]
  split
  · rename_i named
    exact named ▸ same
  · exact ⟨rfl, rfl, rfl, rfl⟩

theorem State.Routed.setLock {s : State} (h : s.Routed) (p : Path) (locked : Bool) : (s.setLock p locked).Routed :=
  h.modEntry p _

theorem State.Routed.modStats {s : State} (h : s.Routed) (p : Path) (g : Stats → Stats) : (s.modStats p g).Routed :=
  h.modEntry p _

theorem State.Routed.modTransmitter {s : State} (h : s.Routed) (p : Path) (g : Transmitter → Transmitter) :
    (s.modTransmitter p g).Routed := h.sweepOnly (s.modTransmitter_sweepOnly p g)

theorem State.Routed.modSounding {s : State} (h : s.Routed) (g : Sounding → Sounding) : (s.modSounding g).Routed :=
  h.sweepOnly (s.modSounding_sweepOnly g)

theorem State.Routed.modReceiver {s : State} (h : s.Routed) (p : Path) (g : Receiver → Receiver) :
    (s.modReceiver p g).Routed := h.of_paths rfl rfl

theorem State.Routed.modTx {s : State} (h : s.Routed) (i : StreamId) (g : TxStream → TxStream) : (s.modTx i g).Routed :=
  h.of_paths rfl rfl

theorem State.Routed.modRx {s : State} (h : s.Routed) (i : StreamId) (g : RxStream → RxStream) : (s.modRx i g).Routed :=
  h.of_paths rfl rfl

theorem State.Routed.modLocal {s : State} (h : s.Routed) (g : LocalPort → LocalPort) : (s.modLocal g).Routed :=
  h.of_paths rfl rfl

theorem State.Routed.raiseAll {s : State} (h : s.Routed) (k : AttnKind) : (s.raiseAll k).Routed :=
  h.logOnly (s.raiseAll_logOnly k)

theorem State.Routed.arbitrate {s : State} (h : s.Routed) (p : Path) : (s.arbitrate p).Routed :=
  h.sweepOnly (s.arbitrate_sweepOnly p)

/-- A fold of operations that each keep an invariant keeps it. -/
theorem foldl_keeps {α β : Type} (I : α → Prop) (f : α → β → α) (l : List β) (keep : ∀ a, ∀ b ∈ l, I a → I (f a b))
    {a : α} (h : I a) : I (l.foldl f a) := by
  induction l generalizing a with
  | nil => exact h
  | cons b rest ih => exact ih (fun a b hb => keep a b (List.mem_cons_of_mem _ hb)) (keep a b List.mem_cons_self h)

/-! ## Re-evaluations -/

theorem State.DelaysFormed.reEvaluate {s : State} (h : s.DelaysFormed) : s.reEvaluate.Routed :=
  ⟨fun p => by rw [State.reEvaluate_entry]; exact h p, s.reEvaluate_selected⟩

/-- A change of D, score, margin or thresholds of one path, followed by the recomputation of its E (R73). -/
theorem State.Routed.modEntry_recomputeDelay {s : State} (h : s.Routed) (p : Path) (g : PathEntry → PathEntry)
    (same : ∀ e, (g e).state = e.state ∧ (g e).farState = e.farState ∧ (g e).effDelay = e.effDelay
      := by exact fun _ => ⟨rfl, rfl, rfl⟩) :
    ((s.modEntry p g).recomputeDelay p).Routed := by
  have others (q : Path) (other : q ≠ p) :
      ((s.modEntry p g).entry q).effDelay = ((s.modEntry p g).entry q).formDelay q := by
    rw [State.modEntry_entry_ne _ _ _ other]
    exact h.1 q
  have selected : (s.modEntry p g).Selected := by
    refine h.2.congr rfl fun q => ?_
    rw [State.modEntry_entry]
    split
    · rename_i named
      exact named ▸ same (s.entry p)
    · exact ⟨rfl, rfl, rfl⟩
  generalize s.modEntry p g = u at others selected
  unfold State.recomputeDelay
  dsimp only
  split
  · rename_i unchanged
    refine ⟨fun q => ?_, selected⟩
    by_cases named : q = p
    · rw [named, unchanged]
    · exact others q named
  · refine State.DelaysFormed.reEvaluate fun q => ?_
    by_cases named : q = p
    · subst named
      rw [State.modEntry_entry_self]
      rfl
    · rw [State.modEntry_entry_ne _ _ _ named]
      exact others q named

theorem State.Routed.modScore {s : State} (h : s.Routed) (p : Path) (g : Nat → Nat) : (s.modScore p g).Routed :=
  h.modEntry_recomputeDelay p _

theorem State.Routed.retireReport {s : State} (h : s.Routed) (mask seen : PathSet) : (s.retireReport mask seen).Routed :=
  foldl_keeps State.Routed _ _ (fun u p _ hu => by
    unfold State.retirePath
    split
    · exact State.Routed.modScore hu p _
    · exact hu) h

theorem State.Routed.burstReport {s : State} (h : s.Routed) (p : Path) (result : BurstResult) (sample : Nat) :
    (s.burstReport p result sample).1.Routed := by
  cases result with
  | ok => exact h.modEntry_recomputeDelay p _
  | failed => exact h.modScore p _
  | aborted => exact h
  | skipped => exact h

theorem State.Routed.endBurst {s : State} (h : s.Routed) (p : Path) (result : BurstResult) : (s.endBurst p result).Routed :=
  (h.burstReport p result _).sweepOnly (s.endBurst_sweepOnly p result)

theorem State.Routed.continueBurst {s : State} (h : s.Routed) : s.continueBurst.Routed := by
  unfold State.continueBurst
  split
  · exact h
  · split_ifs
    · exact h.endBurst _ _
    · exact h.sweepOnly (s.issueProbe_sweepOnly _)
    · exact h

theorem State.Routed.resume {s : State} (h : s.Routed) : s.resume.Routed := by
  have running : (s.modSounding (fun x => { x with state := .running, reason := none, settleDeadline := none })).Routed :=
    h.modSounding _
  unfold State.resume
  dsimp only
  split
  · exact running.continueBurst
  · exact running.sweepOnly (State.pathTurn_sweepOnly _ _)

/-! ## Path states -/

theorem State.Routed.flush {s : State} (h : s.Routed) (p : Path) : (s.flush p).Routed :=
  (h.modStats p _).modTransmitter p _

theorem State.Routed.transmitterReport {s : State} (h : s.Routed) (p : Path) (new : LocalState) :
    (s.transmitterReport p new).Routed := by
  cases new with
  | disabled => exact (h.flush p).modTransmitter p _
  | failed => exact h.flush p
  | recovering | fading | active => exact h

theorem State.Routed.soundingReport {s : State} (h : s.Routed) (p : Path) (new : LocalState) :
    (s.soundingReport p new).Routed := by
  have abandoned : s.abandonProbe.Routed := h.sweepOnly s.abandonProbe_sweepOnly
  unfold State.soundingReport
  split
  · cases new with
    | disabled => exact abandoned.endBurst p _
    | failed => exact abandoned.endBurst p _
    | recovering | fading | active => exact h
  · exact h

/-- A change of local state leaves the route settled when every E was formed before it (R39). -/
theorem State.DelaysFormed.setLocalState {s : State} (h : s.DelaysFormed) (p : Path) (new : LocalState) (reason : Reason) :
    (s.setLocalState p new reason).Routed := by
  unfold State.setLocalState
  dsimp only
  refine State.Routed.soundingReport (State.Routed.transmitterReport (State.DelaysFormed.reEvaluate fun q => ?_) p new) p new
  rw [State.logOnly_entry (State.logOnly_trans (State.logWrite_logOnly _ _) (State.raiseAll_logOnly _ _)),
    State.modEntry_entry]
  split
  · rename_i named
    subst named
    exact h q
  · exact h q

theorem State.Routed.evaluateUpTo {s : State} (n : Nat) (h : s.Routed) (p : Path) : (s.evaluateUpTo n p).Routed := by
  induction n generalizing s with
  | zero => exact h
  | succ n ih =>
    unfold State.evaluateUpTo
    split
    · exact ih (State.DelaysFormed.setLocalState h.1 p _ _)
    · exact h

theorem State.Routed.evaluate {s : State} (h : s.Routed) (p : Path) : (s.evaluate p).Routed := h.evaluateUpTo 3 p

theorem State.Routed.setFar {s : State} (h : s.Routed) (p : Path) (state : Option LocalState) (quality : Option Quality) :
    (s.setFar p state quality).Routed := by
  unfold State.setFar
  dsimp only
  split
  · rename_i same
    refine h.congr rfl fun q => ?_
    rw [State.modEntry_entry]
    split
    · rename_i named
      subst named
      exact ⟨rfl, same.symm, rfl, rfl⟩
    · exact ⟨rfl, rfl, rfl, rfl⟩
  · refine State.DelaysFormed.reEvaluate fun q => ?_
    rw [State.modEntry_entry]
    split
    · rename_i named
      subst named
      exact h.1 q
    · exact h.1 q

theorem State.Routed.validFrame {s : State} (h : s.Routed) (p : Path) (arrival : Nat) (state : LocalState)
    (quality : Quality) : (s.validFrame p arrival state quality).Routed :=
  (((h.modReceiver p _).modStats p _).setFar p _ _).evaluate p

theorem State.Routed.enable {s : State} (h : s.Routed) (p : Path) : (s.enable p).Routed := by
  have failed := State.DelaysFormed.setLocalState h.1 p .failed .starting
  have windowed := failed.modEntry p (fun e =>
    { e with window := some ⟨s.time.mono, s.time.mono + msToNs e.windowLength, 0⟩ })
  exact ((windowed.modReceiver p _).modTransmitter p _).arbitrate p

theorem State.Routed.disable {s : State} (h : s.Routed) (p : Path) : (s.disable p).Routed := by
  have unknown := (State.DelaysFormed.setLocalState h.1 p .disabled .operator).setFar p none none
  exact (unknown.modReceiver p _).modEntry p _

theorem State.Routed.applyMargin {s : State} (h : s.Routed) (p : Path) (margin : Int) : (s.applyMargin p margin).Routed :=
  State.Routed.evaluate (h.modEntry_recomputeDelay p _) p

theorem State.Routed.applyMargins {s : State} (h : s.Routed) (l : List (Path × Int)) : (s.applyMargins l).Routed := by
  induction l generalizing s with
  | nil => exact h
  | cons e rest ih => exact ih (h.applyMargin e.1 e.2)

/-! ## Arriving frames -/

/-- The retiring range walked (R119): gap records and retire reports. -/
theorem State.Routed.retire (i : StreamId) (untracked : Nat) (l : List Slot) (q : Seq) (run : Nat) {s : State}
    (h : s.Routed) : (State.retire i untracked l q run s).Routed := by
  have gap (first : Seq) (count : Nat) : (s.gapRun i first count .advance).Routed :=
    h.mergeOnly (s.gapRun_mergeOnly i _ _ _)
  induction l generalizing q run s with
  | nil => exact gap _ _
  | cons slot rest ih =>
    cases slot with
    | empty => exact ih _ _ h gap
    | skipped => exact ih _ _ (gap _ _) fun _ _ => (gap _ _).mergeOnly (State.gapRun_mergeOnly _ i _ _ _)
    | done info | held info _ =>
      exact ih _ _ ((gap _ _).retireReport _ _) fun _ _ =>
        ((gap _ _).retireReport _ _).mergeOnly (State.gapRun_mergeOnly _ i _ _ _)

theorem State.Routed.firstArrival {s : State} (h : s.Routed) (i : StreamId) (d : DataArrival) : (s.firstArrival i d).Routed := by
  have counted : ((s.modRx i (fun x => { x with accepted := inc32 x.accepted })).modStats d.path
      (fun x => { x with wins := inc32 x.wins })).Routed :=
    State.Routed.modStats (h.mergeOnly (s.modRx_mergeOnly i _)) _ _
  unfold State.firstArrival
  dsimp only
  split_ifs
  · exact counted.mergeOnly (State.mergeOnly_trans (State.mergeOnly_trans (State.mergeOnly_trans
      (State.deliverArrival_mergeOnly _ i _ _ _) (State.modRx_mergeOnly _ i _)) (State.releaseWalk_mergeOnly _ i))
      (State.settleHold_mergeOnly _ i))
  · exact counted.mergeOnly (State.holdArrival_mergeOnly _ i _ _)
  · exact counted.mergeOnly (State.deliverArrival_mergeOnly _ i _ _ _)

theorem State.Routed.advance {s : State} (h : s.Routed) (i : StreamId) (d : DataArrival) : (s.advance i d).Routed := by
  have released (n : Nat) : (if (s.rxStream i).ordered then s.releaseFirst i n else s).Routed := by
    split
    · exact h.mergeOnly (s.releaseFirst_mergeOnly i n)
    · exact h
  have walked {u : State} (b : Bool) (hu : u.Routed) : (if b then u.releaseWalk i else u).Routed := by
    split
    · exact hu.mergeOnly (u.releaseWalk_mergeOnly i)
    · exact hu
  have settled {u : State} (b : Bool) (hu : u.Routed) : (if b then u.settleHold i else u).Routed := by
    split
    · exact hu.mergeOnly (u.settleHold_mergeOnly i)
    · exact hu
  exact settled _ (State.Routed.firstArrival (walked _ (State.Routed.mergeOnly (State.Routed.retire i _ _ _ _ (released _))
    (State.modRx_mergeOnly _ i _))) i d)

theorem State.Routed.duplicate {s : State} (h : s.Routed) (i : StreamId) (n : Nat) (slot : Slot) (first : Nat)
    (d : DataArrival) : (s.duplicate i n slot first d).Routed :=
  (State.Routed.modStats (h.mergeOnly (s.setSlot_mergeOnly i n _)) _ _).mergeOnly (State.modRx_mergeOnly _ i _)

theorem State.Routed.lateCopy {s : State} (h : s.Routed) (i : StreamId) (p : Path) : (s.lateCopy i p).Routed :=
  State.Routed.modStats (h.mergeOnly (s.modRx_mergeOnly i _)) _ _

theorem State.Routed.takeTracked {s : State} (h : s.Routed) (i : StreamId) (n : Nat) (d : DataArrival) :
    (s.takeTracked i n d).Routed := by
  unfold State.takeTracked
  split
  · exact h.firstArrival i d
  · exact h.duplicate i n _ _ d
  · exact h.duplicate i n _ _ d
  · exact h.lateCopy i _
  · exact h

theorem State.Routed.synchronize {s : State} (h : s.Routed) (i : StreamId) (d : DataArrival) : (s.synchronize i d).Routed :=
  State.Routed.firstArrival (h.mergeOnly (s.modRx_mergeOnly i _)) i d

theorem State.Routed.takeData {s : State} (h : s.Routed) (d : DataArrival) : (s.takeData d).Routed := by
  unfold State.takeData State.mergeCopy
  dsimp only
  split_ifs
  · exact h.mergeOnly (s.modRx_mergeOnly _ _)
  · exact h.lateCopy _ _
  · exact h.takeTracked _ _ d
  · exact State.Routed.firstArrival (h.mergeOnly (s.modRx_mergeOnly _ _)) _ d
  · exact h.advance _ d
  · exact State.Routed.synchronize (h.mergeOnly (s.resync_mergeOnly _ _ _)) _ d
  · exact h.synchronize _ d

theorem State.Routed.takeEcho {s : State} (h : s.Routed) (p : Path) (tag : Byte) (index residence t4 : Nat) :
    (s.takeEcho p tag index residence t4).Routed := by
  have judged (g : Sounding → Sounding) (f : Stats → Stats) : ((s.modSounding g).modStats p f).continueBurst.Routed :=
    ((h.modSounding g).modStats p f).continueBurst
  unfold State.takeEcho State.judgeEcho
  dsimp only
  split
  · split_ifs
    · exact judged _ _
    · exact judged _ _
    · exact h.modSounding _
  · exact h.modSounding _

theorem State.Routed.passOnward {s : State} (h : s.Routed) (p : Path) (t : Stamp) (f : PathFrame) :
    (s.passOnward p t f).Routed := by
  unfold State.passOnward
  split
  · exact h.takeData _
  · exact h
  · exact h.sweepOnly (s.echoService_sweepOnly p _ _ _)
  · exact h.takeEcho p _ _ _ _

theorem State.Routed.judgeFrame {s : State} (h : s.Routed) (p : Path) (t : Stamp) (f : PathFrame) :
    (s.judgeFrame p t f).Routed := by
  unfold State.judgeFrame State.crossedFrame
  split_ifs
  · exact h.modStats p _
  · exact h.modStats p _
  · exact (h.validFrame p _ _ _).passOnward p t f
  · exact h.modStats p _

theorem State.Routed.checkError {s : State} (h : s.Routed) (p : Path) : (s.checkError p).Routed := by
  unfold State.checkError
  dsimp only
  split
  · exact h.modStats p _
  · exact State.Routed.evaluate ((h.modStats p _).modEntry p _) p

theorem State.Routed.pathFrameEnd {s : State} (h : s.Routed) (p : Path) (bytes : List Byte) :
    (s.pathFrameEnd p bytes).Routed := by
  have ended : (s.modReceiver p (fun r => { r with arriving := none })).Routed := h.modReceiver p _
  unfold State.pathFrameEnd
  split
  · exact h
  · dsimp only
    split
    · exact ended
    · split
      · exact ended.checkError p
      · exact ended.judgeFrame p _ _

/-! ## Local frames and transmissions -/

theorem State.Routed.dispatch {s : State} (h : s.Routed) (i : StreamId) (origin : Tod) (mask : PathSet)
    (payload : List Byte) : (s.dispatch i origin mask payload).Routed := by
  refine foldl_keeps State.Routed _ _ (fun u p _ hu => ?_) (foldl_keeps State.Routed _ _ (fun u p _ hu => ?_) (h.modTx i _))
  · split
    · exact State.Routed.arbitrate hu p
    · exact hu
  · unfold State.placeCopy
    split
    · exact State.Routed.modTransmitter hu p _
    · exact hu

theorem State.Routed.intake {s : State} (h : s.Routed) (i : StreamId) (origin : Tod) (payload : List Byte) :
    (s.intake i origin payload).Routed := by
  have dropped : (Path.all.foldl (State.countTxDrop s.selector.dispatchSet) s).Routed :=
    foldl_keeps State.Routed _ _ (fun u p _ hu => by
      unfold State.countTxDrop
      split
      · exact State.Routed.modStats hu p _
      · exact hu) h
  unfold State.intake
  dsimp only
  split_ifs
  · exact h.modTx i _
  · exact (h.modTx i _).raiseAll _
  · exact (dropped.modTx i _).raiseAll _
  · exact dropped.dispatch i origin _ payload

theorem State.Routed.localFrameIntake {s : State} (h : s.Routed) (bytes : List Byte) : (s.localFrameIntake bytes).Routed := by
  have ended : (s.modLocal (fun l => { l with arriving := none })).Routed := h.modLocal _
  unfold State.localFrameIntake
  split
  · exact h
  · dsimp only
    split
    · exact ended
    · split
      · exact ended.modLocal _
      · exact ended.intake _ _ _

theorem State.Routed.frameTransmitEnd {s : State} (h : s.Routed) (p : Path) : (s.frameTransmitEnd p).Routed := by
  unfold State.frameTransmitEnd
  split
  · exact h
  · rename_i x _
    have counted : (if x.uncounted then s else s.modStats p (fun st => st.sent x.frame.body)).Routed := by
      split
      · exact h
      · exact h.modStats p _
    exact (counted.modTransmitter p _).arbitrate p

/-! ## The reset values -/

theorem State.resetSelection_selected {s : State} (selector : s.selector = Selector.reset)
    (disabled : ∀ p, (s.entry p).state = .disabled) : s.Selected := by
  have unable : s.eligible = fun _ => false := by
    funext p
    simp [State.eligible, PathEntry.eligible, disabled]
  refine ⟨?_, ?_, fun _ p => by rw [unable], ?_, ?_, ?_⟩
  · rw [selector, State.rankOrder, unable]; rfl
  all_goals simp [selector, Selector.reset, State.dispatchSetOf]

theorem State.resetRoute_routed {s : State} (selector : s.selector = Selector.reset) {endOfReset : Nat}
    (entries : s.paths = Vector.replicate 5 (PathEntry.reset endOfReset)) : s.Routed := by
  have entry (p : Path) : s.entry p = PathEntry.reset endOfReset := by simp [State.entry, entries]
  refine ⟨fun p => ?_, State.resetSelection_selected selector fun p => by rw [entry]; rfl⟩
  rw [entry]
  rfl

theorem State.resetLog_logOnly (s : State) : s.logOnly s.resetLog :=
  State.logOnly_trans (s.modLog_logOnly _) (State.logWrite_logOnly _ _)

theorem State.softReset_routed (s : State) : s.softReset.Routed := by
  unfold State.softReset
  refine State.Routed.logOnly ?_ (State.resetLog_logOnly _)
  exact State.resetRoute_routed (endOfReset := s.mono + softResetPeriod) rfl rfl

theorem State.pinReset_routed (s : State) (site : BitVec 4) (role0 role1 role2 : BitVec 2) :
    (s.pinReset site role0 role1 role2).Routed := State.resetRoute_routed (endOfReset := 0) rfl rfl

/-! ## Every input -/

theorem State.Routed.occurs {s t : State} (h : s.Routed) (run : s.Occurs t) : t.Routed := by
  cases run with
  | nothing => exact h
  | softResetPeriodEnd =>
    unfold State.softResetPeriodEnd
    split
    · exact h.of_paths rfl rfl
    · exact h
  | pathFrameStart p => exact h.modReceiver p _
  | pathFrameEnd p bytes => exact h.pathFrameEnd p bytes
  | silenceExpiry p =>
    unfold State.silenceExpiry
    split
    · exact ((h.modReceiver p _).setFar p _ _).evaluate p
    · exact h
  | windowEnd p =>
    unfold State.windowEnd
    split
    · exact State.Routed.evaluate (h.modEntry p _) p
    · exact h
  | recoverHoldExpiry p =>
    unfold State.recoverHoldExpiry
    split
    · exact h.evaluate p
    · exact h
  | reportExpiry p =>
    unfold State.reportExpiry
    split
    · exact State.Routed.raiseAll (h.modEntry p _) _
    · exact h
  | scoreDecay p =>
    unfold State.scoreDecay
    split
    · exact State.Routed.modScore (h.modEntry p _) p _
    · exact h
  | guardExpiry =>
    unfold State.guardExpiry
    split
    · exact State.DelaysFormed.reEvaluate fun p => h.1 p
    · exact h
  | frameTransmitEnd p => exact h.frameTransmitEnd p
  | beaconWaitEnd p => exact h.sweepOnly (s.beaconWaitEnd_sweepOnly p)
  | localFrameStart => exact h.modLocal _
  | localFrameIntake bytes => exact h.localFrameIntake bytes
  | localTransmitEnd =>
    unfold State.localTransmitEnd
    split
    · exact h.modLocal _
    · exact h
  | holdExpiry i => exact h.mergeOnly (s.expireAll_mergeOnly i)
  | probeIssue =>
    unfold State.probeIssue
    split
    · exact h.continueBurst
    · exact h
  | probeTimeout =>
    unfold State.probeTimeout
    split
    · split
      · exact (State.Routed.modStats (h.modSounding _) _ _).continueBurst
      · exact h
    · exact h
  | settleDeadline =>
    unfold State.settleDeadline
    split
    · exact h.resume
    · exact h
  | refPulse r dir => exact h.timeOnly (s.refPulse_timeOnly r dir)
  | refTimeout r => exact h.timeOnly (s.refTimeout_timeOnly r)
  | markEdge m dir => exact h.timeOnly (s.markEdge_timeOnly m dir)
  | markerMatch o => exact h.timeOnly (s.markerMatch_timeOnly o)
  | markerPulseEnd o => exact h.timeOnly (s.markerPulseEnd_timeOnly o)
  | logHeadDone port => exact h.readersOnly (s.logHeadDone_readersOnly port)
  | logImageDone port => exact h.readersOnly (s.logImageDone_readersOnly port)
  | emptyImageDone port => exact h.readersOnly (s.emptyImageDone_readersOnly port)
  | attentionDone port => exact h.of_paths rfl rfl
  | interruptedRise port => exact h.readersOnly (s.interruptedRise_readersOnly port)

theorem State.Routed.happens {s t : State} (h : s.Routed) (run : s.Happens t) : t.Routed := by
  cases run with
  | pinReset site r0 r1 r2 => exact s.pinReset_routed site r0 r1 r2
  | occurs run => exact h.occurs run

theorem State.Routed.takes {s t : State} {role : Role} {port : Port} (h : s.Routed) (run : s.Takes role port t) :
    t.Routed := by
  cases run with
  | nothing => exact h
  | softReset _ => exact s.softReset_routed
  | attentionMask mask => exact h.of_paths rfl rfl
  | enablePath _ _ ok =>
    unfold State.enablePath at ok
    split at ok
    · cases ok
    · split_ifs at ok <;> cases ok
      · exact h.enable _
      · exact h
  | disablePath _ _ ok =>
    unfold State.disablePath at ok
    split at ok
    · cases ok
    · split_ifs at ok <;> cases ok
      · exact h
      · exact h.disable _
  | setPathTimers _ _ ok =>
    unfold State.setPathTimers at ok
    split at ok
    · cases ok
    · split_ifs at ok
      cases ok
      exact State.Routed.evaluate (h.modEntry _ _) _
  | setThresholds _ _ ok =>
    unfold State.setThresholds at ok
    split at ok
    · rename_i p bankOne _ _
      split_ifs at ok with ordered active <;> cases ok
      · refine State.Routed.evaluate (h.modEntry_recomputeDelay p _ fun e => ?_) p
        exact PathEntry.setBank_route e bankOne _
      · exact h.modEntry p _ (PathEntry.setBank_inactive active _)
    · cases ok
  | selectBank _ _ ok =>
    unfold State.selectBank at ok
    split at ok
    · split_ifs at ok <;> cases ok
      · exact h
      · exact State.Routed.evaluate (h.modEntry_recomputeDelay _ _) _
    · cases ok
  | setBaseDelay _ _ ok =>
    unfold State.setBaseDelay at ok
    split at ok
    · cases ok
    · split_ifs at ok
      cases ok
      exact h.modEntry_recomputeDelay _ _
  | setSmoothing _ _ ok =>
    unfold State.setSmoothing at ok
    split at ok
    · cases ok
    · split_ifs at ok
      cases ok
      exact h.modEntry_recomputeDelay _ _
  | postMargin _ _ ok =>
    unfold State.postMargin at ok
    split at ok <;> cases ok
    exact h.applyMargins _
  | lockPath _ ok =>
    unfold State.lockPath at ok
    split at ok <;> cases ok
    exact h.setLock _ _
  | lockAll _ => exact foldl_keeps State.Routed _ _ (fun u p _ hu => State.Routed.setLock hu p _) h
  | clearPathStats _ ok =>
    unfold State.clearPathStats at ok
    split_ifs at ok
    · cases ok
      exact foldl_keeps State.Routed _ _ (fun u p _ hu => State.Routed.modStats hu p _) h
    · split at ok <;> cases ok
      exact h.modStats _ _
  | setPeerSite _ ok =>
    unfold State.setPeerSite at ok
    split_ifs at ok <;> cases ok <;> exact h.of_paths rfl rfl
  | setSelection _ _ ok =>
    unfold State.setSelection at ok
    split at ok
    · cases ok
    · split_ifs at ok
      cases ok
      exact State.DelaysFormed.reEvaluate fun p => h.1 p
  | pinPrimary _ ok =>
    unfold State.pinPrimary at ok
    split at ok <;> cases ok
    exact State.DelaysFormed.reEvaluate fun p => h.1 p
  | unpinPrimary _ =>
    unfold State.unpinPrimary
    split
    · exact State.DelaysFormed.reEvaluate fun p => h.1 p
    · exact h
  | setStream _ _ ok =>
    unfold State.setStream at ok
    split at ok
    · cases ok
    · split_ifs at ok <;> cases ok
      · exact (State.Routed.modRx (h.mergeOnly (s.resync_mergeOnly _ _ _)) _ _).modTx _ _
      · exact (h.modRx _ _).modTx _ _
  | resyncStream _ ok =>
    unfold State.resyncStream at ok
    split at ok <;> cases ok
    exact h.mergeOnly (s.resync_mergeOnly _ _ _)
  | setTxSequence _ ok =>
    unfold State.setTxSequence at ok
    split at ok <;> cases ok
    exact h.modTx _ _
  | setTime _ ok => exact h.timeOnly (State.setTime_timeOnly ok)
  | stepTime _ ok => exact h.timeOnly (State.stepTime_timeOnly ok)
  | setFrequency _ ok => exact h.timeOnly (State.setFrequency_timeOnly ok)
  | setDiscipline _ _ ok => exact h.timeOnly (State.setDiscipline_timeOnly ok)
  | setCapture ok => exact h.timeOnly (State.setCapture_timeOnly ok)
  | readCapture _ _ => exact h.of_paths rfl rfl
  | setMarker _ ok => exact h.timeOnly (State.setMarker_timeOnly ok)
  | startSweep _ _ ok => exact h.sweepOnly (State.startSweep_sweepOnly ok)
  | suspendSweep _ => exact h.sweepOnly s.suspendSweep_sweepOnly
  | resumeSweep _ =>
    unfold State.resumeSweep
    split
    · exact h.resume
    · exact h
  | cancelSweep _ => exact h.sweepOnly s.cancelSweep_sweepOnly
  | setLogFilter _ ok => exact h.readersOnly (State.setLogFilter_readersOnly ok)
  | seekLog ok => exact h.readersOnly (State.seekLog_readersOnly ok)
  | setLink _ ok =>
    unfold State.setLink at ok
    split_ifs at ok
    cases ok
    have stored : State.Routed { s with beaconInterval := _ } := h.of_paths rfl rfl
    exact foldl_keeps State.Routed _ _ (fun u p _ hu => State.Routed.sweepOnly hu (u.beaconWaitEnd_sweepOnly p)) stored

/-- Settles O40: a tick, every row and every command keep the route settled. -/
theorem routeStaysSettled : Obligations.RouteStaysSettled := by
  have kept : State.Kept State.Routed :=
    { pending := fun _ _ h => h
      advance := fun _ h => h.of_paths rfl rfl
      happens := fun _ _ run h => h.happens run
      takes := fun _ _ _ _ run h => h.takes run
      port := fun _ _ _ _ h => h.of_paths rfl rfl }
  exact fun _ _ routed run => kept.step routed run

end Sys2Proof.Machine

/-! The window of a stream (7.1 to 7.6): what delivering, releasing, holding and skipping leave of the slots, and when an
ORDERED stream is divided at its release point. -/

namespace Sys2Proof.Machine

/-! ## A stream without its counts -/

/-- A stream's settings, window and slots, its seven counts set aside. -/
def RxStream.shape (x : RxStream) : RxStream :=
  { x with accepted := 0, duplicates := 0, late := 0, gaps := 0, resyncs := 0, rejected := 0, overflow := 0 }

theorem RxStream.windowed_shape {x : RxStream} : x.shape.Windowed ↔ x.Windowed := Iff.rfl

theorem RxStream.Windowed.of_shape {x y : RxStream} (h : x.Windowed) (same : y.shape = x.shape) : y.Windowed := by
  rw [← RxStream.windowed_shape, same]
  exact h

theorem State.logOnly.rxStream {s t : State} (h : s.logOnly t) (i : StreamId) : t.rxStream i = s.rxStream i := by
  rw [h.1]; rfl

theorem State.routed.rxStream {s t : State} (h : s.routed t) (i : StreamId) : t.rxStream i = s.rxStream i := by
  obtain ⟨-, -, -, -, streams, -⟩ := (State.routeOnly_iff s t).1 h.1
  simp only [State.rxStream, streams]

theorem State.logWrite_rxStream (s : State) (b : RecordBody) (i : StreamId) : (s.logWrite b).rxStream i = s.rxStream i :=
  (s.logWrite_logOnly b).rxStream i

theorem State.raiseAll_rxStream (s : State) (k : AttnKind) (i : StreamId) : (s.raiseAll k).rxStream i = s.rxStream i := rfl

/-- A count of the stream moved. -/
theorem State.modRx_shape (s : State) (i : StreamId) {g : RxStream → RxStream} (same : ∀ x, (g x).shape = x.shape) :
    ((s.modRx i g).rxStream i).shape = (s.rxStream i).shape := by
  rw [State.modRx_rxStream_self]
  exact same _

/-- An update of the stream that does not look at its counts. -/
theorem State.modRx_shape_eq (s : State) (i : StreamId) {g : RxStream → RxStream} (blind : ∀ x, (g x).shape = g x.shape) :
    ((s.modRx i g).rxStream i).shape = g (s.rxStream i).shape := by
  rw [State.modRx_rxStream_self]
  exact blind _

theorem State.deliver_shape (s : State) (i : StreamId) (d : Delivery) :
    ((s.deliver i d).rxStream i).shape = (s.rxStream i).shape := by
  have queued : ((s.queueDelivery i d.frame).rxStream i).shape = (s.rxStream i).shape := by
    unfold State.queueDelivery
    split
    · rw [State.raiseAll_rxStream]
      exact s.modRx_shape i (by exact fun _ => rfl)
    · rfl
  unfold State.deliver
  dsimp only
  split
  · rw [State.logWrite_rxStream, queued]
  · exact queued

theorem State.gapRun_shape (s : State) (i : StreamId) (first : Seq) (count : Nat) (cause : GapCause) :
    ((s.gapRun i first count cause).rxStream i).shape = (s.rxStream i).shape := by
  unfold State.gapRun
  split
  · rfl
  · rw [State.modRx_shape _ i (by exact fun _ => rfl), State.logWrite_rxStream]

/-! ## Releasing slots -/

/-- A stream with the slot at a place released: DONE if it was HELD. -/
def RxStream.releasedAt (n : Nat) (x : RxStream) : RxStream := { x with slots := x.slots.modify n Slot.delivered }

theorem Slot.delivered_of_not_held {y : Slot} (h : y.isHeld = false) : y.delivered = y := by
  cases y with
  | held info f => cases h
  | empty | done info | skipped => rfl

theorem List.modify_eq_self {α : Type} {l : List α} {n : Nat} {f : α → α} (h : ∀ y, l[n]? = some y → f y = y) :
    l.modify n f = l := by
  apply List.ext_getElem?
  intro k
  rw [List.getElem?_modify]
  split
  · rename_i same
    subst same
    cases found : l[n]? with
    | none => rfl
    | some y => simp [h y found]
  · simp

theorem List.set_eq_modify {α : Type} {l : List α} {n : Nat} {x : α} {f : α → α} (h : ∀ y, l[n]? = some y → f y = x) :
    l.set n x = l.modify n f := by
  apply List.ext_getElem?
  intro k
  rw [List.getElem?_modify, List.getElem?_set]
  split
  · rename_i same
    subst same
    cases found : l[n]? with
    | none => simp [List.getElem?_eq_none_iff.mp found]
    | some y => simp [h y found, (List.getElem?_eq_some_iff.mp found).1]
  · simp

theorem State.releaseSlot_shape (s : State) (i : StreamId) (n : Nat) :
    ((s.releaseSlot i n).rxStream i).shape = ((s.rxStream i).releasedAt n).shape := by
  unfold State.releaseSlot
  split
  · rename_i info f found
    rw [State.deliver_shape, State.setSlot, State.modRx_rxStream_self]
    have same : (s.rxStream i).slots.set n (.done info) = (s.rxStream i).slots.modify n Slot.delivered :=
      List.set_eq_modify fun y hy => by rw [found] at hy; cases hy; rfl
    simp only [RxStream.releasedAt, same]
  · rename_i other
    have same : (s.rxStream i).slots.modify n Slot.delivered = (s.rxStream i).slots :=
      List.modify_eq_self fun y hy => Slot.delivered_of_not_held (by
        cases y with
        | held info f => exact absurd hy (other info f)
        | empty | done | skipped => rfl)
    simp only [RxStream.releasedAt, same]

theorem List.modify_map_take_append_drop {α : Type} (f : α → α) (l : List α) (k : Nat) :
    ((l.take k).map f ++ l.drop k).modify k f = (l.take (k + 1)).map f ++ l.drop (k + 1) := by
  induction l generalizing k with
  | nil => simp
  | cons a rest ih =>
    cases k with
    | zero => simp
    | succ k => simpa using ih k

/-- The slots up to a place released (R119 step 1, R122 step 1). -/
theorem State.foldl_releaseSlot_shape (s : State) (i : StreamId) (n : Nat) :
    (((List.range n).foldl (fun s k => s.releaseSlot i k) s).rxStream i).shape
      = { (s.rxStream i).shape with
          slots := ((s.rxStream i).slots.take n).map Slot.delivered ++ (s.rxStream i).slots.drop n } := by
  induction n with
  | zero => rfl
  | succ k ih =>
    rw [List.range_succ, List.foldl_append, List.foldl_cons, List.foldl_nil, State.releaseSlot_shape]
    generalize (List.range k).foldl (fun s k => s.releaseSlot i k) s = u at ih
    have slots : (u.rxStream i).slots = ((s.rxStream i).slots.take k).map Slot.delivered ++ (s.rxStream i).slots.drop k :=
      congrArg RxStream.slots ih
    have shape : ((u.rxStream i).releasedAt k).shape
        = { (u.rxStream i).shape with slots := (u.rxStream i).slots.modify k Slot.delivered } := rfl
    rw [shape, ih, slots, List.modify_map_take_append_drop]

theorem State.releaseFirst_shape (s : State) (i : StreamId) (n : Nat) :
    ((s.releaseFirst i n).rxStream i).shape
      = { (s.rxStream i).shape with
          slots := ((s.rxStream i).slots.take n).map Slot.delivered ++ (s.rxStream i).slots.drop n } := by
  unfold State.releaseFirst
  rw [State.foldl_releaseSlot_shape]
  rcases Nat.le_total n (s.rxStream i).slots.length with le | le
  · rw [Nat.min_eq_left le]
  · rw [Nat.min_eq_right le]
    simp [List.take_of_length_le le, List.drop_of_length_le le]

/-! ## The release walk -/

/-- The HELD slots from the release point on, up to the first that is not HELD (R114). -/
def RxStream.heldRun (x : RxStream) : List Slot := (x.slots.drop (x.distance x.release)).takeWhile Slot.isHeld

/-- A stream after the release walk: the run of HELD slots at the release point is DONE and passed (R114). -/
def RxStream.walked (x : RxStream) : RxStream :=
  { x with
    slots := x.slots.take (x.distance x.release) ++ x.heldRun.map Slot.delivered
      ++ (x.slots.drop (x.distance x.release)).dropWhile Slot.isHeld
    release := x.release + BitVec.ofNat 32 x.heldRun.length }

theorem RxStream.distance_add {x : RxStream} {q : Seq} {k : Nat} (small : x.distance q + k < 4294967296) :
    x.distance (q + BitVec.ofNat 32 k) = x.distance q + k := by
  unfold RxStream.distance at *
  have swap : q + BitVec.ofNat 32 k - x.base = (q - x.base) + BitVec.ofNat 32 k := by ring
  rw [swap, BitVec.toNat_add, BitVec.toNat_ofNat]
  omega

theorem RxStream.distance_base_add {x : RxStream} {k : Nat} (small : k < 4294967296) :
    x.distance (x.base + BitVec.ofNat 32 k) = k := by
  have zero : x.distance x.base = 0 := by simp [RxStream.distance]
  rw [RxStream.distance_add (by omega), zero, Nat.zero_add]

theorem RxStream.base_add_distance (x : RxStream) (q : Seq) : x.base + BitVec.ofNat 32 (x.distance q) = q := by
  rw [RxStream.distance, BitVec.ofNat_toNat, BitVec.setWidth_eq, add_sub_cancel]

theorem RxStream.distance_inj {x : RxStream} {p q : Seq} (same : x.distance p = x.distance q) : p = q := by
  rw [← x.base_add_distance p, same, x.base_add_distance]

theorem Slot.isHeld_iff {y : Slot} : y.isHeld = true ↔ ∃ info f, y = .held info f := by
  cases y <;> simp [Slot.isHeld]

/-- A slot that is not HELD at the release point ends the walk. -/
theorem RxStream.walked_of_not_held {x : RxStream}
    (stop : ∀ y, x.slots[x.distance x.release]? = some y → y.isHeld = false) : x.walked = x := by
  have run : x.heldRun = [] ∧ (x.slots.drop (x.distance x.release)).dropWhile Slot.isHeld
      = x.slots.drop (x.distance x.release) := by
    unfold RxStream.heldRun
    cases found : x.slots.drop (x.distance x.release) with
    | nil => exact ⟨rfl, rfl⟩
    | cons y rest =>
      have at_release : x.slots[x.distance x.release]? = some y := by
        rw [← List.head?_drop, found, List.head?_cons]
      simp [stop y at_release]
  simp [RxStream.walked, run.1, run.2]

theorem List.take_succ_modify {α : Type} {l : List α} {n : Nat} {y : α} (f : α → α) (found : l[n]? = some y) :
    (l.modify n f).take (n + 1) = l.take n ++ [f y] := by
  rw [List.take_add_one, List.getElem?_modify_eq, found, List.take_modify]
  simp [List.modify_eq_self (l := l.take n)]

theorem List.drop_succ_modify {α : Type} (l : List α) (n : Nat) (f : α → α) :
    (l.modify n f).drop (n + 1) = l.drop (n + 1) := by
  apply List.ext_getElem?
  intro k
  rw [List.getElem?_drop, List.getElem?_drop, List.getElem?_modify_ne]
  omega

/-- A stream whose HELD slot at the release point is released and passed. -/
def RxStream.passed (x : RxStream) : RxStream := { x.releasedAt (x.distance x.release) with release := x.release + 1 }

theorem RxStream.heldRun_of_held {x : RxStream} {y : Slot} (small : x.slots.length < 4294967296)
    (found : x.slots[x.distance x.release]? = some y) (held : y.isHeld = true) : x.heldRun = y :: x.passed.heldRun := by
  obtain ⟨inside, slot⟩ := List.getElem?_eq_some_iff.mp found
  have rest : x.slots.drop (x.distance x.release) = y :: x.slots.drop (x.distance x.release + 1) := by
    rw [List.drop_eq_getElem_cons inside, slot]
  have moved : x.passed.distance x.passed.release = x.distance x.release + 1 :=
    RxStream.distance_add (x := x) (k := 1) (by omega)
  have after : x.passed.slots.drop (x.distance x.release + 1) = x.slots.drop (x.distance x.release + 1) :=
    List.drop_succ_modify _ _ _
  simp [RxStream.heldRun, moved, after, rest, held]

/-- A HELD slot at the release point is released and passed, and the walk goes on. -/
theorem RxStream.walked_of_held {x : RxStream} {y : Slot} (small : x.slots.length < 4294967296)
    (found : x.slots[x.distance x.release]? = some y) (held : y.isHeld = true) : x.walked = x.passed.walked := by
  obtain ⟨inside, slot⟩ := List.getElem?_eq_some_iff.mp found
  have rest : x.slots.drop (x.distance x.release) = y :: x.slots.drop (x.distance x.release + 1) := by
    rw [List.drop_eq_getElem_cons inside, slot]
  have moved : x.passed.distance x.passed.release = x.distance x.release + 1 :=
    RxStream.distance_add (x := x) (k := 1) (by omega)
  have before : x.passed.slots.take (x.distance x.release + 1) = x.slots.take (x.distance x.release) ++ [y.delivered] :=
    List.take_succ_modify _ found
  have after : x.passed.slots.drop (x.distance x.release + 1) = x.slots.drop (x.distance x.release + 1) :=
    List.drop_succ_modify _ _ _
  have run := RxStream.heldRun_of_held small found held
  have release : x.release + BitVec.ofNat 32 x.heldRun.length
      = x.passed.release + BitVec.ofNat 32 x.passed.heldRun.length := by
    rw [run, List.length_cons, Nat.add_comm, BitVec.ofNat_add, ← add_assoc]
    rfl
  unfold RxStream.walked
  rw [release, moved, before, after, rest, run]
  simp [held, RxStream.passed, RxStream.releasedAt]

theorem RxStream.walked_shape (x : RxStream) : x.walked.shape = x.shape.walked := rfl

theorem RxStream.slots_of_shape {x y : RxStream} (same : y.shape = x.shape) : y.slots = x.slots := by
  rw [show y.slots = y.shape.slots from rfl, same]
  rfl

theorem RxStream.heldRun_of_shape {x y : RxStream} (same : y.shape = x.shape) : y.heldRun = x.heldRun := by
  rw [show y.heldRun = y.shape.heldRun from rfl, same]
  rfl

/-- One step of the walk: the HELD slot at the release point delivered and passed (R114). -/
def State.walkStep (s : State) (i : StreamId) : State :=
  (s.releaseSlot i ((s.rxStream i).distance (s.rxStream i).release)).modRx i (fun x => { x with release := x.release + 1 })

theorem State.walkStep_shape (s : State) (i : StreamId) : ((s.walkStep i).rxStream i).shape = (s.rxStream i).passed.shape := by
  rw [State.walkStep, State.modRx_shape_eq _ i (by exact fun _ => rfl), State.releaseSlot_shape]
  rfl

theorem State.walk_of_held {fuel : Nat} {s : State} {i : StreamId} {y : Slot}
    (found : (s.rxStream i).slots[(s.rxStream i).distance (s.rxStream i).release]? = some y) (held : y.isHeld = true) :
    State.walk (fuel + 1) s i = State.walk fuel (s.walkStep i) i := by
  obtain ⟨info, f, rfl⟩ := Slot.isHeld_iff.mp held
  rw [State.walk, found]
  rfl

theorem State.walk_of_not_held {fuel : Nat} {s : State} {i : StreamId}
    (stop : ∀ y, (s.rxStream i).slots[(s.rxStream i).distance (s.rxStream i).release]? = some y → y.isHeld = false) :
    State.walk fuel s i = s := by
  cases fuel with
  | zero => rfl
  | succ fuel =>
    unfold State.walk
    dsimp only
    split
    · rename_i found
      cases stop _ found
    · rfl

/-- The walk of R114 does what the run of HELD slots at the release point says, given fuel for it. -/
theorem State.walk_shape {fuel : Nat} {s : State} {i : StreamId} (small : (s.rxStream i).slots.length < 4294967296)
    (enough : (s.rxStream i).heldRun.length < fuel) :
    ((State.walk fuel s i).rxStream i).shape = (s.rxStream i).walked.shape := by
  induction fuel generalizing s with
  | zero => exact absurd enough (Nat.not_lt_zero _)
  | succ fuel ih =>
    by_cases held : ∃ y, (s.rxStream i).slots[(s.rxStream i).distance (s.rxStream i).release]? = some y ∧ y.isHeld = true
    · obtain ⟨y, found, held⟩ := held
      have stepped := s.walkStep_shape i
      have run := RxStream.heldRun_of_held small found held
      rw [State.walk_of_held found held, RxStream.walked_of_held small found held, ih]
      · rw [RxStream.walked_shape, stepped, RxStream.walked_shape]
      · rw [RxStream.slots_of_shape stepped]
        simpa [RxStream.passed, RxStream.releasedAt] using small
      · rw [RxStream.heldRun_of_shape stepped]
        rw [run, List.length_cons] at enough
        omega
    · have stop : ∀ y, (s.rxStream i).slots[(s.rxStream i).distance (s.rxStream i).release]? = some y → y.isHeld = false :=
        fun y found => by simpa using fun h => held ⟨y, found, h⟩
      rw [State.walk_of_not_held stop, RxStream.walked_of_not_held stop]

theorem RxStream.heldRun_length_le (x : RxStream) : x.heldRun.length ≤ x.slots.length :=
  (List.takeWhile_prefix _).length_le.trans (by rw [List.length_drop]; omega)

theorem State.releaseWalk_shape {s : State} {i : StreamId} (small : (s.rxStream i).slots.length < 4294967296) :
    ((s.releaseWalk i).rxStream i).shape = (s.rxStream i).walked.shape :=
  State.walk_shape small (Nat.lt_succ_of_le (RxStream.heldRun_length_le _))

end Sys2Proof.Machine

/-! Every step keeps every stream's window in order (O58). An ORDERED stream passes through states whose hold deadline is not
yet formed anew or whose release point stands at a HELD slot; each operation is shown on the weakest of these it meets. -/

namespace Sys2Proof.Machine

/-! ## The parts of a window in order -/

/-- The settings are in their ranges and the slots are the sequences from base to front, at most W of them (R106, R107). -/
structure RxStream.Tracking (x : RxStream) : Prop where
  windowCode : x.windowCode ≤ 4
  resyncCode : x.resyncCode ≤ 12
  synced : x.synced = true
  tracked : x.slots.length = x.distance x.front
  fits : x.slots.length ≤ x.window

/-- Slots before place r are DONE or SKIPPED, the others EMPTY or HELD (R114). -/
structure DividedAt (r : Nat) (slots : List Slot) : Prop where
  inside : r ≤ slots.length
  settled : ∀ k y, slots[k]? = some y → k < r → y.settled = true
  waiting : ∀ k y, slots[k]? = some y → r ≤ k → y.waiting = true

/-- An ORDERED stream that tracks its window and is divided at its release point. -/
structure RxStream.Divided (x : RxStream) : Prop where
  ordered : x.ordered = true
  tracking : x.Tracking
  divided : DividedAt (x.distance x.release) x.slots

/-- The release walk has come to its end: the slot of the release point is not HELD (R114). -/
structure RxStream.Resting (x : RxStream) : Prop extends x.Divided where
  stopped : ∀ y, x.slots[x.distance x.release]? = some y → y.isHeld = false

/-- An ORDERED stream in order: a hold deadline exists exactly while a slot is HELD (R114, R115). -/
structure RxStream.Ready (x : RxStream) : Prop extends x.Resting where
  deadline : x.holdDeadline = none ↔ ∀ y ∈ x.slots, y.isHeld = false

/-- An IMMEDIATE stream in order: nothing HELD and no deadline (R115). -/
structure RxStream.Immediate (x : RxStream) : Prop where
  immediate : x.ordered = false
  tracking : x.Tracking
  deadline : x.holdDeadline = none
  delivered : ∀ y ∈ x.slots, y.isHeld = false

theorem RxStream.Divided.of_shape {x y : RxStream} (h : x.Divided) (same : y.shape = x.shape) : y.Divided := by
  have shaped : x.shape.Divided := ⟨h.1, ⟨h.2.1, h.2.2, h.2.3, h.2.4, h.2.5⟩, h.3⟩
  rw [← same] at shaped
  exact ⟨shaped.1, ⟨shaped.2.1, shaped.2.2, shaped.2.3, shaped.2.4, shaped.2.5⟩, shaped.3⟩

theorem RxStream.Resting.of_shape {x y : RxStream} (h : x.Resting) (same : y.shape = x.shape) : y.Resting := by
  refine ⟨h.toDivided.of_shape same, ?_⟩
  have shaped : ∀ z, x.shape.slots[x.shape.distance x.shape.release]? = some z → z.isHeld = false := h.stopped
  rw [← same] at shaped
  exact shaped

theorem RxStream.Ready.of_shape {x y : RxStream} (h : x.Ready) (same : y.shape = x.shape) : y.Ready := by
  refine ⟨h.toResting.of_shape same, ?_⟩
  have shaped : x.shape.holdDeadline = none ↔ ∀ z ∈ x.shape.slots, z.isHeld = false := h.deadline
  rw [← same] at shaped
  exact shaped

theorem RxStream.Immediate.of_shape {x y : RxStream} (h : x.Immediate) (same : y.shape = x.shape) : y.Immediate := by
  have shaped : x.shape.Immediate := ⟨h.1, ⟨h.2.1, h.2.2, h.2.3, h.2.4, h.2.5⟩, h.3, h.4⟩
  rw [← same] at shaped
  exact ⟨shaped.1, ⟨shaped.2.1, shaped.2.2, shaped.2.3, shaped.2.4, shaped.2.5⟩, shaped.3, shaped.4⟩

theorem dividedAt_iff {r : Nat} {slots : List Slot} :
    DividedAt r slots ↔ r ≤ slots.length ∧ (∀ y ∈ slots.take r, y.settled = true) ∧ ∀ y ∈ slots.drop r, y.waiting = true := by
  constructor
  · rintro ⟨inside, settled, waiting⟩
    refine ⟨inside, fun y hy => ?_, fun y hy => ?_⟩
    · obtain ⟨k, found⟩ := List.mem_iff_getElem?.mp hy
      rw [List.getElem?_take] at found
      split_ifs at found with lt
      exact settled k y found lt
    · obtain ⟨k, found⟩ := List.mem_iff_getElem?.mp hy
      rw [List.getElem?_drop] at found
      exact waiting _ y found (Nat.le_add_right _ _)
  · rintro ⟨inside, settled, waiting⟩
    refine ⟨inside, fun k y found lt => settled y ?_, fun k y found le => waiting y ?_⟩
    · exact List.mem_iff_getElem?.mpr ⟨k, by rw [List.getElem?_take, if_pos lt, found]⟩
    · exact List.mem_iff_getElem?.mpr ⟨k - r, by rw [List.getElem?_drop, Nat.add_sub_cancel' le, found]⟩

theorem RxStream.Ready.windowed {x : RxStream} (h : x.Ready) : x.Windowed := by
  obtain ⟨inside, settled, waiting⟩ := dividedAt_iff.mp h.divided
  have synced := h.tracking.synced
  have ordered := h.ordered
  exact ⟨h.tracking.windowCode, h.tracking.resyncCode, fun off => by simp [synced] at off,
    fun _ => ⟨h.tracking.tracked, h.tracking.fits⟩, fun off => by simp [ordered] at off,
    fun _ _ => ⟨inside, settled, waiting, h.stopped, h.deadline⟩⟩

theorem RxStream.Immediate.windowed {x : RxStream} (h : x.Immediate) : x.Windowed := by
  have synced := h.tracking.synced
  have immediate := h.immediate
  exact ⟨h.tracking.windowCode, h.tracking.resyncCode, fun off => by simp [synced] at off,
    fun _ => ⟨h.tracking.tracked, h.tracking.fits⟩, fun _ => ⟨h.deadline, h.delivered⟩, fun on => by simp [immediate] at on⟩

theorem RxStream.Windowed.ready {x : RxStream} (h : x.Windowed) (synced : x.synced = true) (ordered : x.ordered = true) :
    x.Ready := by
  obtain ⟨windowCode, resyncCode, -, tracked, -, released⟩ := h
  obtain ⟨inside, settled, waiting, stopped, deadline⟩ := released ordered synced
  exact ⟨⟨⟨ordered, ⟨windowCode, resyncCode, synced, (tracked synced).1, (tracked synced).2⟩,
    dividedAt_iff.mpr ⟨inside, settled, waiting⟩⟩, stopped⟩, deadline⟩

theorem RxStream.Windowed.immediate {x : RxStream} (h : x.Windowed) (synced : x.synced = true) (immediate : x.ordered = false) :
    x.Immediate := by
  obtain ⟨windowCode, resyncCode, -, tracked, delivered, -⟩ := h
  exact ⟨immediate, ⟨windowCode, resyncCode, synced, (tracked synced).1, (tracked synced).2⟩, (delivered immediate).1,
    (delivered immediate).2⟩

/-- A stream that tracks nothing is in order (R122). -/
theorem RxStream.windowed_of_unsynced {x : RxStream} (windowCode : x.windowCode ≤ 4) (resyncCode : x.resyncCode ≤ 12)
    (unsynced : x.synced = false) (slots : x.slots = []) (deadline : x.holdDeadline = none) : x.Windowed :=
  ⟨windowCode, resyncCode, fun _ => ⟨slots, deadline⟩, fun on => by simp [unsynced] at on, fun _ => ⟨deadline, by simp [slots]⟩,
    fun _ on => by simp [unsynced] at on⟩

theorem RxStream.Tracking.window_le {x : RxStream} (h : x.Tracking) : x.window ≤ 256 := by
  have power : 2 ^ x.windowCode ≤ 2 ^ 4 := Nat.pow_le_pow_right (by decide) h.windowCode
  unfold RxStream.window
  omega

theorem RxStream.Tracking.length_le {x : RxStream} (h : x.Tracking) : x.slots.length ≤ 256 := h.fits.trans h.window_le

theorem RxStream.sixteen_le_window (x : RxStream) : 16 ≤ x.window := by
  have power : 1 ≤ 2 ^ x.windowCode := Nat.one_le_two_pow
  unfold RxStream.window
  omega

/-! ## Slots replaced -/

/-- A slot before the release point replaced by a settled one, or a waiting one by a waiting one. -/
theorem DividedAt.set {r n : Nat} {slots : List Slot} {z : Slot} (h : DividedAt r slots)
    (settled : n < r → z.settled = true) (waiting : r ≤ n → z.waiting = true) : DividedAt r (slots.set n z) := by
  refine ⟨by rw [List.length_set]; exact h.inside, fun k y found lt => ?_, fun k y found le => ?_⟩
  all_goals
    rw [List.getElem?_set] at found
    split_ifs at found with same bound
  · cases found
    exact settled (same ▸ lt)
  · exact h.settled k y found lt
  · cases found
    exact waiting (same ▸ le)
  · exact h.waiting k y found le

/-- The slot of the release point settled and passed. -/
theorem DividedAt.succ {r : Nat} {slots : List Slot} {z : Slot} (h : DividedAt r slots) (inside : r < slots.length)
    (settled : z.settled = true) : DividedAt (r + 1) (slots.set r z) := by
  refine ⟨by rw [List.length_set]; exact inside, fun k y found lt => ?_, fun k y found le => ?_⟩
  all_goals
    rw [List.getElem?_set] at found
    split_ifs at found with same
  · cases found
    exact settled
  · exact h.settled k y found (by omega)
  · omega
  · exact h.waiting k y found (by omega)

theorem RxStream.Tracking.congr {x y : RxStream} (h : x.Tracking) (windowCode : y.windowCode = x.windowCode)
    (resyncCode : y.resyncCode = x.resyncCode) (synced : y.synced = x.synced) (base : y.base = x.base)
    (front : y.front = x.front) (length : y.slots.length = x.slots.length) : y.Tracking := by
  refine ⟨windowCode ▸ h.windowCode, resyncCode ▸ h.resyncCode, synced ▸ h.synced, ?_, ?_⟩
  · rw [length, h.tracked, RxStream.distance, RxStream.distance, base, front]
  · rw [length, RxStream.window, windowCode]
    exact h.fits

theorem Slot.delivered_settled {y : Slot} (held : y.isHeld = true) : y.delivered.settled = true := by
  obtain ⟨info, f, rfl⟩ := Slot.isHeld_iff.mp held
  rfl

theorem RxStream.Divided.passed {x : RxStream} (h : x.Divided) {y : Slot}
    (found : x.slots[x.distance x.release]? = some y) (held : y.isHeld = true) : x.passed.Divided := by
  obtain ⟨inside, slot⟩ := List.getElem?_eq_some_iff.mp found
  have small := h.tracking.length_le
  have moved : x.passed.distance x.passed.release = x.distance x.release + 1 :=
    RxStream.distance_add (x := x) (k := 1) (by omega)
  have slots : x.passed.slots = x.slots.set (x.distance x.release) y.delivered :=
    (List.set_eq_modify fun z hz => by rw [found] at hz; cases hz; rfl).symm
  refine ⟨h.ordered, h.tracking.congr rfl rfl rfl rfl rfl (by rw [slots, List.length_set]), ?_⟩
  rw [moved, slots]
  exact h.divided.succ inside (Slot.delivered_settled held)

/-- The release walk brings a divided stream to rest (R114). -/
theorem RxStream.Divided.walked {x : RxStream} (h : x.Divided) : x.walked.Resting := by
  induction run : x.heldRun.length generalizing x with
  | zero =>
    have stop : ∀ y, x.slots[x.distance x.release]? = some y → y.isHeld = false := by
      intro y found
      by_contra held
      have := RxStream.heldRun_of_held (by have := h.tracking.length_le; omega) found (by simpa using held)
      rw [this] at run
      cases run
    rw [RxStream.walked_of_not_held stop]
    exact ⟨h, stop⟩
  | succ n ih =>
    have small : x.slots.length < 4294967296 := by have := h.tracking.length_le; omega
    by_cases held : ∃ y, x.slots[x.distance x.release]? = some y ∧ y.isHeld = true
    · obtain ⟨y, found, held⟩ := held
      rw [RxStream.walked_of_held small found held]
      apply ih (h.passed found held)
      rw [RxStream.heldRun_of_held small found held, List.length_cons] at run
      omega
    · have stop : ∀ y, x.slots[x.distance x.release]? = some y → y.isHeld = false :=
        fun y found => by simpa using fun on => held ⟨y, found, on⟩
      rw [RxStream.walked_of_not_held stop]
      exact ⟨h, stop⟩

/-! ## The hold deadline -/

/-- A stream with its hold deadline formed anew (R115). -/
def RxStream.deadlined (x : RxStream) : RxStream :=
  { x with holdDeadline := (earliestHeld x.slots).map (· + usToNs x.holdTime) }

theorem State.formDeadline_shape (s : State) (i : StreamId) :
    ((s.formDeadline i).rxStream i).shape = (s.rxStream i).deadlined.shape := by
  rw [State.formDeadline, State.modRx_rxStream_self]
  rfl

theorem earliestHeld_eq_none {slots : List Slot} : earliestHeld slots = none ↔ ∀ y ∈ slots, y.isHeld = false := by
  induction slots with
  | nil => simp [earliestHeld]
  | cons y rest ih =>
    cases y with
    | held info f =>
      simp only [earliestHeld, List.mem_cons, forall_eq_or_imp, Slot.isHeld]
      cases earliestHeld rest <;> simp
    | empty | done | skipped => simpa [earliestHeld, Slot.isHeld] using ih

theorem RxStream.Resting.deadlined {x : RxStream} (h : x.Resting) : x.deadlined.Ready := by
  have none_iff : x.deadlined.holdDeadline = none ↔ ∀ y ∈ x.slots, y.isHeld = false := by
    rw [← earliestHeld_eq_none]
    exact Option.map_eq_none_iff
  exact ⟨⟨⟨h.ordered, h.tracking.congr rfl rfl rfl rfl rfl rfl, h.divided⟩, h.stopped⟩, none_iff⟩

/-! ## Hold expiries -/

/-- A stream whose EMPTY slots before place h are SKIPPED, with the release point there (R116). -/
def RxStream.skippedTo (h : Nat) (x : RxStream) : RxStream :=
  { x with slots := skipRange x.slots (x.distance x.release) h, release := x.base + BitVec.ofNat 32 h }

/-- A stream after one hold expiry (R116). -/
def RxStream.expired (x : RxStream) : RxStream :=
  match heldFrom x.slots (x.distance x.release) with
  | none => { x with holdDeadline := none }
  | some h => (x.skippedTo h).walked.deadlined

/-- The missing sequences before place h skipped, recorded and counted, and the release point moved there (R116). -/
def State.skipTo (s : State) (i : StreamId) (h : Nat) : State :=
  ((s.modRx i (fun x => { x with slots := skipRange x.slots ((s.rxStream i).distance (s.rxStream i).release) h })).gapRun i
    (s.rxStream i).release (h - (s.rxStream i).distance (s.rxStream i).release) .hold).modRx i
      (fun x => { x with release := x.base + BitVec.ofNat 32 h })

theorem State.expireOnce_of_none {s : State} {i : StreamId}
    (found : heldFrom (s.rxStream i).slots ((s.rxStream i).distance (s.rxStream i).release) = none) :
    s.expireOnce i = s.modRx i (fun x => { x with holdDeadline := none }) := by
  unfold State.expireOnce
  dsimp only
  rw [found]

theorem State.expireOnce_of_some {s : State} {i : StreamId} {h : Nat}
    (found : heldFrom (s.rxStream i).slots ((s.rxStream i).distance (s.rxStream i).release) = some h) :
    s.expireOnce i = ((s.skipTo i h).releaseWalk i).formDeadline i := by
  unfold State.expireOnce
  dsimp only
  rw [found]
  rfl

theorem State.skipTo_shape (s : State) (i : StreamId) (h : Nat) :
    ((s.skipTo i h).rxStream i).shape = ((s.rxStream i).skippedTo h).shape := by
  rw [State.skipTo, State.modRx_shape_eq _ i (by exact fun _ => rfl), State.gapRun_shape, State.modRx_rxStream_self]
  rfl

theorem skipRange_length {slots : List Slot} {r h : Nat} : (skipRange slots r h).length = slots.length := by
  simp only [skipRange, List.length_append, List.length_take, List.length_map, List.length_drop]
  omega

theorem RxStream.deadlined_shape (x : RxStream) : x.deadlined.shape = x.shape.deadlined := rfl

theorem State.expireOnce_shape {s : State} {i : StreamId} (small : (s.rxStream i).slots.length < 4294967296) :
    ((s.expireOnce i).rxStream i).shape = (s.rxStream i).expired.shape := by
  unfold RxStream.expired
  split
  · rename_i found
    rw [State.expireOnce_of_none found, State.modRx_rxStream_self]
  · rename_i h found
    have skipped := s.skipTo_shape i h
    have length : ((s.skipTo i h).rxStream i).slots.length < 4294967296 := by
      rw [RxStream.slots_of_shape skipped, RxStream.skippedTo, skipRange_length]
      exact small
    rw [State.expireOnce_of_some found, State.formDeadline_shape, RxStream.deadlined_shape,
      State.releaseWalk_shape length, RxStream.walked_shape, skipped, RxStream.deadlined_shape, RxStream.walked_shape]

/-- The first HELD slot from a place on (R116). -/
theorem heldFrom_eq_some {slots : List Slot} {r h : Nat} (found : heldFrom slots r = some h) :
    r ≤ h ∧ (∃ y, slots[h]? = some y ∧ y.isHeld = true) ∧ ∀ k y, r ≤ k → k < h → slots[k]? = some y → y.isHeld = false := by
  obtain ⟨n, first, rfl⟩ := Option.map_eq_some_iff.mp found
  obtain ⟨bound, held, before⟩ := List.findIdx?_eq_some_iff_getElem.mp first
  refine ⟨Nat.le_add_left _ _, ⟨_, ?_, held⟩, fun k y le lt slot => ?_⟩
  · rw [List.getElem_drop, Nat.add_comm]
    exact List.getElem?_eq_getElem _
  · obtain ⟨inside, rfl⟩ := List.getElem?_eq_some_iff.mp slot
    have := before (k - r) (by omega)
    rw [List.getElem_drop] at this
    simpa [Nat.add_sub_cancel' le] using this

theorem heldFrom_eq_none {slots : List Slot} {r k : Nat} {y : Slot} (found : heldFrom slots r = none) (le : r ≤ k)
    (slot : slots[k]? = some y) : y.isHeld = false := by
  have none_held := List.findIdx?_eq_none_iff.mp (Option.map_eq_none_iff.mp found)
  refine none_held y (List.mem_iff_getElem?.mpr ⟨k - r, ?_⟩)
  rw [List.getElem?_drop, Nat.add_sub_cancel' le, slot]

theorem getElem?_skipRange {slots : List Slot} {r h : Nat} (le : r ≤ h) (k : Nat) :
    (skipRange slots r h)[k]? = if r ≤ k ∧ k < h then slots[k]?.map Slot.skip else slots[k]? := by
  unfold skipRange
  rw [Nat.max_eq_right le]
  simp only [List.getElem?_append, List.length_append, List.length_take, List.length_map, List.length_drop,
    List.getElem?_take, List.getElem?_map, List.getElem?_drop]
  split_ifs
  any_goals omega
  · rfl
  · congr 2; omega
  · rw [List.getElem?_eq_none (by omega), List.getElem?_eq_none (by omega)]; rfl
  · rcases Nat.lt_or_ge k slots.length with inside | outside
    · congr 1; omega
    · rw [List.getElem?_eq_none (by omega), List.getElem?_eq_none (by omega)]

theorem RxStream.Divided.skippedTo {x : RxStream} (h : x.Divided) {n : Nat}
    (found : heldFrom x.slots (x.distance x.release) = some n) : (x.skippedTo n).Divided := by
  obtain ⟨le, ⟨y, at_n, held⟩, before⟩ := heldFrom_eq_some found
  have inside : n < x.slots.length := (List.getElem?_eq_some_iff.mp at_n).1
  have small := h.tracking.length_le
  have moved : (x.skippedTo n).distance (x.skippedTo n).release = n := RxStream.distance_base_add (x := x) (by omega)
  refine ⟨h.ordered, h.tracking.congr rfl rfl rfl rfl rfl skipRange_length, ?_⟩
  rw [moved]
  refine ⟨by rw [RxStream.skippedTo, skipRange_length]; omega, fun k z slot lt => ?_, fun k z slot ge => ?_⟩
  all_goals
    rw [RxStream.skippedTo, getElem?_skipRange le] at slot
    split_ifs at slot with range
  · obtain ⟨w, original, rfl⟩ := Option.map_eq_some_iff.mp slot
    have waiting := h.divided.waiting k w original range.1
    have free := before k w range.1 range.2 original
    cases w with
    | held => cases free
    | empty | done | skipped => rfl
  · exact h.divided.settled k z slot (by omega)
  · omega
  · exact h.divided.waiting k z slot (by omega)

/-- A hold expiry leaves an ORDERED stream in order (R116). -/
theorem RxStream.Ready.expired {x : RxStream} (h : x.Ready) : x.expired.Ready := by
  unfold RxStream.expired
  split
  · rename_i found
    have none_held : ∀ y ∈ x.slots, y.isHeld = false := by
      intro y member
      obtain ⟨k, slot⟩ := List.mem_iff_getElem?.mp member
      rcases Nat.lt_or_ge k (x.distance x.release) with lt | ge
      · have settled := h.divided.settled k y slot lt
        cases y with
        | held => cases settled
        | empty | done | skipped => rfl
      · exact heldFrom_eq_none found ge slot
    exact ⟨⟨⟨h.ordered, h.tracking.congr rfl rfl rfl rfl rfl rfl, h.divided⟩, h.stopped⟩, fun _ => none_held, fun _ => rfl⟩
  · rename_i n found
    exact (h.toDivided.skippedTo found).walked.deadlined

theorem State.expireUpTo_ready {fuel : Nat} {s : State} {i : StreamId} (h : (s.rxStream i).Ready) :
    ((State.expireUpTo fuel s i).rxStream i).Ready := by
  induction fuel generalizing s with
  | zero => exact h
  | succ fuel ih =>
    unfold State.expireUpTo
    split
    · have small := h.tracking.length_le
      exact ih (h.expired.of_shape (State.expireOnce_shape (by omega)))
    · exact h

theorem State.expireAll_ready {s : State} {i : StreamId} (h : (s.rxStream i).Ready) : ((s.expireAll i).rxStream i).Ready :=
  State.expireUpTo_ready h

theorem State.settleHold_ready {s : State} {i : StreamId} (h : (s.rxStream i).Resting) : ((s.settleHold i).rxStream i).Ready :=
  State.expireAll_ready (h.deadlined.of_shape (s.formDeadline_shape i))

/-- Without a deadline nothing expires. -/
theorem State.expireAll_of_none {s : State} {i : StreamId} (h : (s.rxStream i).holdDeadline = none) : s.expireAll i = s := by
  unfold State.expireAll State.expireUpTo State.streamHoldDue
  rw [h]
  rfl

end Sys2Proof.Machine

/-! Arrivals and the window (7.2 to 7.6): a first arrival, an advance, a synchronization and a resynchronization leave the
stream's window in order, and so does every step (O58). -/

namespace Sys2Proof.Machine

/-! ## First arrivals -/

/-- A first arrival counted (R113): accepted on the stream, a win on the path. -/
def State.countArrival (s : State) (i : StreamId) (d : DataArrival) : State :=
  (s.modRx i (fun x => { x with accepted := inc32 x.accepted })).modStats d.path (fun x => { x with wins := inc32 x.wins })

theorem State.countArrival_shape (s : State) (i : StreamId) (d : DataArrival) :
    ((s.countArrival i d).rxStream i).shape = (s.rxStream i).shape := by
  rw [State.countArrival, State.modStats_rxStream, State.modRx_shape _ i (by exact fun _ => rfl)]

theorem State.firstArrival_of_immediate {s : State} {i : StreamId} {d : DataArrival}
    (immediate : (s.rxStream i).ordered = false) :
    s.firstArrival i d = (s.countArrival i d).deliverArrival i d (s.eligible d.path) false := by
  unfold State.firstArrival
  dsimp only
  rw [immediate]
  rfl

theorem State.firstArrival_of_release {s : State} {i : StreamId} {d : DataArrival} (ordered : (s.rxStream i).ordered = true)
    (due : d.copy.seq = (s.rxStream i).release) :
    s.firstArrival i d = (((((s.countArrival i d).deliverArrival i d (s.eligible d.path) true).modRx i
      (fun x => { x with release := x.release + 1 })).releaseWalk i).settleHold i) := by
  unfold State.firstArrival
  dsimp only
  rw [if_pos ordered, if_pos due]
  rfl

theorem State.firstArrival_of_ahead {s : State} {i : StreamId} {d : DataArrival} (ordered : (s.rxStream i).ordered = true)
    (ahead : d.copy.seq ≠ (s.rxStream i).release) :
    s.firstArrival i d = (s.countArrival i d).holdArrival i d (s.eligible d.path) := by
  unfold State.firstArrival
  dsimp only
  rw [if_pos ordered, if_neg ahead]
  rfl

/-- A stream whose slot at a place is replaced. -/
def RxStream.setAt (n : Nat) (slot : Slot) (x : RxStream) : RxStream := { x with slots := x.slots.set n slot }

theorem State.deliverArrival_shape (s : State) (i : StreamId) (d : DataArrival) (eligible ordered : Bool) :
    ((s.deliverArrival i d eligible ordered).rxStream i).shape
      = ((s.rxStream i).setAt ((s.rxStream i).distance d.copy.seq) (.done d.info)).shape := by
  rw [State.deliverArrival, State.deliver_shape, State.setSlot, State.modRx_rxStream_self]
  rfl

theorem RxStream.Immediate.setDone {x : RxStream} (h : x.Immediate) (n : Nat) (info : SlotInfo) :
    (x.setAt n (.done info)).Immediate := by
  refine ⟨h.immediate, h.tracking.congr rfl rfl rfl rfl rfl (List.length_set ..), h.deadline, fun y member => ?_⟩
  rcases List.mem_or_eq_of_mem_set member with old | rfl
  · exact h.delivered y old
  · rfl

/-- On an IMMEDIATE stream a first arrival leaves its slot DONE (R113). -/
theorem State.firstArrival_immediate {s : State} {i : StreamId} (h : (s.rxStream i).Immediate) (d : DataArrival) :
    ((s.firstArrival i d).rxStream i).Immediate := by
  rw [State.firstArrival_of_immediate h.immediate]
  exact ((h.of_shape (s.countArrival_shape i d)).setDone _ _).of_shape (State.deliverArrival_shape _ _ _ _ _)

theorem RxStream.Resting.held {x : RxStream} (h : x.Resting) {q : Seq} {info : SlotInfo} {f : HeldFrame} {arrival : Nat}
    (empty : x.slots[x.distance q]? = some .empty) (ahead : q ≠ x.release) :
    (RxStream.noteHeld arrival (x.setAt (x.distance q) (.held info f))).Ready := by
  have inside : x.distance q < x.slots.length := (List.getElem?_eq_some_iff.mp empty).1
  have after : x.distance x.release < x.distance q := by
    by_contra before
    rcases Nat.lt_or_eq_of_le (Nat.le_of_not_lt before) with lt | eq
    · cases h.divided.settled _ _ empty lt
    · exact ahead (RxStream.distance_inj eq)
  have held : (x.slots.set (x.distance q) (.held info f))[x.distance q]? = some (.held info f) :=
    List.getElem?_set_self inside
  refine ⟨⟨⟨h.ordered, h.tracking.congr rfl rfl rfl rfl rfl (List.length_set ..), ?_⟩, fun y slot => ?_⟩, ?_⟩
  · exact h.divided.set (fun lt => absurd lt (Nat.not_lt.mpr (Nat.le_of_lt after))) fun _ => rfl
  · have slot' : (x.slots.set (x.distance q) (.held info f))[x.distance x.release]? = some y := slot
    rw [List.getElem?_set_ne (Nat.ne_of_gt after)] at slot'
    exact h.stopped y slot'
  · constructor
    · intro none
      simp only [RxStream.noteHeld] at none
      split at none <;> cases none
    · intro none_held
      cases none_held _ (List.mem_iff_getElem?.mpr ⟨_, held⟩)

theorem RxStream.Divided.delivered {x : RxStream} (h : x.Divided) {info : SlotInfo}
    (inside : x.distance x.release < x.slots.length) :
    RxStream.Divided { x.setAt (x.distance x.release) (.done info) with release := x.release + 1 } := by
  have small := h.tracking.length_le
  have moved : x.distance (x.release + 1) = x.distance x.release + 1 := RxStream.distance_add (k := 1) (by omega)
  refine ⟨h.ordered, h.tracking.congr rfl rfl rfl rfl rfl (List.length_set ..), ?_⟩
  have divided := h.divided.succ (z := .done info) inside rfl
  rw [← moved] at divided
  exact divided

theorem State.releaseWalk_resting {s : State} {i : StreamId} (h : (s.rxStream i).Divided) :
    ((s.releaseWalk i).rxStream i).Resting :=
  h.walked.of_shape (State.releaseWalk_shape (by have := h.tracking.length_le; omega))

/-- On an ORDERED stream a first arrival of an EMPTY slot leaves the stream in order (R114), also while its hold deadline is
yet to be formed anew. -/
theorem State.firstArrival_ready {s : State} {i : StreamId} (h : (s.rxStream i).Resting) {d : DataArrival}
    (empty : (s.rxStream i).slots[(s.rxStream i).distance d.copy.seq]? = some .empty) :
    ((s.firstArrival i d).rxStream i).Ready := by
  have counted := s.countArrival_shape i d
  have resting := h.of_shape counted
  have fields : ((s.countArrival i d).rxStream i).slots = (s.rxStream i).slots
      ∧ ((s.countArrival i d).rxStream i).release = (s.rxStream i).release
      ∧ ((s.countArrival i d).rxStream i).distance d.copy.seq = (s.rxStream i).distance d.copy.seq := by
    simp [State.countArrival, RxStream.distance]
  obtain ⟨slots, release, distance⟩ := fields
  by_cases due : d.copy.seq = (s.rxStream i).release
  · rw [State.firstArrival_of_release h.ordered due]
    apply State.settleHold_ready
    apply State.releaseWalk_resting
    generalize s.countArrival i d = u at resting slots release distance
    have inside : (u.rxStream i).distance (u.rxStream i).release < (u.rxStream i).slots.length := by
      rw [slots, release, ← due, distance]
      exact (List.getElem?_eq_some_iff.mp empty).1
    refine (resting.toDivided.delivered (info := d.info) inside).of_shape ?_
    rw [State.modRx_shape_eq _ i (by exact fun _ => rfl), State.deliverArrival_shape, due, ← release]
    rfl
  · rw [State.firstArrival_of_ahead h.ordered due]
    generalize s.countArrival i d = u at resting slots release distance
    have held := resting.held (q := d.copy.seq) (info := d.info) (f := d.kept (s.eligible d.path)) (arrival := d.stamp.mono)
      (by rw [slots, distance, empty]) (by rw [release]; exact due)
    have ready : (((u.setSlot i ((u.rxStream i).distance d.copy.seq) (.held d.info (d.kept (s.eligible d.path)))).modRx i
        (RxStream.noteHeld d.stamp.mono)).rxStream i).Ready := by
      rw [State.modRx_rxStream_self, State.setSlot, State.modRx_rxStream_self]
      exact held
    unfold State.holdArrival
    dsimp only
    split
    · exact State.expireAll_ready ready
    · exact ready

/-! ## Copies within the window -/

theorem Slot.see_kind (p : Path) (y : Slot) :
    (y.see p).isHeld = y.isHeld ∧ (y.see p).settled = y.settled ∧ (y.see p).waiting = y.waiting := by
  cases y <;> exact ⟨rfl, rfl, rfl⟩

/-- A slot replaced by one of the same kind. -/
theorem RxStream.Windowed.setAt {x : RxStream} (h : x.Windowed) {n : Nat} {y z : Slot} (slot : x.slots[n]? = some y)
    (held : z.isHeld = y.isHeld) (settled : z.settled = y.settled) (waiting : z.waiting = y.waiting) :
    (x.setAt n z).Windowed := by
  have inside : n < x.slots.length := (List.getElem?_eq_some_iff.mp slot).1
  have synced : x.synced = true := by
    by_contra off
    have none := (h.2.2.1 (by simpa using off)).1
    rw [none] at inside
    exact Nat.not_lt_zero _ inside
  have keeps (P : Slot → Bool) (same : P z = P y) : (∀ w ∈ x.slots.set n z, P w = false) ↔ ∀ w ∈ x.slots, P w = false := by
    constructor
    · intro all w member
      obtain ⟨k, found⟩ := List.mem_iff_getElem?.mp member
      by_cases at_n : n = k
      · subst at_n
        rw [slot] at found
        cases found
        rw [← same]
        exact all z (List.mem_iff_getElem?.mpr ⟨n, List.getElem?_set_self inside⟩)
      · exact all w (List.mem_iff_getElem?.mpr ⟨k, by rw [List.getElem?_set_ne at_n]; exact found⟩)
    · intro all w member
      rcases List.mem_or_eq_of_mem_set member with old | rfl
      · exact all w old
      · rw [same]
        exact all y (List.mem_iff_getElem?.mpr ⟨n, slot⟩)
  cases mode : x.ordered with
  | false =>
    have imm := h.immediate synced mode
    exact RxStream.Immediate.windowed ⟨mode, imm.tracking.congr rfl rfl rfl rfl rfl (List.length_set ..), imm.deadline,
      (keeps _ held).mpr imm.delivered⟩
  | true =>
    have ready := h.ready synced mode
    refine RxStream.Ready.windowed ⟨⟨⟨mode, ready.tracking.congr rfl rfl rfl rfl rfl (List.length_set ..),
      ready.divided.set (fun lt => settled ▸ ready.divided.settled n y slot lt)
        (fun le => waiting ▸ ready.divided.waiting n y slot le)⟩, fun w found => ?_⟩,
      ready.deadline.trans (keeps _ held).symm⟩
    have found' : (x.slots.set n z)[x.distance x.release]? = some w := found
    by_cases at_n : n = x.distance x.release
    · rw [at_n, List.getElem?_set_self (at_n ▸ inside)] at found'
      cases found'
      rw [held]
      exact ready.stopped y (at_n ▸ slot)
    · rw [List.getElem?_set_ne at_n] at found'
      exact ready.stopped w found'

theorem State.lateCopy_shape (s : State) (i : StreamId) (p : Path) :
    ((s.lateCopy i p).rxStream i).shape = (s.rxStream i).shape := by
  rw [State.lateCopy, State.modStats_rxStream, State.modRx_shape _ i (by exact fun _ => rfl)]

theorem State.duplicate_shape (s : State) (i : StreamId) (n : Nat) (slot : Slot) (first : Nat) (d : DataArrival) :
    ((s.duplicate i n slot first d).rxStream i).shape = ((s.rxStream i).setAt n (slot.see d.path)).shape := by
  rw [State.duplicate, State.modRx_shape _ i (by exact fun _ => rfl), State.modStats_rxStream, State.setSlot,
    State.modRx_rxStream_self]
  rfl

/-- A first arrival in an EMPTY slot of a window in order (R113, R114). -/
theorem State.firstArrival_windowed {s : State} {i : StreamId} (h : (s.rxStream i).Windowed)
    (synced : (s.rxStream i).synced = true) {d : DataArrival}
    (empty : (s.rxStream i).slots[(s.rxStream i).distance d.copy.seq]? = some .empty) :
    ((s.firstArrival i d).rxStream i).Windowed := by
  cases mode : (s.rxStream i).ordered with
  | false => exact (State.firstArrival_immediate (h.immediate synced mode) d).windowed
  | true => exact (State.firstArrival_ready (h.ready synced mode).toResting empty).windowed

theorem State.takeTracked_windowed {s : State} {i : StreamId} (h : (s.rxStream i).Windowed)
    (synced : (s.rxStream i).synced = true) (d : DataArrival) :
    ((s.takeTracked i ((s.rxStream i).distance d.copy.seq) d).rxStream i).Windowed := by
  unfold State.takeTracked
  split
  · rename_i empty
    exact State.firstArrival_windowed h synced empty
  · rename_i info f slot
    obtain ⟨held, settled, waiting⟩ := Slot.see_kind d.path (.held info f)
    exact (h.setAt slot held settled waiting).of_shape (State.duplicate_shape _ _ _ _ _ _)
  · rename_i info slot
    obtain ⟨held, settled, waiting⟩ := Slot.see_kind d.path (.done info)
    exact (h.setAt slot held settled waiting).of_shape (State.duplicate_shape _ _ _ _ _ _)
  · exact h.of_shape (s.lateCopy_shape i d.path)
  · exact h

end Sys2Proof.Machine

/-! The window filled, moved, synchronized and resynchronized (7.1, 7.5, 7.6), and every step on the windows (O58). -/

namespace Sys2Proof.Machine

/-! ## The window filled up to a sequence -/

theorem RxStream.Tracking.fillTo {x : RxStream} (h : x.Tracking) {q : Seq} (beyond : x.slots.length ≤ x.distance q)
    (fits : x.distance q < x.window) :
    (x.fillTo q).Tracking ∧ (x.fillTo q).slots = x.slots ++ List.replicate (x.distance q + 1 - x.slots.length) .empty := by
  have window := h.window_le
  have front : x.distance (q + 1) = x.distance q + 1 := RxStream.distance_add (k := 1) (by omega)
  have length : (x.fillTo q).slots.length = x.distance q + 1 := by
    simp only [RxStream.fillTo, List.length_append, List.length_replicate]
    omega
  exact ⟨⟨h.windowCode, h.resyncCode, h.synced, length.trans front.symm, by rw [length]; exact fits⟩, rfl⟩

theorem RxStream.fillTo_empty {x : RxStream} {q : Seq} (beyond : x.slots.length ≤ x.distance q) :
    (x.fillTo q).slots[(x.fillTo q).distance q]? = some .empty := by
  show (x.slots ++ List.replicate _ Slot.empty)[x.distance q]? = _
  rw [List.getElem?_append_right beyond, List.getElem?_replicate, if_pos (by omega)]

/-- EMPTY slots appended after the newest leave the division (R112). -/
theorem DividedAt.append_empty {r : Nat} {slots : List Slot} (h : DividedAt r slots) (n : Nat) :
    DividedAt r (slots ++ List.replicate n .empty) := by
  have inside := h.inside
  refine ⟨by rw [List.length_append]; omega, fun k y found lt => ?_, fun k y found le => ?_⟩
  · rw [List.getElem?_append_left (by omega)] at found
    exact h.settled k y found lt
  · rw [List.getElem?_append] at found
    split_ifs at found with old
    · exact h.waiting k y found le
    · rw [List.getElem?_replicate] at found
      split_ifs at found
      cases found
      rfl

theorem RxStream.Windowed.fillTo {x : RxStream} (h : x.Windowed) (synced : x.synced = true) {q : Seq}
    (beyond : x.slots.length ≤ x.distance q) (fits : x.distance q < x.window) : (x.fillTo q).Windowed := by
  cases mode : x.ordered with
  | false =>
    have imm := h.immediate synced mode
    obtain ⟨tracking, slots⟩ := imm.tracking.fillTo beyond fits
    refine RxStream.Immediate.windowed ⟨mode, tracking, imm.deadline, fun y member => ?_⟩
    rw [slots, List.mem_append] at member
    rcases member with old | new
    · exact imm.delivered y old
    · rw [List.eq_of_mem_replicate new]; rfl
  | true =>
    have ready := h.ready synced mode
    obtain ⟨tracking, slots⟩ := ready.tracking.fillTo beyond fits
    refine RxStream.Ready.windowed ⟨⟨⟨mode, tracking, ready.divided.append_empty _⟩, fun y found => ?_⟩, ?_⟩
    · have found' : (x.slots ++ List.replicate (x.distance q + 1 - x.slots.length) Slot.empty)[x.distance x.release]?
          = some y := found
      rw [List.getElem?_append] at found'
      split_ifs at found' with old
      · exact ready.stopped y found'
      · rw [List.getElem?_replicate] at found'
        split_ifs at found'
        cases found'
        rfl
    · rw [slots]
      refine ready.deadline.trans ⟨fun all y member => ?_, fun all y member => all y (List.mem_append_left _ member)⟩
      rcases List.mem_append.mp member with old | new
      · exact all y old
      · rw [List.eq_of_mem_replicate new]; rfl

/-! ## An advance -/

theorem State.retireReport_rxStream (s : State) (mask seen : PathSet) (i : StreamId) :
    (s.retireReport mask seen).rxStream i = s.rxStream i := (s.retireReport_routed mask seen).rxStream i

/-- The retirements of an advance count gaps and move nothing else of the stream (R119 step 2). -/
theorem State.retire_shape (i : StreamId) (untracked : Nat) (l : List Slot) (q : Seq) (run : Nat) (s : State) :
    ((State.retire i untracked l q run s).rxStream i).shape = (s.rxStream i).shape := by
  induction l generalizing q run s with
  | nil => exact s.gapRun_shape i _ _ _
  | cons slot rest ih =>
    cases slot with
    | empty => exact ih _ _ _
    | skipped => exact (ih _ _ _).trans (s.gapRun_shape i _ _ _)
    | done info | held info f =>
      refine (ih _ _ _).trans ?_
      rw [State.retireReport_rxStream]
      exact s.gapRun_shape i _ _ _

/-- The slots after an advance: those that stay, then EMPTY ones up to the window size (R119 step 3). -/
theorem RxStream.moveWindow_getElem? {x : RxStream} (q : Seq) (n k : Nat) :
    (x.moveWindow q n).slots[k]? = if k < x.slots.length - n then x.slots[n + k]?
      else if k < x.window then some .empty else none := by
  show (x.slots.drop n ++ List.replicate _ Slot.empty)[k]? = _
  rw [List.getElem?_append, List.length_drop, List.getElem?_drop, List.getElem?_replicate]
  split_ifs with old fill window window
  · rfl
  · rfl
  · omega
  · omega
  · rfl

theorem RxStream.Tracking.moveWindow {x : RxStream} (h : x.Tracking) {q : Seq} {n : Nat}
    (count : n = x.distance q + 1 - x.window) (beyond : x.window ≤ x.distance q) (near : x.distance q < 2147483648) :
    (x.moveWindow q n).Tracking := by
  have fits := h.fits
  have length : (x.moveWindow q n).slots.length = x.window := by
    simp only [RxStream.moveWindow, List.length_append, List.length_drop, List.length_replicate]
    omega
  have front : (x.moveWindow q n).distance (q + 1) = x.window := by
    have before : x.distance (q + 1) = x.distance q + 1 := RxStream.distance_add (k := 1) (by omega)
    have rest : x.base + BitVec.ofNat 32 n + BitVec.ofNat 32 x.window = q + 1 := by
      rw [← x.base_add_distance (q + 1), before, count, add_assoc, ← BitVec.ofNat_add]
      congr 2
      omega
    show (q + 1 - (x.base + BitVec.ofNat 32 n)).toNat = x.window
    rw [← rest, add_sub_cancel_left, BitVec.toNat_ofNat]
    have := h.window_le
    omega
  exact ⟨h.windowCode, h.resyncCode, h.synced, length.trans front.symm, le_of_eq length⟩

/-- The distance of a sequence that stays, from the base that an advance leaves. -/
theorem RxStream.distance_moveWindow {x : RxStream} {q p : Seq} {n : Nat} (stays : n ≤ x.distance p) :
    (x.moveWindow q n).distance p = x.distance p - n := by
  have small : x.distance p < 4294967296 := (p - x.base).isLt
  show (p - (x.base + BitVec.ofNat 32 n)).toNat = x.distance p - n
  have split : p = x.base + BitVec.ofNat 32 n + BitVec.ofNat 32 (x.distance p - n) := by
    rw [add_assoc, ← BitVec.ofNat_add, Nat.add_sub_cancel' stays, x.base_add_distance]
  conv_lhs => rw [split]
  rw [add_sub_cancel_left, BitVec.toNat_ofNat]
  omega

/-- The release point after an advance: its own place less the retired ones, or the new base (R119 step 4). -/
theorem RxStream.release_moveWindow {x : RxStream} (q : Seq) (n : Nat) :
    (x.moveWindow q n).distance (x.moveWindow q n).release = x.distance x.release - n := by
  by_cases behind : x.distance x.release < n
  · have release : (x.moveWindow q n).release = (x.moveWindow q n).base := if_pos behind
    rw [release]
    have zero : (x.moveWindow q n).distance (x.moveWindow q n).base = 0 := by simp [RxStream.distance]
    omega
  · have release : (x.moveWindow q n).release = x.release := if_neg behind
    rw [release, RxStream.distance_moveWindow (Nat.le_of_not_lt behind)]

/-- A stream with its first `n` slots released, as an advance leaves them (R119 step 1). -/
def RxStream.retiring (n : Nat) (x : RxStream) : RxStream :=
  { x with slots := (x.slots.take n).map Slot.delivered ++ x.slots.drop n }

theorem State.releaseFirst_retiring (s : State) (i : StreamId) (n : Nat) :
    ((s.releaseFirst i n).rxStream i).shape = ((s.rxStream i).retiring n).shape := s.releaseFirst_shape i n

/-- The window of an ORDERED stream moved after the retiring slots were released (R119): divided again, though the release
point may stand at a HELD slot. -/
theorem RxStream.Divided.moveWindow {x : RxStream} (h : x.Divided) {q : Seq} {n : Nat}
    (count : n = x.distance q + 1 - x.window) (beyond : x.window ≤ x.distance q) (near : x.distance q < 2147483648) :
    RxStream.Divided (RxStream.moveWindow q n (x.retiring n)) := by
  have length : ((x.slots.take n).map Slot.delivered ++ x.slots.drop n).length = x.slots.length := by
    simp only [List.length_append, List.length_map, List.length_take, List.length_drop]
    omega
  have kept (k : Nat) : ((x.slots.take n).map Slot.delivered ++ x.slots.drop n)[n + k]? = x.slots[n + k]? := by
    rw [List.getElem?_append, List.length_map, List.length_take]
    split_ifs with early
    · omega
    · rw [List.getElem?_drop]
      rcases Nat.lt_or_ge (n + k) x.slots.length with inside | outside
      · congr 1; omega
      · rw [List.getElem?_eq_none (by omega), List.getElem?_eq_none (by omega)]
  have fits := h.tracking.fits
  have tracking : (x.retiring n).Tracking := h.tracking.congr rfl rfl rfl rfl rfl length
  have moved := tracking.moveWindow (q := q) count beyond near
  have slot := RxStream.moveWindow_getElem? (x := x.retiring n) q n
  refine ⟨h.ordered, moved, ?_⟩
  rw [RxStream.release_moveWindow]
  have inside : x.distance x.release ≤ x.slots.length := h.divided.inside
  refine ⟨?_, fun k z found lt => ?_, fun k z found le => ?_⟩
  · rw [RxStream.moveWindow, List.length_append, List.length_drop]
    refine Nat.le_add_right_of_le (Nat.sub_le_sub_right ?_ n)
    exact inside.trans_eq length.symm
  · rw [slot k, show (x.retiring n).slots.length = x.slots.length from length] at found
    have early : k < x.distance x.release - n := lt
    rw [if_pos (by omega)] at found
    exact h.divided.settled (n + k) z ((kept k).symm.trans found) (by omega)
  · rw [slot k, show (x.retiring n).slots.length = x.slots.length from length] at found
    have late : x.distance x.release - n ≤ k := le
    split_ifs at found with old new
    · exact h.divided.waiting (n + k) z ((kept k).symm.trans found) (by omega)
    · cases found
      rfl

/-- The walk leaves EMPTY slots and their number. -/
theorem RxStream.walked_empty {x : RxStream} (small : x.slots.length < 4294967296) {k : Nat}
    (empty : x.slots[k]? = some .empty) : x.walked.slots[k]? = some .empty := by
  induction run : x.heldRun.length generalizing x with
  | zero =>
    have none_held : x.heldRun = [] := List.eq_nil_of_length_eq_zero run
    rw [RxStream.walked_of_not_held]
    · exact empty
    · intro y found
      by_contra held
      rw [RxStream.heldRun_of_held small found (by simpa using held)] at none_held
      cases none_held
  | succ n ih =>
    by_cases held : ∃ y, x.slots[x.distance x.release]? = some y ∧ y.isHeld = true
    · obtain ⟨y, found, held⟩ := held
      have length : x.passed.slots.length = x.slots.length := by simp [RxStream.passed, RxStream.releasedAt]
      rw [RxStream.walked_of_held small found held]
      refine ih (length ▸ small) ?_ ?_
      · show (x.slots.modify _ Slot.delivered)[k]? = _
        rw [List.getElem?_modify, empty]
        split_ifs <;> rfl
      · rw [RxStream.heldRun_of_held small found held, List.length_cons] at run
        omega
    · rw [RxStream.walked_of_not_held]
      · exact empty
      · exact fun y found => by simpa using fun on => held ⟨y, found, on⟩

/-- The stream in which an advance takes the arrival: retiring slots released, the window moved, the walk made (R119). -/
def RxStream.advanced (q : Seq) (x : RxStream) : RxStream :=
  let n := x.distance q + 1 - x.window
  if x.ordered then
    (RxStream.moveWindow q n (x.retiring n)).walked
  else x.moveWindow q n

/-- An advance up to the arrival itself (R119 steps 1 to 4). -/
def State.advanceWindow (s : State) (i : StreamId) (q : Seq) : State :=
  let x := s.rxStream i
  let n := x.distance q + 1 - x.window
  let s1 := if x.ordered then s.releaseFirst i n else s
  let s3 := (State.retire i (n - x.slots.length) ((s1.rxStream i).slots.take n) x.base 0 s1).modRx i (RxStream.moveWindow q n)
  if x.ordered then s3.releaseWalk i else s3

theorem State.advance_eq (s : State) (i : StreamId) (d : DataArrival) :
    s.advance i d = if (s.rxStream i).ordered then ((s.advanceWindow i d.copy.seq).firstArrival i d).settleHold i
      else (s.advanceWindow i d.copy.seq).firstArrival i d := rfl

theorem RxStream.moveWindow_shape (q : Seq) (n : Nat) (x : RxStream) : (x.moveWindow q n).shape = x.shape.moveWindow q n := rfl

theorem State.advanceWindow_shape {s : State} {i : StreamId} {q : Seq} (h : (s.rxStream i).Windowed)
    (synced : (s.rxStream i).synced = true) (beyond : (s.rxStream i).window ≤ (s.rxStream i).distance q)
    (near : (s.rxStream i).distance q < 2147483648) :
    ((s.advanceWindow i q).rxStream i).shape = ((s.rxStream i).advanced q).shape := by
  unfold State.advanceWindow RxStream.advanced
  dsimp only
  cases mode : (s.rxStream i).ordered with
  | false =>
    simp only [Bool.false_eq_true, if_false]
    rw [State.modRx_shape_eq _ i (by exact fun _ => rfl), State.retire_shape]
    rfl
  | true =>
    simp only [if_true]
    have moved (untracked : Nat) (l : List Slot) (p : Seq) (n : Nat) :
        (((State.retire i untracked l p 0 (s.releaseFirst i n)).modRx i (RxStream.moveWindow q n)).rxStream i).shape = _ :=
      (State.modRx_shape_eq _ i (by exact fun _ => rfl)).trans
        (congrArg (RxStream.moveWindow q n) ((State.retire_shape i untracked l p 0 _).trans (s.releaseFirst_retiring i n)))
    have divided := ((h.ready synced mode).toDivided.moveWindow rfl beyond near).tracking.length_le
    rw [State.releaseWalk_shape, RxStream.walked_shape, moved]
    · exact (RxStream.walked_shape (RxStream.moveWindow q _ (RxStream.retiring _ (s.rxStream i)))).symm
    · exact Nat.lt_of_le_of_lt (le_of_eq (congrArg (List.length ∘ RxStream.slots) (moved _ _ _ _)) |>.trans divided) (by decide)

/-- The window after an advance is in order but for the hold deadline, and the arrival's slot is EMPTY (R119). -/
theorem RxStream.Windowed.advanced {x : RxStream} (h : x.Windowed) (synced : x.synced = true) {q : Seq}
    (beyond : x.window ≤ x.distance q) (near : x.distance q < 2147483648) :
    (x.ordered = true → (x.advanced q).Resting) ∧ (x.ordered = false → (x.advanced q).Immediate)
      ∧ (x.advanced q).slots[(x.advanced q).distance q]? = some .empty := by
  have window := x.sixteen_le_window
  cases mode : x.ordered with
  | false =>
    have imm := h.immediate synced mode
    have eq : x.advanced q = x.moveWindow q (x.distance q + 1 - x.window) := by simp [RxStream.advanced, mode]
    have fits := imm.tracking.fits
    rw [eq]
    refine ⟨fun off => (nomatch off), fun _ => ⟨mode, imm.tracking.moveWindow rfl beyond near, imm.deadline, ?_⟩, ?_⟩
    · intro y member
      rcases List.mem_append.mp (show y ∈ x.slots.drop _ ++ List.replicate _ Slot.empty from member) with old | new
      · exact imm.delivered y (List.mem_of_mem_drop old)
      · rw [List.eq_of_mem_replicate new]; rfl
    · rw [RxStream.distance_moveWindow (by omega), RxStream.moveWindow_getElem?, if_neg (by omega),
        if_pos (by omega)]
  | true =>
    have ready := h.ready synced mode
    have eq : x.advanced q = (RxStream.moveWindow q (x.distance q + 1 - x.window)
        (x.retiring (x.distance q + 1 - x.window))).walked := by simp [RxStream.advanced, mode]
    have divided := ready.toDivided.moveWindow rfl beyond near
    have fits := ready.tracking.fits
    have length : (x.retiring (x.distance q + 1 - x.window)).slots.length = x.slots.length := by
      simp only [RxStream.retiring, List.length_append, List.length_map, List.length_take, List.length_drop]
      omega
    have distance : (x.retiring (x.distance q + 1 - x.window)).distance q = x.distance q := rfl
    rw [eq]
    refine ⟨fun _ => divided.walked, fun off => (nomatch off), RxStream.walked_empty ?_ ?_⟩
    · exact Nat.lt_of_le_of_lt divided.tracking.length_le (by decide)
    · have size : (x.retiring (x.distance q + 1 - x.window)).window = x.window := rfl
      show (RxStream.moveWindow q _ (x.retiring _)).slots[(RxStream.moveWindow q _ (x.retiring _)).distance q]? = _
      rw [RxStream.distance_moveWindow (by omega), RxStream.moveWindow_getElem?, length, distance, size,
        if_neg (by omega), if_pos (by omega)]

/-- An advance leaves the window in order (R119 to R121). -/
theorem State.advance_windowed {s : State} {i : StreamId} (h : (s.rxStream i).Windowed) (synced : (s.rxStream i).synced = true)
    {d : DataArrival} (beyond : (s.rxStream i).window ≤ (s.rxStream i).distance d.copy.seq)
    (near : (s.rxStream i).distance d.copy.seq < 2147483648) : ((s.advance i d).rxStream i).Windowed := by
  have shape := State.advanceWindow_shape h synced beyond near
  obtain ⟨resting, immediate, empty⟩ := h.advanced synced beyond near
  rw [State.advance_eq]
  generalize s.advanceWindow i d.copy.seq = u at shape
  have place : (u.rxStream i).slots[(u.rxStream i).distance d.copy.seq]? = some .empty := by
    have : (u.rxStream i).shape.slots[(u.rxStream i).shape.distance d.copy.seq]? = some .empty := by rw [shape]; exact empty
    exact this
  cases mode : (s.rxStream i).ordered with
  | false => exact (State.firstArrival_immediate ((immediate mode).of_shape shape) d).windowed
  | true =>
    exact (State.settleHold_ready (State.firstArrival_ready ((resting mode).of_shape shape) place).toResting).windowed

/-! ## Synchronization and resynchronization -/

theorem RxStream.synchronize_fields (x : RxStream) (q : Seq) (windowCode : x.windowCode ≤ 4) (resyncCode : x.resyncCode ≤ 12) :
    (x.synchronize q).Tracking ∧ (x.synchronize q).distance q = 0 := by
  have window := x.sixteen_le_window
  refine ⟨⟨windowCode, resyncCode, rfl, ?_, ?_⟩, ?_⟩
  · simp [RxStream.synchronize, RxStream.distance]
  · show 1 ≤ x.window
    omega
  · simp [RxStream.synchronize, RxStream.distance]

/-- A frame that synchronizes a stream leaves its window in order (R109). -/
theorem State.synchronize_windowed {s : State} {i : StreamId} (windowCode : (s.rxStream i).windowCode ≤ 4)
    (resyncCode : (s.rxStream i).resyncCode ≤ 12) (deadline : (s.rxStream i).holdDeadline = none) (d : DataArrival) :
    ((s.synchronize i d).rxStream i).Windowed := by
  obtain ⟨tracking, zero⟩ := (s.rxStream i).synchronize_fields d.copy.seq windowCode resyncCode
  unfold State.synchronize
  have stream := State.modRx_rxStream_self s i (RxStream.synchronize d.copy.seq)
  generalize s.modRx i (RxStream.synchronize d.copy.seq) = u at stream
  have none_held : ∀ y ∈ ((s.rxStream i).synchronize d.copy.seq).slots, y.isHeld = false := by
    simp [RxStream.synchronize, Slot.isHeld]
  apply State.firstArrival_windowed
  · rw [stream]
    cases mode : (s.rxStream i).ordered with
    | false => exact RxStream.Immediate.windowed ⟨mode, tracking, deadline, none_held⟩
    | true =>
      refine RxStream.Ready.windowed ⟨⟨⟨mode, tracking, ?_⟩, fun y found => ?_⟩, ?_⟩
      · show DividedAt (RxStream.distance (RxStream.synchronize d.copy.seq _) d.copy.seq) [.empty]
        rw [zero]
        refine ⟨Nat.zero_le _, fun k y _ lt => absurd lt (Nat.not_lt_zero _), fun k y found _ => ?_⟩
        rcases k with _ | k <;> cases found
        rfl
      · exact none_held y (List.mem_of_getElem? found)
      · exact ⟨fun _ => none_held, fun _ => deadline⟩
  · rw [stream]; rfl
  · rw [stream, zero]; rfl

theorem State.resync_shape (s : State) (i : StreamId) (cause : ResyncCause) (newSeq : Option Seq) :
    ((s.resync i cause newSeq).rxStream i).shape
      = RxStream.shape { s.rxStream i with slots := [], holdDeadline := none, synced := false } := by
  have released (b : Bool) : ∃ l, ((if b then s.releaseFirst i (s.rxStream i).slots.length else s).rxStream i).shape
      = { (s.rxStream i).shape with slots := l } := by
    cases b with
    | false => exact ⟨_, rfl⟩
    | true => exact ⟨_, s.releaseFirst_shape i _⟩
  obtain ⟨l, released⟩ := released (s.rxStream i).ordered
  unfold State.resync
  dsimp only
  rw [State.modRx_shape _ i (by exact fun _ => rfl), State.logWrite_rxStream,
    State.modRx_shape_eq _ i (by exact fun _ => rfl), released]
  rfl

/-- A resynchronized stream tracks nothing (R122). -/
theorem State.resync_unsynced (s : State) (i : StreamId) (cause : ResyncCause) (newSeq : Option Seq) :
    ((s.resync i cause newSeq).rxStream i).windowCode = (s.rxStream i).windowCode
      ∧ ((s.resync i cause newSeq).rxStream i).resyncCode = (s.rxStream i).resyncCode
      ∧ ((s.resync i cause newSeq).rxStream i).synced = false ∧ ((s.resync i cause newSeq).rxStream i).slots = []
      ∧ ((s.resync i cause newSeq).rxStream i).holdDeadline = none := by
  have h := s.resync_shape i cause newSeq
  have field {α : Type} (f : RxStream → α) := congrArg f h
  exact ⟨field RxStream.windowCode, field RxStream.resyncCode, field RxStream.synced, field RxStream.slots,
    field RxStream.holdDeadline⟩

theorem State.resync_windowed {s : State} {i : StreamId} (h : (s.rxStream i).Windowed) (cause : ResyncCause)
    (newSeq : Option Seq) : ((s.resync i cause newSeq).rxStream i).Windowed := by
  obtain ⟨windowCode, resyncCode, synced, slots, deadline⟩ := s.resync_unsynced i cause newSeq
  exact RxStream.windowed_of_unsynced (windowCode ▸ h.1) (resyncCode ▸ h.2.1) synced slots deadline

/-! ## A DATA frame -/

theorem RxStream.resyncDistance_le {x : RxStream} (h : x.resyncCode ≤ 12) : x.resyncDistance ≤ 1048576 := by
  have power : 2 ^ (8 + x.resyncCode) ≤ 2 ^ 20 := Nat.pow_le_pow_right (by decide) (by omega)
  unfold RxStream.resyncDistance
  omega

/-- A DATA frame leaves its stream's window in order (R108 to R123). -/
theorem State.takeData_windowed {s : State} {d : DataArrival} (h : (s.rxStream d.copy.stream).Windowed) :
    ((s.takeData d).rxStream d.copy.stream).Windowed := by
  unfold State.takeData State.mergeCopy
  dsimp only
  split_ifs with off synced behind tracked within near
  · exact h.of_shape (State.modRx_shape s _ (by exact fun _ => rfl))
  · exact h.of_shape (s.lateCopy_shape _ _)
  · exact State.takeTracked_windowed h synced d
  · have length := (h.2.2.2.1 synced).1
    apply State.firstArrival_windowed
    · rw [State.modRx_rxStream_self]
      exact h.fillTo synced (by omega) within
    · rw [State.modRx_rxStream_self]; exact synced
    · rw [State.modRx_rxStream_self]
      exact RxStream.fillTo_empty (by omega)
  · exact State.advance_windowed h synced (by omega) (by omega)
  · obtain ⟨windowCode, resyncCode, -, -, deadline⟩ := s.resync_unsynced d.copy.stream .jump (some d.copy.seq)
    exact State.synchronize_windowed (windowCode ▸ h.1) (resyncCode ▸ h.2.1) deadline d
  · exact State.synchronize_windowed h.1 h.2.1 (h.2.2.1 (by simpa using synced)).2 d

end Sys2Proof.Machine

/-! Every step on the windows of the streams (O58): the rows that touch no stream by their footprints, then those that do. -/

namespace Sys2Proof.Machine

theorem State.routed.rxStreams {s t : State} (h : s.routed t) : t.rxStreams = s.rxStreams := by
  obtain ⟨-, -, -, -, streams, -⟩ := (State.routeOnly_iff s t).1 h.1
  exact streams

theorem State.timeOnly.rxStreams {s t : State} (h : s.timeOnly t) : t.rxStreams = s.rxStreams := by rw [h.1]
theorem State.readersOnly.rxStreams {s t : State} (h : s.readersOnly t) : t.rxStreams = s.rxStreams := by
  rw [show t = _ from h]
theorem State.logOnly.rxStreams {s t : State} (h : s.logOnly t) : t.rxStreams = s.rxStreams := by rw [h.1]

namespace State

variable {s t : State}

theorem Windows.of_streams (h : s.Windows) (same : t.rxStreams = s.rxStreams) : t.Windows := fun i => by
  have stream : t.rxStream i = s.rxStream i := by simp only [State.rxStream, same]
  exact stream ▸ h i

/-- An operation on one stream that leaves its window in order. -/
theorem Windows.dataOnly {i : StreamId} (h : s.Windows) (only : State.dataOnly i s t) (own : (t.rxStream i).Windowed) :
    t.Windows := fun j => by
  by_cases same : j = i
  · exact same ▸ own
  · rw [only.2.1 j same]
    exact h j

/-! ## Route operations touch no stream -/

theorem evaluate_rxStreams (s : State) (p : Path) : (s.evaluate p).rxStreams = s.rxStreams := (s.evaluate_routed p).rxStreams

theorem recomputeDelay_rxStreams (s : State) (p : Path) : (s.recomputeDelay p).rxStreams = s.rxStreams :=
  (s.recomputeDelay_routed p).rxStreams

theorem setFar_rxStreams (s : State) (p : Path) (state : Option LocalState) (quality : Option Quality) :
    (s.setFar p state quality).rxStreams = s.rxStreams := (s.setFar_routed p state quality).rxStreams

theorem arbitrate_rxStreams (s : State) (p : Path) : (s.arbitrate p).rxStreams = s.rxStreams := (s.arbitrate_routed p).rxStreams

theorem setLocalState_rxStreams (s : State) (p : Path) (new : LocalState) (reason : Reason) :
    (s.setLocalState p new reason).rxStreams = s.rxStreams := (s.setLocalState_routed p new reason).rxStreams

theorem reEvaluate_rxStreams (s : State) : s.reEvaluate.rxStreams = s.rxStreams := s.reEvaluate_routed.rxStreams

theorem validFrame_rxStreams (s : State) (p : Path) (arrival : Nat) (state : LocalState) (quality : Quality) :
    (s.validFrame p arrival state quality).rxStreams = s.rxStreams :=
  (evaluate_rxStreams _ p).trans (setFar_rxStreams _ p _ _)

theorem enable_rxStreams (s : State) (p : Path) : (s.enable p).rxStreams = s.rxStreams :=
  (arbitrate_rxStreams _ p).trans (setLocalState_rxStreams s p _ _)

theorem disable_rxStreams (s : State) (p : Path) : (s.disable p).rxStreams = s.rxStreams :=
  (setFar_rxStreams _ p none none).trans (setLocalState_rxStreams s p _ _)

theorem applyMargin_rxStreams (s : State) (p : Path) (margin : Int) : (s.applyMargin p margin).rxStreams = s.rxStreams :=
  (evaluate_rxStreams _ p).trans (recomputeDelay_rxStreams _ p)

theorem applyMargins_rxStreams (l : List (Path × Int)) (s : State) : (s.applyMargins l).rxStreams = s.rxStreams := by
  induction l generalizing s with
  | nil => rfl
  | cons e rest ih => exact (ih _).trans (s.applyMargin_rxStreams e.1 e.2)

theorem checkError_rxStreams (s : State) (p : Path) : (s.checkError p).rxStreams = s.rxStreams := by
  unfold State.checkError
  dsimp only
  split
  · rfl
  · exact evaluate_rxStreams _ p

theorem foldl_rxStreams {β : Type} (f : State → β → State) (l : List β) (s : State)
    (keep : ∀ u b, (f u b).rxStreams = u.rxStreams) : (l.foldl f s).rxStreams = s.rxStreams :=
  foldl_keeps (fun u => u.rxStreams = s.rxStreams) f l (fun u b _ same => (keep u b).trans same) rfl

theorem dispatch_rxStreams (s : State) (i : StreamId) (origin : Tod) (mask : PathSet) (payload : List Byte) :
    (s.dispatch i origin mask payload).rxStreams = s.rxStreams := by
  refine (foldl_rxStreams _ _ _ fun u p => ?_).trans (foldl_rxStreams _ _ _ fun u p => ?_)
  · split
    · exact u.arbitrate_rxStreams p
    · rfl
  · unfold State.placeCopy
    split <;> rfl

theorem intake_rxStreams (s : State) (i : StreamId) (origin : Tod) (payload : List Byte) :
    (s.intake i origin payload).rxStreams = s.rxStreams := by
  have dropped : (Path.all.foldl (State.countTxDrop s.selector.dispatchSet) s).rxStreams = s.rxStreams :=
    foldl_rxStreams _ _ _ fun u p => by
      unfold State.countTxDrop
      split <;> rfl
  unfold State.intake
  dsimp only
  split_ifs
  · rfl
  · exact (raiseAll_logOnly _ _).rxStreams
  · exact (raiseAll_logOnly _ _).rxStreams.trans dropped
  · exact (dispatch_rxStreams _ i origin _ payload).trans dropped

theorem localFrameIntake_rxStreams (s : State) (bytes : List Byte) : (s.localFrameIntake bytes).rxStreams = s.rxStreams := by
  unfold State.localFrameIntake
  split
  · rfl
  · dsimp only
    split
    · rfl
    · split
      · rfl
      · exact intake_rxStreams _ _ _ _

theorem frameTransmitEnd_rxStreams (s : State) (p : Path) : (s.frameTransmitEnd p).rxStreams = s.rxStreams := by
  unfold State.frameTransmitEnd
  split
  · rfl
  · refine (arbitrate_rxStreams _ p).trans ?_
    show State.rxStreams (if _ then _ else _) = _
    split <;> rfl

/-! ## A frame from a path -/

theorem Windows.takeData (h : s.Windows) (d : DataArrival) : (s.takeData d).Windows :=
  h.dataOnly (s.takeData_dataOnly d) (State.takeData_windowed (h _))

theorem Windows.passOnward (h : s.Windows) (p : Path) (a : Stamp) (f : PathFrame) : (s.passOnward p a f).Windows := by
  unfold State.passOnward
  split
  · exact h.takeData _
  · exact h
  · exact h.of_streams (s.echoService_sweepOnly p _ _ _).rxStreams
  · exact h.of_streams (s.takeEcho_routed p _ _ _ _).rxStreams

theorem Windows.pathFrameEnd (h : s.Windows) (p : Path) (bytes : List Byte) : (s.pathFrameEnd p bytes).Windows := by
  have ended : (s.modReceiver p (fun r => { r with arriving := none })).Windows := h.of_streams rfl
  unfold State.pathFrameEnd State.judgeFrame State.crossedFrame
  split
  · exact h
  · dsimp only
    split
    · exact ended
    · split
      · exact ended.of_streams (checkError_rxStreams _ p)
      · split_ifs
        · exact ended.of_streams rfl
        · exact ended.of_streams rfl
        · exact Windows.passOnward (ended.of_streams (validFrame_rxStreams _ p _ _ _)) p _ _
        · exact ended.of_streams rfl

/-! ## The hold expiry, the commands of a stream and the resets -/

theorem Windows.holdExpiry (h : s.Windows) (i : StreamId) : (s.holdExpiry i).Windows := by
  have window := h i
  unfold State.holdExpiry
  rcases held : (s.rxStream i).holdDeadline with _ | deadline
  · rw [State.expireAll_of_none held]
    exact h
  · have synced : (s.rxStream i).synced = true := by
      by_contra off
      rw [(window.2.2.1 (by simpa using off)).2] at held
      cases held
    have ordered : (s.rxStream i).ordered = true := by
      by_contra off
      rw [(window.2.2.2.2.1 (by simpa using off)).1] at held
      cases held
    exact h.dataOnly (State.mergeOnly_dataOnly (s.expireAll_mergeOnly i))
      (State.expireAll_ready (window.ready synced ordered)).windowed

theorem Windows.resync (h : s.Windows) (i : StreamId) (cause : ResyncCause) (new : Option Seq) :
    (s.resync i cause new).Windows :=
  h.dataOnly (State.mergeOnly_dataOnly (s.resync_mergeOnly i cause new)) (State.resync_windowed (h i) cause new)

theorem store_windowed_of_unsynced (a : StreamArgs) {x : RxStream} (synced : x.synced = false) (slots : x.slots = [])
    (deadline : x.holdDeadline = none) : (a.store x).Windowed :=
  RxStream.windowed_of_unsynced (Nat.min_le_left _ _) (Nat.min_le_left _ _) synced slots deadline

/-- Settings that do not reshape a stream leave its window in order (R125). -/
theorem store_windowed (a : StreamArgs) {x : RxStream} (h : x.Windowed) (same : a.reshapes x = false) : (a.store x).Windowed := by
  obtain ⟨⟨-, windowCode⟩, ordered⟩ : ((a.store x).enabled = x.enabled ∧ (a.store x).windowCode = x.windowCode)
      ∧ (a.store x).ordered = x.ordered := by simpa [StreamArgs.reshapes] using same
  obtain ⟨-, -, unsynced, tracked, immediate, released⟩ := h
  have window : (a.store x).window = x.window := by unfold RxStream.window; rw [windowCode]
  refine ⟨Nat.min_le_left _ _, Nat.min_le_left _ _, unsynced, ?_, ?_, ?_⟩
  · rw [window]; exact tracked
  · rw [ordered]; exact immediate
  · rw [ordered]; exact released

theorem Windows.setStream (h : s.Windows) {a : StreamArgs} (ok : s.setStream a = .ok t) : t.Windows := by
  unfold State.setStream at ok
  split at ok
  · cases ok
  · rename_i i _
    split_ifs at ok with codes reshapes <;> cases ok
    · refine Windows.of_streams (s := (s.resync i .config none).modRx i a.store) ?_ rfl
      obtain ⟨-, -, synced, slots, deadline⟩ := s.resync_unsynced i .config none
      refine (h.resync i .config none).dataOnly (State.mergeOnly_dataOnly (State.modRx_mergeOnly _ i _)) ?_
      rw [State.modRx_rxStream_self]
      exact store_windowed_of_unsynced a synced slots deadline
    · refine Windows.of_streams (s := s.modRx i a.store) ?_ rfl
      refine h.dataOnly (State.mergeOnly_dataOnly (State.modRx_mergeOnly _ i _)) ?_
      rw [State.modRx_rxStream_self]
      exact store_windowed a (h i) (by simpa using reshapes)

theorem windows_of_reset (same : s.rxStreams = Vector.replicate 8 RxStream.reset) : s.Windows := fun i => by
  have stream : s.rxStream i = RxStream.reset := by simp [State.rxStream, same]
  rw [stream]
  exact RxStream.windowed_of_unsynced (by decide) (by decide) rfl rfl rfl

theorem softReset_windows (s : State) : s.softReset.Windows :=
  windows_of_reset (State.resetLog_logOnly _).rxStreams

/-! ## Every input -/

theorem Windows.occurs (h : s.Windows) (run : s.Occurs t) : t.Windows := by
  cases run with
  | nothing => exact h
  | softResetPeriodEnd => unfold State.softResetPeriodEnd; split <;> exact h
  | pathFrameStart => exact h
  | pathFrameEnd p bytes => exact h.pathFrameEnd p bytes
  | silenceExpiry p =>
    unfold State.silenceExpiry
    split
    · exact h.of_streams ((evaluate_rxStreams _ p).trans (setFar_rxStreams _ p none none))
    · exact h
  | windowEnd p =>
    unfold State.windowEnd
    split
    · exact h.of_streams (evaluate_rxStreams _ p)
    · exact h
  | recoverHoldExpiry p =>
    unfold State.recoverHoldExpiry
    split
    · exact h.of_streams (evaluate_rxStreams _ p)
    · exact h
  | reportExpiry p => unfold State.reportExpiry; split <;> exact h
  | scoreDecay p => exact h.of_streams (s.scoreDecay_routed p).rxStreams
  | guardExpiry =>
    unfold State.guardExpiry
    split
    · exact h.of_streams (reEvaluate_rxStreams _)
    · exact h
  | frameTransmitEnd p => exact h.of_streams (s.frameTransmitEnd_rxStreams p)
  | beaconWaitEnd p => exact h.of_streams (s.beaconWaitEnd_sweepOnly p).rxStreams
  | localFrameStart => exact h
  | localFrameIntake bytes => exact h.of_streams (s.localFrameIntake_rxStreams bytes)
  | localTransmitEnd => unfold State.localTransmitEnd; split <;> exact h
  | holdExpiry i => exact h.holdExpiry i
  | probeIssue => exact h.of_streams s.probeIssue_routed.rxStreams
  | probeTimeout => exact h.of_streams s.probeTimeout_routed.rxStreams
  | settleDeadline =>
    unfold State.settleDeadline
    split
    · exact h.of_streams s.resume_routed.rxStreams
    · exact h
  | refPulse r dir => exact h.of_streams (s.refPulse_timeOnly r dir).rxStreams
  | refTimeout r => exact h.of_streams (s.refTimeout_timeOnly r).rxStreams
  | markEdge m dir => exact h.of_streams (s.markEdge_timeOnly m dir).rxStreams
  | markerMatch o => exact h.of_streams (s.markerMatch_timeOnly o).rxStreams
  | markerPulseEnd o => exact h.of_streams (s.markerPulseEnd_timeOnly o).rxStreams
  | logHeadDone port => exact h.of_streams (s.logHeadDone_readersOnly port).rxStreams
  | logImageDone port => exact h.of_streams (s.logImageDone_readersOnly port).rxStreams
  | emptyImageDone port => exact h.of_streams (s.emptyImageDone_readersOnly port).rxStreams
  | attentionDone => exact h
  | interruptedRise port => exact h.of_streams (s.interruptedRise_readersOnly port).rxStreams

theorem Windows.happens (h : s.Windows) (run : s.Happens t) : t.Windows := by
  cases run with
  | pinReset site r0 r1 r2 => exact windows_of_reset rfl
  | occurs run => exact h.occurs run

theorem Windows.takes {role : Role} {port : Port} (h : s.Windows) (run : s.Takes role port t) : t.Windows := by
  cases run with
  | nothing => exact h
  | softReset => exact s.softReset_windows
  | attentionMask => exact h
  | enablePath _ _ ok =>
    unfold State.enablePath at ok
    split at ok
    · cases ok
    · split_ifs at ok <;> cases ok
      · exact h.of_streams (s.enable_rxStreams _)
      · exact h
  | disablePath _ _ ok =>
    unfold State.disablePath at ok
    split at ok
    · cases ok
    · split_ifs at ok <;> cases ok
      · exact h
      · exact h.of_streams (s.disable_rxStreams _)
  | setPathTimers _ _ ok =>
    unfold State.setPathTimers at ok
    split at ok
    · cases ok
    · split_ifs at ok
      cases ok
      exact h.of_streams (evaluate_rxStreams _ _)
  | setThresholds _ _ ok =>
    unfold State.setThresholds at ok
    split at ok
    · split_ifs at ok <;> cases ok
      · exact h.of_streams ((evaluate_rxStreams _ _).trans (recomputeDelay_rxStreams _ _))
      · exact h
    · cases ok
  | selectBank _ _ ok =>
    unfold State.selectBank at ok
    split at ok
    · split_ifs at ok <;> cases ok
      · exact h
      · exact h.of_streams ((evaluate_rxStreams _ _).trans (recomputeDelay_rxStreams _ _))
    · cases ok
  | setBaseDelay _ _ ok =>
    unfold State.setBaseDelay at ok
    split at ok
    · cases ok
    · split_ifs at ok
      cases ok
      exact h.of_streams (recomputeDelay_rxStreams _ _)
  | setSmoothing _ _ ok =>
    unfold State.setSmoothing at ok
    split at ok
    · cases ok
    · split_ifs at ok
      cases ok
      exact h.of_streams (recomputeDelay_rxStreams _ _)
  | postMargin _ _ ok =>
    unfold State.postMargin at ok
    split at ok <;> cases ok
    exact h.of_streams (applyMargins_rxStreams _ s)
  | lockPath _ ok => unfold State.lockPath at ok; split at ok <;> cases ok; exact h
  | lockAll => exact h.of_streams (foldl_rxStreams _ _ _ fun _ _ => rfl)
  | clearPathStats _ ok =>
    unfold State.clearPathStats at ok
    split_ifs at ok
    · cases ok
      exact h.of_streams (foldl_rxStreams _ _ _ fun _ _ => rfl)
    · split at ok <;> cases ok
      exact h
  | setPeerSite _ ok => unfold State.setPeerSite at ok; split_ifs at ok <;> cases ok <;> exact h
  | setSelection _ _ ok =>
    unfold State.setSelection at ok
    split at ok
    · cases ok
    · split_ifs at ok
      cases ok
      exact h.of_streams (reEvaluate_rxStreams _)
  | pinPrimary _ ok =>
    unfold State.pinPrimary at ok
    split at ok <;> cases ok
    exact h.of_streams (reEvaluate_rxStreams _)
  | unpinPrimary =>
    unfold State.unpinPrimary
    split
    · exact h.of_streams (reEvaluate_rxStreams _)
    · exact h
  | setStream _ _ ok => exact h.setStream ok
  | resyncStream _ ok =>
    unfold State.resyncStream at ok
    split at ok <;> cases ok
    exact h.resync _ _ _
  | setTxSequence _ ok => unfold State.setTxSequence at ok; split at ok <;> cases ok; exact h
  | setTime _ ok => exact h.of_streams (State.setTime_timeOnly ok).rxStreams
  | stepTime _ ok => exact h.of_streams (State.stepTime_timeOnly ok).rxStreams
  | setFrequency _ ok => exact h.of_streams (State.setFrequency_timeOnly ok).rxStreams
  | setDiscipline _ _ ok => exact h.of_streams (State.setDiscipline_timeOnly ok).rxStreams
  | setCapture ok => exact h.of_streams (State.setCapture_timeOnly ok).rxStreams
  | readCapture => exact h
  | setMarker _ ok => exact h.of_streams (State.setMarker_timeOnly ok).rxStreams
  | startSweep _ _ ok => exact h.of_streams (State.startSweep_sweepOnly ok).rxStreams
  | suspendSweep => exact h.of_streams s.suspendSweep_sweepOnly.rxStreams
  | resumeSweep =>
    unfold State.resumeSweep
    split
    · exact h.of_streams s.resume_routed.rxStreams
    · exact h
  | cancelSweep => exact h.of_streams s.cancelSweep_sweepOnly.rxStreams
  | setLogFilter _ ok => exact h.of_streams (State.setLogFilter_readersOnly ok).rxStreams
  | seekLog ok => exact h.of_streams (State.seekLog_readersOnly ok).rxStreams
  | setLink _ ok =>
    unfold State.setLink at ok
    split_ifs at ok
    cases ok
    exact h.of_streams (foldl_rxStreams _ _ _ fun u p => (u.beaconWaitEnd_sweepOnly p).rxStreams)

end State

/-- Settles O58: a tick, every row and every command keep the windows in order. -/
theorem windowsKept : Obligations.WindowsKept := by
  have kept : State.Kept State.Windows :=
    { pending := fun _ _ h => h
      advance := fun _ h => h
      happens := fun _ _ run h => h.happens run
      takes := fun _ _ _ _ run h => h.takes run
      port := fun _ _ _ _ h => h }
  exact fun _ _ windows run => kept.step windows run

end Sys2Proof.Machine

/-! The step, the clock and the reads of the port itself: what a step runs (O1, O4), what an idle step does (O2, O3), and the
rows of the soft reset period and of the port's identity (O9, O19). -/

namespace Sys2Proof.Machine

/-! ## A step -/

/-- Settles O1: by the definition of a step. -/
theorem stepRunsFrontInput : Obligations.StepRunsFrontInput := fun _ _ _ => rfl

/-- Settles O4: the meaning of every row is a next state. -/
theorem noInputStops : Obligations.NoInputStops := by
  intro i s
  cases i <;> exact ⟨_, rfl⟩

theorem step_idle {s : State} (idle : s.pending = []) : step s = .next s.tick := by
  unfold step
  rw [idle]

/-- Settles O2: the quotient and the remainder of the accumulated rate are the advance of TOD and its new remainder. -/
theorem idleStepAdvancesClock : Obligations.IdleStepAdvancesClock := by
  intro s idle
  let total := s.time.rem + (1000000000 + s.time.rate).toNat
  refine ⟨s.tick, total / billion, step_idle idle, rfl, ?_, ?_, rfl, rfl⟩
  · show total = total / billion * 1000000000 + total % billion
    exact (Nat.div_add_mod' total billion).symm
  · exact Nat.mod_lt total (by decide)

/-! ## The inputs a deadline makes -/

theorem mem_whenDue {due : Bool} {i : Instr} (h : due = true) : i ∈ whenDue due i := by
  simp [whenDue, h]

theorem State.reached_some {s : State} {d : Nat} (h : d ≤ s.time.mono) : s.reached (some d) = true := by
  simpa [State.reached] using h

theorem State.reached_later {s : State} {d : Nat} (h : s.mono < d) : s.reached (some d) = false :=
  decide_eq_false (Nat.not_le.mpr h)

theorem State.reached_none (s : State) : s.reached none = false := rfl

section Due

variable {u : State}

theorem State.due_softReset (h : u.reached u.resetting = true) : Instr.softResetPeriodEnd ∈ u.dueInputs := by
  simp [State.dueInputs, mem_whenDue h]

theorem State.due_path {p : Path} {i : Instr} (h : i ∈ u.pathDue p) : i ∈ u.dueInputs := by
  have mem : i ∈ Path.all.flatMap u.pathDue := List.mem_flatMap.mpr ⟨p, Path.mem_all p, h⟩
  simp only [State.dueInputs, List.mem_append, mem, or_true, true_or]

theorem State.due_guard (h : u.reached (u.selector.guard.map Guard.deadline) = true) : Instr.guardExpiry ∈ u.dueInputs := by
  simp only [State.dueInputs, List.mem_append, mem_whenDue h, or_true, true_or]

theorem State.due_hold {i : StreamId} (h : u.streamHoldDue i = true) : Instr.holdExpiry i ∈ u.dueInputs := by
  have mem : Instr.holdExpiry i ∈ (List.finRange 8).flatMap (fun i => whenDue (u.streamHoldDue i) (.holdExpiry i)) :=
    List.mem_flatMap.mpr ⟨i, List.mem_finRange i, mem_whenDue h⟩
  simp only [State.dueInputs, List.mem_append, mem, or_true, true_or]

theorem State.due_probeIssue (h : u.probeIssueDue = true) : Instr.probeIssue ∈ u.dueInputs := by
  simp only [State.dueInputs, List.mem_append, mem_whenDue h, or_true, true_or]

theorem State.due_probeTimeout (h : u.probeTimeoutDue = true) : Instr.probeTimeout ∈ u.dueInputs := by
  simp only [State.dueInputs, List.mem_append, mem_whenDue h, or_true, true_or]

theorem State.due_settle (h : u.settleDue = true) : Instr.settleDeadline ∈ u.dueInputs := by
  simp only [State.dueInputs, List.mem_append, mem_whenDue h, or_true, true_or]

theorem State.due_ref {r : Ref} (h : u.refTimeoutDue r = true) : Instr.refTimeout r ∈ u.dueInputs := by
  have mem : Instr.refTimeout r ∈ [Ref.ref0, Ref.ref1].flatMap (fun r => whenDue (u.refTimeoutDue r) (.refTimeout r)) :=
    List.mem_flatMap.mpr ⟨r, by cases r <;> simp, mem_whenDue h⟩
  simp only [State.dueInputs, List.mem_append, mem, or_true, true_or]

theorem State.due_match {o : Out} (h : u.time.matchDue o = true) : Instr.markerMatch o ∈ u.dueInputs := by
  have mem : Instr.markerMatch o ∈ [Out.out0, Out.out1].flatMap (fun o => whenDue (u.time.matchDue o) (.markerMatch o)) :=
    List.mem_flatMap.mpr ⟨o, by cases o <;> simp, mem_whenDue h⟩
  simp only [State.dueInputs, List.mem_append, mem, or_true, true_or]

theorem State.due_pulseEnd {o : Out} (h : u.reached (u.marker o).pulseEnd = true) : Instr.markerPulseEnd o ∈ u.dueInputs := by
  have mem : Instr.markerPulseEnd o
      ∈ [Out.out0, Out.out1].flatMap (fun o => whenDue (u.reached (u.marker o).pulseEnd) (.markerPulseEnd o)) :=
    List.mem_flatMap.mpr ⟨o, by cases o <;> simp, mem_whenDue h⟩
  simp only [State.dueInputs, List.mem_append, mem, or_true]

end Due

/-- Settles O3: each deadline reached at the new MONO is due in the state the tick makes. -/
theorem reachedDeadlinesQueueInputs : Obligations.ReachedDeadlinesQueueInputs := by
  intro s idle
  let u := s.modTime TimeUnit.advance
  have queued {i : Instr} (h : i ∈ u.dueInputs) : i ∈ s.tick.pending := List.mem_append_right _ h
  have onPath (p : Path) {i : Instr} (h : i ∈ u.pathDue p) : i ∈ s.tick.pending := queued (State.due_path h)
  have reached {deadline : Option Nat} {d : Nat} (found : deadline = some d) (le : d ≤ s.mono + 1) :
      u.reached deadline = true := found ▸ State.reached_some le
  refine ⟨s.tick, step_idle idle, fun d h le => queued (State.due_softReset (reached h le)), fun p d h le => onPath p ?_,
    fun p w h le => onPath p ?_, fun p d recovering h le => onPath p ?_, fun p d h le => onPath p ?_, fun p le => onPath p ?_,
    fun p since h le => onPath p ?_, fun g h le => queued (State.due_guard ?_),
    fun i d h le => queued (State.due_hold (reached h le)), fun o h le => queued (State.due_probeTimeout ?_),
    fun o d h le => queued (State.due_pulseEnd (reached h le)),
    fun p running current nonePending noneOutstanding left spacing => queued (State.due_probeIssue ?_),
    fun d suspended fallback h le => queued (State.due_settle ?_), fun r l run h le => queued (State.due_ref ?_),
    fun o armed since => queued (State.due_match ?_)⟩
  · have due : u.silenceDue p = true := by
      show (match (s.receiver p).silence with | .running d => decide (d ≤ u.time.mono) | _ => false) = true
      rw [h]
      exact decide_eq_true le
    simp only [State.pathDue, List.mem_append, mem_whenDue due, true_or]
  · have due : u.windowDue p = true := reached (congrArg (Option.map ErrorWindow.endAt) h) le
    simp only [State.pathDue, List.mem_append, mem_whenDue due, or_true, true_or]
  · have due : u.holdDue p = true := by
      show ((s.entry p).state == .recovering && u.reached (s.entry p).holdDeadline) = true
      rw [recovering, reached h le]
      rfl
    simp only [State.pathDue, List.mem_append, mem_whenDue due, or_true, true_or]
  · have due : u.reportDue p = true := reached h le
    simp only [State.pathDue, List.mem_append, mem_whenDue due, or_true, true_or]
  · have due : u.decayDue p = true := reached rfl le
    simp only [State.pathDue, List.mem_append, mem_whenDue due, or_true, true_or]
  · have due : u.beaconDue p = true := by
      show (match (s.transmitter p).beacon with
        | .running since => decide (since + usToNs s.beaconInterval ≤ u.time.mono) | _ => false) = true
      rw [h]
      exact decide_eq_true le
    simp only [State.pathDue, List.mem_append, mem_whenDue due, or_true]
  · exact reached (congrArg (Option.map Guard.deadline) h) le
  · exact reached (congrArg (Option.map Outstanding.deadline) h) le
  · have spaced : u.spacingReached = true := by
      show (match s.sounding.lastT1 with | none => true | some t1 => decide (t1 + usToNs s.sounding.spacing ≤ u.time.mono)) = true
      cases last : s.sounding.lastT1 with
      | none => rfl
      | some t1 => exact decide_eq_true (spacing t1 last)
    have burst : u.sounding = s.sounding := rfl
    simp [State.probeIssueDue, burst, running, current, nonePending, noneOutstanding, spaced, Sounding.burstLength, left]
  · have due : u.reached s.sounding.settleDeadline = true := reached h le
    have sweep : u.sounding = s.sounding := rfl
    simp [State.settleDue, sweep, suspended, fallback, due]
  · have due : u.reached ((s.ref r).lastPulse.map (· + 1500000000)) = true :=
      reached (congrArg (Option.map (· + 1500000000)) h) le
    have same : u.ref r = s.ref r := rfl
    simp [State.refTimeoutDue, same, run, due]
  · have markers : u.time.markers[o.idx] = s.marker o := rfl
    simp only [TimeUnit.matchDue, markers, armed, Bool.true_and]
    exact decide_eq_true since

/-! ## The port's identity and status -/

/-- Updates of one port that agree on its context as it stands are the same. -/
theorem State.modPort_congr {s : State} {port : Port} {f g : PortCtx → PortCtx} (same : f (s.port port) = g (s.port port)) :
    s.modPort port f = s.modPort port g := by
  unfold State.modPort
  rw [same]

theorem exec_readId (port : Port) (s : State) : exec (.readId port) s = .next (s.modPort port (fun c =>
    { c with
      lastResult := .ok, statusOut := s.statusByte port, reading := some .plain
      response := (s.beginTransaction port).idBytes port })) := by
  simp only [exec, execReadId, State.plainRead, State.concludeRead, State.beginTransaction, State.modPort_modPort]

theorem exec_readStatus {s : State} (ready : s.resetting = none) (port : Port) :
    exec (.readStatus port) s = .next (s.modPort port (fun c =>
      { c with
        lastResult := .ok, statusOut := s.statusByte port, reading := some .plain
        response := (s.beginTransaction port).statusBytes port })) :=
  congrArg Host.Outcome.next (State.readCommand_plain _ _ _ _ _ _ ready rfl rfl)

theorem bit01_output (c : PortCtx) : bit01 c.output = if c.pending &&& c.mask = 0 then 0 else 1 := by
  simp [bit01, PortCtx.output]

theorem bit01_isActive (x : Sounding) : bit01 x.isActive = if x.state = .idle then 0 else 1 := by
  simp [bit01, Sounding.isActive]

/-- Settles O9: READ ID is not checked for BUSY, and READ STATUS forms its bytes before the result is set. -/
theorem identityAndStatusRead : Obligations.IdentityAndStatusRead := by
  refine ⟨fun s port => ?_, fun s port ready => ?_⟩
  · rw [exec_readId]
    refine congrArg Host.Outcome.next (State.modPort_congr ?_)
    simp only [State.idBytes, State.beginTransaction_port, Role.code]
    rfl
  · rw [exec_readStatus ready]
    refine congrArg Host.Outcome.next (State.modPort_congr ?_)
    have idle : (s.beginTransaction port).resetting = none := ready
    have sweep : (s.beginTransaction port).sounding = s.sounding := rfl
    have output : PortCtx.output { s.port port with statusOut := s.statusByte port, reading := none, response := [] }
      = (s.port port).output := rfl
    simp only [State.statusBytes, State.beginTransaction_port, idle, sweep, flag, byte, output, bit01_output, bit01_isActive]
    congr 1
    split <;> split <;> rfl

/-! ## The soft reset period -/

theorem State.interruptedRise_dataOut (s : State) (port : Port) : ((s.interruptedRise port).port port).dataOut = none := by
  rcases s.interruptedRise_cases port with ⟨idle, h⟩ | ⟨-, h⟩ | ⟨-, -, h⟩ <;> rw [h]
  · simp [PortCtx.dataOut, PortCtx.selected, idle]
  · simp [PortCtx.dataOut, PortCtx.selected]
  · simp [PortCtx.dataOut, PortCtx.selected]

theorem State.discarded {s : State} {discard : Bool} (h : discard = true ∨ s.resetting ≠ none) :
    (discard || s.resetting.isSome) = true := by
  rcases h with h | h
  · simp [h]
  · simp [Option.isSome_iff_ne_none.mpr h]

/-- Settles O19: each row's guard decides it. -/
theorem softResetPeriodEnds : Obligations.SoftResetPeriodEnds := by
  refine ⟨fun s => ⟨fun d h le => ?_, fun d h lt => ?_, fun h => ?_⟩, fun s port => ⟨fun h => ?_, fun h => ?_, fun h h' => ?_,
    _, rfl, s.interruptedRise_dataOut port⟩, fun s p bytes a h gone => ?_, fun s bytes a h gone => ?_⟩
  · exact congrArg Host.Outcome.next (if_pos (by rw [h]; exact State.reached_some le))
  · exact congrArg Host.Outcome.next (if_neg (by simp [h, State.reached_later lt]))
  · exact congrArg Host.Outcome.next (if_neg (by simp [h, State.reached_none]))
  · rcases s.interruptedRise_cases port with ⟨idle, -⟩ | ⟨-, rise⟩ | ⟨-, other, -⟩
    · simp [h] at idle
    · exact congrArg Host.Outcome.next rise
    · exact absurd h other
  · rcases s.interruptedRise_cases port with ⟨-, rise⟩ | ⟨cut, -⟩ | ⟨read, -, -⟩
    · exact congrArg Host.Outcome.next rise
    · simp [h] at cut
    · exact absurd h read
  · rcases s.interruptedRise_cases port with ⟨idle, -⟩ | ⟨cut, -⟩ | ⟨-, -, rise⟩
    · exact absurd idle h
    · exact absurd cut h'
    · exact congrArg Host.Outcome.next rise
  · show Host.Outcome.next (s.pathFrameEnd p bytes) = _
    simp only [State.pathFrameEnd, h, State.discarded gone, if_true]
  · show Host.Outcome.next (s.localFrameIntake bytes) = _
    simp only [State.localFrameIntake, h, State.discarded gone, if_true, State.modLocal]

end Sys2Proof.Machine

/-! The actions of the blocks with their refusals taken off: what a taken command does (`State.Acts`), with the ranges that its
bytes and its checks give its values, so that no later proof opens a command's checks again. -/

namespace Sys2Proof.Machine

/-! ## Values of a few bytes -/

theorem leNat_pair_le (a b : Byte) : leNat [a, b] ≤ 65535 := by
  simp only [leNat]
  omega

theorem leNat_quad_le (a b c d : Byte) : leNat [a, b, c, d] ≤ max32 := by
  simp only [leNat, max32]
  omega

theorem byte_toInt_range (b : Byte) : -128 ≤ b.toInt ∧ b.toInt ≤ 127 := by
  have low := BitVec.le_toInt b
  have high := BitVec.toInt_lt (x := b)
  norm_num at low high
  omega

/-- What a batch asks for names radio paths and margins of one signed byte (R47, R162). -/
def MarginRequests (l : List (Path × Int)) : Prop := ∀ e ∈ l, e.1 ≠ .f ∧ -128 ≤ e.2 ∧ e.2 ≤ 127

theorem radioPath_ne_f {index : Nat} {p : Path} (named : radioPath index = some p) : p ≠ .f := by
  unfold radioPath at named
  simpa using (Option.filter_eq_some_iff.mp named).2

theorem marginEntries_range : ∀ {args : List Byte} {l : List MarginEntry}, marginEntries args = some l →
    ∀ e ∈ l, -128 ≤ e.margin ∧ e.margin ≤ 127
  | [], l, framed => by cases framed; simp
  | [_], l, framed => by cases framed
  | p :: m :: rest, l, framed => by
    obtain ⟨tail, whole, rfl⟩ := Option.map_eq_some_iff.mp framed
    intro e listed
    rcases List.mem_cons.mp listed with rfl | listed
    · exact byte_toInt_range m
    · exact marginEntries_range whole e listed

theorem postMarginArgs_range {args : List Byte} {l : List MarginEntry} (framed : postMarginArgs args = some l) :
    ∀ e ∈ l, -128 ≤ e.margin ∧ e.margin ≤ 127 := by
  unfold postMarginArgs at framed
  split at framed
  · rename_i whole
    cases framed
    exact fun e listed => marginEntries_range whole e (List.mem_of_mem_drop listed)
  · cases framed

theorem resolveEntries_requests : ∀ {entries : List MarginEntry} {l : List (Path × Int)}, resolveEntries entries = some l →
    (∀ e ∈ entries, -128 ≤ e.margin ∧ e.margin ≤ 127) → MarginRequests l
  | [], l, resolved, _ => by cases resolved; intro e listed; cases listed
  | e :: rest, l, resolved, range => by
    unfold resolveEntries at resolved
    split at resolved
    · rename_i p tail named others
      cases resolved
      intro x listed
      rcases List.mem_cons.mp listed with rfl | listed
      · exact ⟨radioPath_ne_f named, range e (by simp)⟩
      · exact resolveEntries_requests others (fun y hy => range y (by simp [hy])) x listed
    · cases resolved

/-! ## What the values of a command are within -/

/-- The values of a taken SET PATH TIMERS (R51). -/
def PathTimersArgs.InRange (a : PathTimersArgs) : Prop :=
  100 ≤ a.silence ∧ a.silence ≤ 100000 ∧ 1 ≤ a.window ∧ a.window ≤ 65535 ∧ 1 ≤ a.limit ∧ a.limit ≤ 65535
    ∧ a.hold ≤ 65535 ∧ 100 ≤ a.report ∧ a.report ≤ 60000

/-- The values of a taken SET SMOOTHING (R52). -/
def SmoothingArgs.InRange (a : SmoothingArgs) : Prop :=
  a.weight ≤ 7 ∧ a.lossWeight ≤ 255 ∧ 1 ≤ a.interval ∧ a.interval ≤ 65535

/-- The values of a taken SET SELECTION (R87). -/
def SelectionArgs.InRange (a : SelectionArgs) : Prop := a.hysteresis ≤ 65535 ∧ a.widthCode ≤ 4 ∧ a.guardTime ≤ 65535

/-- The values of a taken SET DISCIPLINE (R25). -/
def DisciplineArgs.InRange (a : DisciplineArgs) : Prop :=
  1000 ≤ a.ts ∧ a.ts ≤ 1000000 ∧ 1 ≤ a.tl ∧ a.tl ≤ 65535 ∧ a.ki ≤ 15

/-- The values of a taken START SWEEP (R144). -/
def SweepArgs.InRange (a : SweepArgs) : Prop :=
  0 < a.pathSet ∧ a.pathSet < 32 ∧ a.countCode ≤ 15 ∧ 10 ≤ a.spacing ∧ a.spacing ≤ 65535 ∧ a.timeout ≤ 65535
    ∧ a.settle ≤ 65535

/-- The sweep as START SWEEP leaves it before the first turn (R144). -/
def SweepArgs.start (a : SweepArgs) (x : Sounding) : Sounding :=
  { x with
    state := .running, reason := none, settleDeadline := none, tag := x.tag + 1
    pathSet := BitVec.ofNat 5 a.pathSet, remaining := BitVec.ofNat 5 a.pathSet, countCode := a.countCode
    spacing := a.spacing, timeout := max 1 a.timeout, settle := a.settle, minimum := none, valid := 0, lost := 0 }

/-- The timers of an entry after SET PATH TIMERS (R51). -/
def PathTimersArgs.store (a : PathTimersArgs) (e : PathEntry) : PathEntry :=
  { e with
    silenceTimeout := a.silence, windowLength := a.window, errorLimit := a.limit, recoverHold := a.hold
    reportTimeout := a.report }

/-- The smoothing settings of an entry after SET SMOOTHING (R52). -/
def SmoothingArgs.store (a : SmoothingArgs) (e : PathEntry) : PathEntry :=
  { e with weight := a.weight, lossWeight := a.lossWeight, decayInterval := a.interval }

/-- The selection parameters after SET SELECTION (R87). -/
def SelectionArgs.store (a : SelectionArgs) (shadow : Bool) (x : Selector) : Selector :=
  { x with hysteresis := a.hysteresis, widthCode := a.widthCode, shadow := shadow, guardTime := a.guardTime }

/-- The Time Unit after SET DISCIPLINE (R25). -/
def DisciplineArgs.store (a : DisciplineArgs) (on : Bool) (t : TimeUnit) : TimeUnit :=
  { t.switchDiscipline on with ts := a.ts, tl := a.tl, ki := a.ki }

/-- `s.Acts role port t`: a command that is taken in full makes `t` of `s`, by the rule of its block. -/
inductive State.Acts (s : State) (role : Role) (port : Port) : State → Prop
  | nothing : s.Acts role port s
  | softReset (right : role = .operator) : s.Acts role port s.softReset
  | attentionMask (mask : AttnSet) : s.Acts role port (s.modPort port (fun c => { c with mask := mask }))
  | enable (p : Path) (right : role.supervises = true) (unlocked : s.lockBinds role p = false)
      (out : (s.entry p).state = .disabled) : s.Acts role port (s.enable p)
  | disable (p : Path) (right : role.supervises = true) (unlocked : s.lockBinds role p = false)
      (inService : (s.entry p).state ≠ .disabled) : s.Acts role port (s.disable p)
  | timers (p : Path) (a : PathTimersArgs) (right : role = .operator) (range : a.InRange) :
      s.Acts role port ((s.modEntry p a.store).evaluate p)
  | idleBank (p : Path) (bankOne : Bool) (b : Bank) (right : role = .operator) (range : b.bounded)
      (idle : (s.entry p).bankOne ≠ bankOne) : s.Acts role port (s.modEntry p (fun e => e.setBank bankOne b))
  | activeBank (p : Path) (bankOne : Bool) (b : Bank) (right : role = .operator) (range : b.bounded)
      (active : (s.entry p).bankOne = bankOne) :
      s.Acts role port (((s.modEntry p (fun e => e.setBank bankOne b)).recomputeDelay p).evaluate p)
  | selectBank (p : Path) (bankOne : Bool) (right : role.supervises = true) (unlocked : s.lockBinds role p = false) :
      s.Acts role port (((s.modEntry p (fun e => { e with bankOne := bankOne })).recomputeDelay p).evaluate p)
  | baseDelay (p : Path) (delay : Nat) (right : role = .operator) (range : delay ≤ maxDelay) :
      s.Acts role port ((s.modEntry p (fun e => { e with delay := some delay })).recomputeDelay p)
  | smoothing (p : Path) (a : SmoothingArgs) (right : role = .operator) (range : a.InRange) :
      s.Acts role port ((s.modEntry p a.store).recomputeDelay p)
  | margins (l : List (Path × Int)) (right : role.supervises = true) (range : MarginRequests l) :
      s.Acts role port (s.applyMargins l)
  | lock (p : Path) (locked : Bool) (right : role = .operator) : s.Acts role port (s.setLock p locked)
  | lockAll (locked : Bool) (right : role = .operator) : s.Acts role port (s.lockAll locked)
  | clearStats (p : Path) (right : role.supervises = true) : s.Acts role port (s.clearStats p)
  | clearAllStats (right : role.supervises = true) : s.Acts role port (Path.all.foldl State.clearStats s)
  | peerSite (site : Option (BitVec 4)) (right : role = .operator) : s.Acts role port { s with peerSite := site }
  | selection (a : SelectionArgs) (shadow : Bool) (right : role = .operator) (range : a.InRange) :
      s.Acts role port (s.modSelector (a.store shadow)).reEvaluate
  | pin (pin : Option Path) (right : role = .operator) :
      s.Acts role port (s.modSelector (fun x => { x with pin := pin })).reEvaluate
  | stream (i : StreamId) (a : StreamArgs) (right : role.gates = true) (range : a.holdTime ≤ 65535)
      (same : a.reshapes (s.rxStream i) = false) :
      s.Acts role port ((s.modRx i a.store).modTx i (fun t => { t with enabled := a.txEnable == 1 }))
  | reshape (i : StreamId) (a : StreamArgs) (right : role.gates = true) (range : a.holdTime ≤ 65535) :
      s.Acts role port (((s.resync i .config none).modRx i a.store).modTx i (fun t => { t with enabled := a.txEnable == 1 }))
  | resync (i : StreamId) (right : role.gates = true) : s.Acts role port (s.resync i .command none)
  | txSequence (i : StreamId) (seq : Seq) (right : role.gates = true) :
      s.Acts role port (s.modTx i (fun t => { t with next := seq }))
  | loadTime (tod : Tod) (right : role = .operator) (range : tod.ns < 1000000000) :
      s.Acts role port ((s.modTime (fun t => t.load tod)).noteStep s.time.quality (satOffset (todDiff tod s.time.tod)) 0)
  | stepTime (offset : Int) (right : role = .operator) :
      s.Acts role port ((s.modTime (fun t => if t.discipline then (t.shift offset).relock else t.shift offset)).noteStep
        s.time.quality offset 0)
  | frequency (ppb : Int) (right : role = .operator) : s.Acts role port (s.modTime (fun t => { t with f := clampRate ppb }))
  | discipline (on : Bool) (a : DisciplineArgs) (right : role = .operator) (range : a.InRange) :
      s.Acts role port ((s.modTime (a.store on)).noteQuality s.time.quality 0)
  | capture (c : Channel) (edge : EdgeSetting) (source : Source) (log : Bool) (right : role.mayCapture c = true) :
      s.Acts role port (s.storeCapture c edge source log)
  | readCapture (c : Channel) (right : role.readsCapture = true) :
      s.Acts role port (s.modTime (fun t => t.modChannel c CaptureState.pop))
  | marker (o : Out) (action : MarkerAction) (a : MarkerArgs) (right : role.gates = true) :
      s.Acts role port (s.modTime (fun t => t.modMarker o (fun _ => Marker.settle t.mono t.tod (a.program action))))
  | startSweep (a : SweepArgs) (right : role.supervises = true) (range : a.InRange) (idle : s.sounding.state = .idle) :
      s.Acts role port ((s.modSounding a.start).pathTurn turnFuel)
  | suspendSweep (right : role.supervises = true) : s.Acts role port s.suspendSweep
  | resume (right : role.supervises = true) (suspended : s.sounding.state = .suspended) : s.Acts role port s.resume
  | cancelSweep (right : role.supervises = true) : s.Acts role port s.cancelSweep
  | filter (kinds : KindSet) (watermark : Nat) (range : 1 ≤ watermark ∧ watermark ≤ 1024) :
      s.Acts role port ((s.modReader port (fun c => { c with filter := kinds, watermark := watermark })).checkLogCondition port)
  | seekOldest : s.Acts role port ((s.modReader port (fun c => { c with cursor := s.log.oldest })).checkLogCondition port)
  | seekNext : s.Acts role port ((s.modReader port (fun c => { c with cursor := s.log.next })).checkLogCondition port)
  | link (us : Nat) (right : role = .operator) (range : 10 ≤ us ∧ us ≤ 10000) :
      s.Acts role port (Path.all.foldl State.beaconWaitEnd { s with beaconInterval := us })

theorem thresholdArgs_bounded {args : List Byte} {a : ThresholdArgs} (framed : thresholdArgs args = some a) :
    a.values.bounded := by
  unfold thresholdArgs at framed
  split at framed
  · cases framed
    rename_i p b k wn fl rc rate m0 m1
    exact ⟨byte_toInt_range _, byte_toInt_range _, byte_toInt_range _, byte_toInt_range _, Nat.le_of_lt_succ rate.isLt,
      leNat_pair_le m0 m1⟩
  · cases framed

theorem smoothingArgs_range {args : List Byte} {a : SmoothingArgs} (framed : smoothingArgs args = some a) :
    a.lossWeight ≤ 255 ∧ a.interval ≤ 65535 := by
  unfold smoothingArgs at framed
  split at framed
  · cases framed
    rename_i p c l i0 i1
    exact ⟨Nat.le_of_lt_succ l.isLt, leNat_pair_le i0 i1⟩
  · cases framed

theorem selectionArgs_range {args : List Byte} {a : SelectionArgs} (framed : selectionArgs args = some a) :
    a.hysteresis ≤ 65535 ∧ a.guardTime ≤ 65535 := by
  unfold selectionArgs at framed
  split at framed
  · cases framed
    exact ⟨leNat_pair_le _ _, leNat_pair_le _ _⟩
  · cases framed

theorem streamArgs_range {args : List Byte} {a : StreamArgs} (framed : streamArgs args = some a) : a.holdTime ≤ 65535 := by
  unfold streamArgs at framed
  split at framed
  · cases framed
    exact leNat_pair_le _ _
  · cases framed

theorem sweepArgs_range {args : List Byte} {a : SweepArgs} (framed : sweepArgs args = some a) :
    a.spacing ≤ 65535 ∧ a.timeout ≤ 65535 ∧ a.settle ≤ 65535 := by
  unfold sweepArgs at framed
  split at framed
  · cases framed
    exact ⟨leNat_pair_le _ _, leNat_pair_le _ _, leNat_pair_le _ _⟩
  · cases framed

/-- Every command a block takes is one of the actions. -/
theorem State.Takes.acts {s t : State} {role : Role} {port : Port} (run : s.Takes role port t) : s.Acts role port t := by
  cases run with
  | nothing => exact .nothing
  | softReset right => exact .softReset right
  | attentionMask mask => exact .attentionMask mask
  | enablePath _ right ok =>
    unfold State.enablePath at ok
    split at ok
    · cases ok
    · split_ifs at ok with locked out <;> cases ok
      · exact .enable _ right (by simpa using locked) out
      · exact .nothing
  | disablePath _ right ok =>
    unfold State.disablePath at ok
    split at ok
    · cases ok
    · split_ifs at ok with locked out <;> cases ok
      · exact .nothing
      · exact .disable _ right (by simpa using locked) out
  | setPathTimers _ right ok =>
    unfold State.setPathTimers at ok
    split at ok
    · cases ok
    · split_ifs at ok with range
      cases ok
      exact .timers _ _ right range
  | setThresholds framed right ok =>
    have bounded := thresholdArgs_bounded framed
    unfold State.setThresholds at ok
    split at ok
    · split_ifs at ok with ordered active <;> cases ok
      · exact .activeBank _ _ _ right bounded active
      · exact .idleBank _ _ _ right bounded active
    · cases ok
  | selectBank _ right ok =>
    unfold State.selectBank at ok
    split at ok
    · split_ifs at ok with locked active <;> cases ok
      · exact .nothing
      · exact .selectBank _ _ right (by simpa using locked)
    · cases ok
  | setBaseDelay _ right ok =>
    unfold State.setBaseDelay at ok
    split at ok
    · cases ok
    · split_ifs at ok with above
      cases ok
      exact .baseDelay _ _ right (by omega)
  | setSmoothing framed right ok =>
    obtain ⟨lossWeight, interval⟩ := smoothingArgs_range framed
    unfold State.setSmoothing at ok
    split at ok
    · cases ok
    · split_ifs at ok with range
      cases ok
      exact .smoothing _ _ right ⟨range.1, lossWeight, range.2, interval⟩
  | postMargin framed right ok =>
    unfold State.postMargin at ok
    split at ok <;> cases ok
    rename_i l resolved
    exact .margins l right (resolveEntries_requests resolved (postMarginArgs_range framed))
  | lockPath right ok =>
    unfold State.lockPath at ok
    split at ok <;> cases ok
    exact .lock _ _ right
  | lockAll right => exact .lockAll _ right
  | clearPathStats right ok =>
    unfold State.clearPathStats at ok
    split_ifs at ok
    · cases ok
      exact .clearAllStats right
    · split at ok <;> cases ok
      exact .clearStats _ right
  | setPeerSite right ok =>
    unfold State.setPeerSite at ok
    split_ifs at ok <;> cases ok
    · exact .peerSite _ right
    · exact .peerSite _ right
  | setSelection framed right ok =>
    obtain ⟨hysteresis, guardTime⟩ := selectionArgs_range framed
    unfold State.setSelection at ok
    split at ok
    · cases ok
    · split_ifs at ok with width
      cases ok
      exact .selection _ _ right ⟨hysteresis, width, guardTime⟩
  | pinPrimary right ok =>
    unfold State.pinPrimary at ok
    split at ok <;> cases ok
    exact .pin _ right
  | unpinPrimary right =>
    unfold State.unpinPrimary
    split
    · exact .pin none right
    · exact .nothing
  | setStream framed right ok =>
    have range := streamArgs_range framed
    unfold State.setStream at ok
    split at ok
    · cases ok
    · split_ifs at ok with codes reshapes <;> cases ok
      · exact .reshape _ _ right range
      · exact .stream _ _ right range (by simpa using reshapes)
  | resyncStream right ok =>
    unfold State.resyncStream at ok
    split at ok <;> cases ok
    exact .resync _ right
  | setTxSequence right ok =>
    unfold State.setTxSequence at ok
    split at ok <;> cases ok
    exact .txSequence _ _ right
  | setTime right ok =>
    unfold State.setTime at ok
    split_ifs at ok with above
    cases ok
    exact .loadTime _ right (by simpa [billion] using above)
  | stepTime right ok =>
    unfold State.stepTime at ok
    split_ifs at ok
    cases ok
    exact .stepTime _ right
  | setFrequency right ok =>
    unfold State.setFrequency at ok
    split_ifs at ok
    cases ok
    exact .frequency _ right
  | setDiscipline _ right ok =>
    unfold State.setDiscipline at ok
    split at ok
    · cases ok
    · split_ifs at ok with range
      cases ok
      exact .discipline _ _ right range
  | setCapture ok =>
    unfold State.setCapture at ok
    split at ok
    · cases ok
    · split_ifs at ok with right
      split at ok <;> cases ok
      exact .capture _ _ _ _ right
  | readCapture c right => exact .readCapture c right
  | setMarker right ok =>
    unfold State.setMarker at ok
    split at ok
    · split_ifs at ok
      cases ok
      exact .marker _ _ _ right
    · cases ok
  | startSweep framed right ok =>
    obtain ⟨spacing, timeout, settle⟩ := sweepArgs_range framed
    unfold State.startSweep at ok
    split_ifs at ok with range active
    cases ok
    exact .startSweep _ right ⟨by omega, by omega, by omega, by omega, spacing, timeout, settle⟩
      (by simpa [Sounding.isActive] using active)
  | suspendSweep right => exact .suspendSweep right
  | resumeSweep right =>
    unfold State.resumeSweep
    split
    · rename_i suspended
      exact .resume right suspended
    · exact .nothing
  | cancelSweep right => exact .cancelSweep right
  | setLogFilter _ ok =>
    unfold State.setLogFilter at ok
    split_ifs at ok with range
    cases ok
    simp only [Bool.and_eq_true, decide_eq_true_eq] at range
    exact .filter _ _ range.2
  | seekLog ok =>
    unfold State.seekLog at ok
    split at ok <;> cases ok
    · exact .seekOldest
    · exact .seekNext
  | setLink right ok =>
    unfold State.setLink at ok
    split_ifs at ok with range
    cases ok
    exact .link _ right range

/-- A command that is taken in full and keeps an invariant, for each action of the blocks. -/
theorem State.Kept.of_acts {I : State → Prop} (pending : ∀ (s : State) (queue : List Instr), I s → I { s with pending := queue })
    (advance : ∀ s : State, I s → I (s.modTime TimeUnit.advance)) (happens : ∀ s t : State, s.Happens t → I s → I t)
    (acts : ∀ (s t : State) (role : Role) (port : Port), s.Acts role port t → I s → I t)
    (port : ∀ (s : State) (port : Port) (g : PortCtx → PortCtx), (∀ c : PortCtx, c.bounded → (g c).bounded) → I s →
      I (s.modPort port g)) : State.Kept I :=
  ⟨pending, advance, happens, fun s t role port run => acts s t role port run.acts, port⟩

end Sys2Proof.Machine

/-! What an arbiter, an abandoned probe and a re-evaluation do to the sweep, and the order of a sweep apart from the states of
the entries (O59). -/

namespace Sys2Proof.Machine

/-! ## The arbiter, item by item (R14) -/

/-- The head of a frame that starts on a path (R1). -/
def State.startFrame (s : State) (p : Path) (body : FrameBody) : Option InProgress := some ⟨s.fillHead p body, false⟩

/-- `s.Arbitrated p t`: the arbiter of p's transmitter makes `t` of `s`, for the item that it takes. -/
inductive State.Arbitrated (s : State) (p : Path) : State → Prop
  | busy (h : (s.transmitter p).inProgress ≠ none) : s.Arbitrated p s
  | disabled (h : (s.entry p).state = .disabled) : s.Arbitrated p s
  | echo {e : PendingEcho} (idle : (s.transmitter p).inProgress = none) (inService : (s.entry p).state ≠ .disabled)
      (ready : (s.transmitter p).echo = some e) :
      s.Arbitrated p (s.modTransmitter p (fun m =>
        { m with echo := none, inProgress := s.startFrame p (.echo e.tag e.index (e.residence s.time.mono)) }))
  | probe {k : PendingProbe} (idle : (s.transmitter p).inProgress = none) (inService : (s.entry p).state ≠ .disabled)
      (first : (s.transmitter p).echo = none) (ready : (s.transmitter p).probe = some k) :
      s.Arbitrated p ((s.modTransmitter p (fun m =>
        { m with probe := none, inProgress := s.startFrame p (.probe k.tag k.index) })).modSounding
          (fun x => x.probeStarted k.index s.time.mono))
  | data {c : DataCopy} {rest : List DataCopy} (idle : (s.transmitter p).inProgress = none)
      (inService : (s.entry p).state ≠ .disabled) (first : (s.transmitter p).echo = none)
      (second : (s.transmitter p).probe = none) (ready : (s.transmitter p).queue = c :: rest) :
      s.Arbitrated p (s.modTransmitter p (fun m => { m with queue := rest, inProgress := s.startFrame p (.data c) }))
  | beacon (idle : (s.transmitter p).inProgress = none) (inService : (s.entry p).state ≠ .disabled)
      (first : (s.transmitter p).echo = none) (second : (s.transmitter p).probe = none)
      (third : (s.transmitter p).queue = []) (ready : (s.transmitter p).beacon = .ended) :
      s.Arbitrated p (s.modTransmitter p (fun m => { m with inProgress := s.startFrame p (.beacon s.time.tod) }))
  | nothing (idle : (s.transmitter p).inProgress = none) (inService : (s.entry p).state ≠ .disabled)
      (first : (s.transmitter p).echo = none) (second : (s.transmitter p).probe = none)
      (third : (s.transmitter p).queue = []) (waiting : (s.transmitter p).beacon ≠ .ended) : s.Arbitrated p s

/-- An update of a transmitter matters only at its value. -/
theorem State.modTransmitter_congr {s : State} {p : Path} {f g : Transmitter → Transmitter}
    (same : f (s.transmitter p) = g (s.transmitter p)) : s.modTransmitter p f = s.modTransmitter p g := by
  simp only [State.modTransmitter, same]

theorem State.arbitrate_of_busy {s : State} {p : Path} (h : (s.transmitter p).inProgress ≠ none) : s.arbitrate p = s := by
  have busy : (s.transmitter p).inProgress.isSome = true := Option.isSome_iff_ne_none.mpr h
  simp [State.arbitrate, busy]

theorem State.arbitrate_of_disabled {s : State} {p : Path} (h : (s.entry p).state = .disabled) : s.arbitrate p = s := by
  simp [State.arbitrate, h]

section Idle

variable {s : State} {p : Path} (idle : (s.transmitter p).inProgress = none) (inService : (s.entry p).state ≠ .disabled)
include idle inService

theorem State.arbitrate_of_idle : s.arbitrate p = (match (s.transmitter p).choose s.time.mono s.time.tod with
    | some (body, t1) =>
      (s.modTransmitter p (fun _ => { t1 with inProgress := s.startFrame p body })).startReport body
    | none => s) := by
  unfold State.arbitrate State.startFrame
  simp [idle, inService] <;> rfl

theorem State.arbitrate_of_echo {e : PendingEcho} (ready : (s.transmitter p).echo = some e) :
    s.arbitrate p = s.modTransmitter p (fun m =>
      { m with echo := none, inProgress := s.startFrame p (.echo e.tag e.index (e.residence s.time.mono)) }) := by
  rw [State.arbitrate_of_idle idle inService]
  simp only [Transmitter.choose, ready]
  rfl

theorem State.arbitrate_of_probe {k : PendingProbe} (first : (s.transmitter p).echo = none)
    (ready : (s.transmitter p).probe = some k) :
    s.arbitrate p = (s.modTransmitter p (fun m =>
      { m with probe := none, inProgress := s.startFrame p (.probe k.tag k.index) })).modSounding
        (fun x => x.probeStarted k.index s.time.mono) := by
  rw [State.arbitrate_of_idle idle inService]
  simp only [Transmitter.choose, first, ready]
  exact congrArg (fun u : State => u.modSounding (fun x => x.probeStarted k.index s.time.mono))
    (State.modTransmitter_congr (by simp only [first]))

theorem State.arbitrate_of_data {c : DataCopy} {rest : List DataCopy} (first : (s.transmitter p).echo = none)
    (second : (s.transmitter p).probe = none) (ready : (s.transmitter p).queue = c :: rest) :
    s.arbitrate p = s.modTransmitter p (fun m => { m with queue := rest, inProgress := s.startFrame p (.data c) }) := by
  rw [State.arbitrate_of_idle idle inService]
  simp only [Transmitter.choose, first, second, ready, State.startReport]
  exact State.modTransmitter_congr (by simp only [first, second])

theorem State.arbitrate_of_beacon (first : (s.transmitter p).echo = none) (second : (s.transmitter p).probe = none)
    (third : (s.transmitter p).queue = []) (ready : (s.transmitter p).beacon = .ended) :
    s.arbitrate p = s.modTransmitter p (fun m => { m with inProgress := s.startFrame p (.beacon s.time.tod) }) := by
  rw [State.arbitrate_of_idle idle inService]
  simp only [Transmitter.choose, first, second, third, ready, if_true, State.startReport]
  exact State.modTransmitter_congr (by simp only [first, second, third, ready])

theorem State.arbitrate_of_nothing (first : (s.transmitter p).echo = none) (second : (s.transmitter p).probe = none)
    (third : (s.transmitter p).queue = []) (waiting : (s.transmitter p).beacon ≠ .ended) : s.arbitrate p = s := by
  rw [State.arbitrate_of_idle idle inService]
  simp only [Transmitter.choose, first, second, third, waiting, if_false]

end Idle

theorem State.arbitrate_arbitrated (s : State) (p : Path) : s.Arbitrated p (s.arbitrate p) := by
  by_cases idle : (s.transmitter p).inProgress = none
  · by_cases inService : (s.entry p).state = .disabled
    · rw [State.arbitrate_of_disabled inService]
      exact .disabled inService
    · rcases first : (s.transmitter p).echo with _ | e
      · rcases second : (s.transmitter p).probe with _ | k
        · rcases third : (s.transmitter p).queue with _ | ⟨c, rest⟩
          · by_cases fourth : (s.transmitter p).beacon = .ended
            · rw [State.arbitrate_of_beacon idle inService first second third fourth]
              exact .beacon idle inService first second third fourth
            · rw [State.arbitrate_of_nothing idle inService first second third fourth]
              exact .nothing idle inService first second third fourth
          · rw [State.arbitrate_of_data idle inService first second third]
            exact .data idle inService first second third
        · rw [State.arbitrate_of_probe idle inService first second]
          exact .probe idle inService first second
      · rw [State.arbitrate_of_echo idle inService first]
        exact .echo idle inService first
  · rw [State.arbitrate_of_busy idle]
    exact .busy idle

/-! ## The order of the sweep apart from the entries -/

/-- No probe is pending or outstanding. -/
def Sounding.Quiet (x : Sounding) : Prop := x.pendingProbe = none ∧ x.outstanding = none

/-- How many probes are pending or outstanding. -/
def Sounding.probesOpen (x : Sounding) : Nat := if x.pendingProbe = none ∧ x.outstanding = none then 0 else 1

/-- The clauses of State.Swept on the sweep context alone. -/
structure Sounding.InOrder (x : Sounding) : Prop where
  active : x.current ≠ none → x.state ≠ .idle
  pending : x.pendingProbe ≠ none → x.current ≠ none ∧ x.state = .running ∧ x.outstanding = none
  outstanding : x.outstanding ≠ none → x.current ≠ none ∧ x.state = .running
  reason : x.state = .suspended ↔ x.reason ≠ none
  settle : x.settleDeadline ≠ none ↔ x.reason = some .fallback
  countCode : x.countCode ≤ 15
  probeIndex : x.probeIndex ≤ 16
  burst : x.current ≠ none → x.probeIndex ≤ x.countCode + 1
  counted : x.valid + x.lost + x.probesOpen ≤ x.probeIndex
  minimum : x.minimum = none ↔ x.valid = 0

/-- The probe that p's transmitter holds for the sweep (R15, R146). -/
def Sounding.probeAt (x : Sounding) (p : Path) : Option PendingProbe :=
  if x.current = some p then x.pendingProbe.map (fun k => ⟨x.tag, k⟩) else none

/-- The sweep is in order whatever the states of the entries are. -/
def State.SweepOrder (s : State) : Prop := s.sounding.InOrder ∧ ∀ p, (s.transmitter p).probe = s.sounding.probeAt p

/-- The current path of the sweep is neither DISABLED nor FAILED (R143, R151). -/
def State.InService (s : State) : Prop :=
  ∀ p, s.sounding.current = some p → (s.entry p).state ≠ .disabled ∧ (s.entry p).state ≠ .failed

theorem State.swept_iff (s : State) : s.Swept ↔ s.SweepOrder ∧ s.InService := by
  constructor
  · rintro ⟨current, pending, outstanding, probes, reason, settle, countCode, index, burst, counted, minimum⟩
    refine ⟨⟨⟨fun h => ?_, pending, outstanding, reason, settle, countCode, index, burst, counted, minimum⟩, probes⟩,
      fun p h => ⟨(current p h).1, (current p h).2.1⟩⟩
    obtain ⟨p, named⟩ := Option.ne_none_iff_exists'.mp h
    exact (current p named).2.2
  · rintro ⟨⟨order, probes⟩, service⟩
    exact ⟨fun p h => ⟨(service p h).1, (service p h).2, order.active (by rw [h]; exact Option.some_ne_none p)⟩, order.pending,
      order.outstanding, probes, order.reason, order.settle, order.countCode, order.probeIndex, order.burst, order.counted,
      order.minimum⟩

/-! ## Operations that leave the sweep where it is -/

/-- Nothing happens to the sweep but that its probes are sent, withdrawn or abandoned and that it is suspended; no entry changes
its state. -/
structure State.SweepKept (s t : State) : Prop where
  order : s.SweepOrder → t.SweepOrder
  current : t.sounding.current = s.sounding.current
  quiet : s.SweepOrder → s.sounding.Quiet → t.sounding.Quiet
  idle : t.sounding.state = .idle ↔ s.sounding.state = .idle
  states : ∀ q, (t.entry q).state = (s.entry q).state

namespace State

variable {s t u : State}

theorem SweepKept.refl (s : State) : s.SweepKept s := ⟨id, rfl, fun _ => id, Iff.rfl, fun _ => rfl⟩

theorem SweepKept.trans (h : s.SweepKept t) (h' : t.SweepKept u) : s.SweepKept u :=
  ⟨fun o => h'.order (h.order o), h'.current.trans h.current, fun o q => h'.quiet (h.order o) (h.quiet o q),
    h'.idle.trans h.idle, fun q => (h'.states q).trans (h.states q)⟩

/-- The sweep and the probes at the transmitters are untouched. -/
theorem SweepKept.of_same (sounding : t.sounding = s.sounding) (probes : ∀ q, (t.transmitter q).probe = (s.transmitter q).probe)
    (states : ∀ q, (t.entry q).state = (s.entry q).state) : s.SweepKept t := by
  refine ⟨fun ⟨order, at_⟩ => ⟨sounding ▸ order, fun q => ?_⟩, by rw [sounding], fun _ q => sounding ▸ q, by rw [sounding], states⟩
  rw [probes, sounding]
  exact at_ q

theorem SweepKept.of_tables (sounding : t.sounding = s.sounding) (transmitters : t.transmitters = s.transmitters)
    (paths : t.paths = s.paths) : s.SweepKept t :=
  .of_same sounding (fun q => by simp only [State.transmitter, transmitters]) (fun q => by simp only [State.entry, paths])

theorem SweepKept.logOnly (h : s.logOnly t) : s.SweepKept t := by
  refine .of_tables ?_ ?_ ?_ <;> rw [h.1]

theorem SweepKept.timeOnly (h : s.timeOnly t) : s.SweepKept t := by
  refine .of_tables ?_ ?_ ?_ <;> rw [h.1]

theorem SweepKept.readersOnly (h : s.readersOnly t) : s.SweepKept t := by
  refine .of_tables ?_ ?_ ?_ <;> rw [show t = _ from h]

theorem SweepKept.mergeOnly {i : StreamId} (h : State.mergeOnly i s t) : s.SweepKept t := by
  refine .of_tables ?_ ?_ ?_ <;> rw [h.1]

theorem sweepKept_modEntry (s : State) (p : Path) (g : PathEntry → PathEntry)
    (state : (g (s.entry p)).state = (s.entry p).state) : s.SweepKept (s.modEntry p g) := by
  refine .of_same rfl (fun _ => rfl) fun q => ?_
  rw [State.modEntry_entry]
  split
  · rename_i named; rw [named, state]
  · rfl

theorem sweepKept_modStats (s : State) (p : Path) (g : Stats → Stats) : s.SweepKept (s.modStats p g) :=
  s.sweepKept_modEntry p _ rfl

theorem sweepKept_modTransmitter (s : State) (p : Path) (g : Transmitter → Transmitter)
    (probe : (g (s.transmitter p)).probe = (s.transmitter p).probe) : s.SweepKept (s.modTransmitter p g) := by
  refine .of_same rfl (fun q => ?_) fun _ => rfl
  rw [State.modTransmitter_transmitter]
  split
  · rename_i named; rw [named, probe]
  · rfl

theorem sweepKept_modReceiver (s : State) (p : Path) (g : Receiver → Receiver) : s.SweepKept (s.modReceiver p g) :=
  .of_tables rfl rfl rfl

theorem sweepKept_modSelector (s : State) (g : Selector → Selector) : s.SweepKept (s.modSelector g) := .of_tables rfl rfl rfl

theorem sweepKept_modRx (s : State) (i : StreamId) (g : RxStream → RxStream) : s.SweepKept (s.modRx i g) := .of_tables rfl rfl rfl

theorem sweepKept_modTx (s : State) (i : StreamId) (g : TxStream → TxStream) : s.SweepKept (s.modTx i g) := .of_tables rfl rfl rfl

theorem sweepKept_modLocal (s : State) (g : LocalPort → LocalPort) : s.SweepKept (s.modLocal g) := .of_tables rfl rfl rfl

theorem sweepKept_raiseAll (s : State) (k : AttnKind) : s.SweepKept (s.raiseAll k) := .logOnly (s.raiseAll_logOnly k)

theorem sweepKept_logWrite (s : State) (b : RecordBody) : s.SweepKept (s.logWrite b) := .logOnly (s.logWrite_logOnly b)

theorem sweepKept_foldl {β : Type} (f : State → β → State) (l : List β) (keep : ∀ (u : State) (b : β), u.SweepKept (f u b)) (s : State) :
    s.SweepKept (l.foldl f s) := foldl_rel State.SweepKept .refl .trans f l (fun u b _ => keep u b) s

/-- In an ordered sweep a transmitter that holds a probe is that of the current path, and the probe is the pending one. -/
theorem SweepOrder.pending_of_probe {p : Path} {k : PendingProbe} (h : s.SweepOrder) (held : (s.transmitter p).probe = some k) :
    s.sounding.current = some p ∧ s.sounding.pendingProbe = some k.index ∧ s.sounding.tag = k.tag := by
  rw [h.2, Sounding.probeAt] at held
  split at held
  · rename_i current
    obtain ⟨index, pending, rfl⟩ := Option.map_eq_some_iff.mp held
    exact ⟨current, pending, rfl⟩
  · cases held

/-- The transmit start of the pending probe (R146) keeps the sweep in order. -/
theorem SweepOrder.probeStarted {p : Path} {k : PendingProbe} (h : s.SweepOrder) (held : (s.transmitter p).probe = some k)
    (m : Transmitter → Transmitter) (sent : (m (s.transmitter p)).probe = none) (mono : Nat) :
    ((s.modTransmitter p m).modSounding (fun x => x.probeStarted k.index mono)).SweepOrder := by
  obtain ⟨current, pending, -⟩ := h.pending_of_probe held
  have running := (h.1.pending (by rw [pending]; exact Option.some_ne_none _)).2.1
  have probesOpen : s.sounding.probesOpen = 1 := by simp [Sounding.probesOpen, pending]
  have counted := h.1.counted
  refine ⟨⟨h.1.active, fun none => absurd rfl none, fun _ => ⟨by simp [Sounding.probeStarted, current], running⟩, h.1.reason, h.1.settle,
    h.1.countCode, h.1.probeIndex, h.1.burst, ?_, h.1.minimum⟩, fun q => ?_⟩
  · show s.sounding.valid + s.sounding.lost + _ ≤ s.sounding.probeIndex
    simp only [Sounding.probesOpen, State.modSounding_sounding, State.modTransmitter_sounding, Sounding.probeStarted]
    rw [probesOpen] at counted
    simpa using counted
  · show ((s.modTransmitter p m).transmitter q).probe = _
    have absent : (Sounding.probeStarted s.sounding k.index mono).probeAt q = none := by
      unfold Sounding.probeAt
      split <;> rfl
    rw [show ((s.modTransmitter p m).modSounding (fun x => x.probeStarted k.index mono)).sounding.probeAt q = _ from absent,
      State.modTransmitter_transmitter]
    split
    · exact sent
    · rename_i other
      rw [h.2, Sounding.probeAt, if_neg]
      rw [current]
      exact fun e => other (Option.some.inj e).symm

theorem sweepKept_arbitrate (s : State) (p : Path) : s.SweepKept (s.arbitrate p) := by
  have item := s.arbitrate_arbitrated p
  generalize s.arbitrate p = t at item
  cases item with
  | busy | disabled | nothing => exact .refl s
  | echo | data | beacon => exact s.sweepKept_modTransmitter p _ rfl
  | probe _ _ _ ready =>
    refine ⟨fun h => h.probeStarted ready _ rfl _, rfl, fun h quiet => ?_, Iff.rfl, fun _ => rfl⟩
    have pending := (h.pending_of_probe ready).2.1
    rw [quiet.1] at pending
    cases pending

/-! ## A probe withdrawn and a sweep suspended -/

end State

/-- The sweep context with its probe abandoned. -/
def Sounding.abandoned (x : Sounding) : Sounding := { x with pendingProbe := none, outstanding := none }

theorem Sounding.abandoned_quiet (x : Sounding) : (Sounding.abandoned x).Quiet := ⟨rfl, rfl⟩

theorem Sounding.Quiet.probesOpen {x : Sounding} (h : x.Quiet) : x.probesOpen = 0 := if_pos h

theorem Sounding.InOrder.abandoned {x : Sounding} (h : x.InOrder) : x.abandoned.InOrder :=
  ⟨h.active, fun none => absurd rfl none, fun none => absurd rfl none, h.reason, h.settle, h.countCode, h.probeIndex, h.burst,
    (Nat.add_le_add_left (Nat.zero_le _) _).trans h.counted, h.minimum⟩

namespace State

variable {s t u : State}

@[simp] theorem abandonProbe_sounding (s : State) : s.abandonProbe.sounding = s.sounding.abandoned := by
  unfold State.abandonProbe
  dsimp only
  split <;> rfl

theorem abandonProbe_transmitter (s : State) (q : Path) : s.abandonProbe.transmitter q
    = if s.sounding.pendingProbe ≠ none ∧ s.sounding.current = some q then { s.transmitter q with probe := none }
      else s.transmitter q := by
  unfold State.abandonProbe
  dsimp only
  split
  · rename_i k p pending current
    simp only [pending, current, State.modSounding_transmitter, State.modTransmitter_transmitter]
    by_cases named : q = p
    · simp [named]
    · simp [named, Ne.symm named]
  · rename_i absent
    rw [if_neg, State.modSounding_transmitter]
    rintro ⟨pending, current⟩
    obtain ⟨k, held⟩ := Option.ne_none_iff_exists'.mp pending
    exact absent _ _ held current

/-- With no probe pending or outstanding no transmitter holds one. -/
theorem SweepOrder.probe_of_quiet (h : s.SweepOrder) (quiet : s.sounding.Quiet) (q : Path) : (s.transmitter q).probe = none := by
  rw [h.2, Sounding.probeAt, quiet.1]
  split <;> rfl

/-- An ordered sweep context without a pending probe, when no transmitter holds one. -/
theorem sweepOrder_of_no_probe (order : s.sounding.InOrder) (pending : s.sounding.pendingProbe = none)
    (probes : ∀ q, (s.transmitter q).probe = none) : s.SweepOrder := by
  refine ⟨order, fun q => ?_⟩
  rw [probes, Sounding.probeAt, pending]
  split <;> rfl

theorem SweepOrder.abandonProbe_probe (h : s.SweepOrder) (q : Path) : (s.abandonProbe.transmitter q).probe = none := by
  rw [State.abandonProbe_transmitter]
  split
  · rfl
  · rename_i absent
    rw [h.2, Sounding.probeAt]
    split
    · rename_i current
      by_contra held
      exact absent ⟨fun none => held (by rw [none]; rfl), current⟩
    · rfl

theorem SweepOrder.abandonProbe (h : s.SweepOrder) : s.abandonProbe.SweepOrder :=
  sweepOrder_of_no_probe (by rw [abandonProbe_sounding]; exact h.1.abandoned) (by rw [abandonProbe_sounding]; rfl)
    h.abandonProbe_probe

/-- An update of the sweep context while no probe is pending or outstanding. -/
theorem SweepOrder.modSounding (h : s.SweepOrder) (quiet : s.sounding.Quiet) (g : Sounding → Sounding)
    (order : (g s.sounding).InOrder) (pending : (g s.sounding).pendingProbe = none) : (s.modSounding g).SweepOrder :=
  sweepOrder_of_no_probe order pending (h.probe_of_quiet quiet)

/-- A sweep suspended with its probe abandoned (R152, R154). -/
theorem SweepOrder.suspend (h : s.SweepOrder) (reason : SuspendReason) (deadline : Option Nat)
    (settle : deadline ≠ none ↔ reason = .fallback) :
    (s.abandonProbe.modSounding
      (fun x => { x with state := .suspended, reason := some reason, settleDeadline := deadline })).SweepOrder := by
  have order := h.1.abandoned
  refine h.abandonProbe.modSounding (by rw [abandonProbe_sounding]; exact Sounding.abandoned_quiet _) _ ?_
    (by rw [abandonProbe_sounding]; rfl)
  rw [abandonProbe_sounding]
  exact ⟨fun _ => nofun, fun none => absurd rfl none, fun none => absurd rfl none,
    ⟨fun _ => Option.some_ne_none _, fun _ => rfl⟩, settle.trans (Option.some_inj (a := reason) (b := .fallback)).symm, order.countCode, order.probeIndex, order.burst, order.counted, order.minimum⟩

theorem sweepKept_fallbackReport (s : State) : s.SweepKept s.fallbackReport := by
  unfold State.fallbackReport
  dsimp only
  split
  · exact .refl s
  · split
    · rename_i running
      have entries (q : Path) := s.abandonProbe_sweepOnly.entry q
      refine ⟨fun h => h.suspend .fallback _ (by simp), ?_, fun _ _ => ?_, ?_, fun q => congrArg PathEntry.state (entries q)⟩
      · rw [modSounding_sounding, abandonProbe_sounding]; rfl
      · rw [modSounding_sounding, abandonProbe_sounding]; exact ⟨rfl, rfl⟩
      · rw [modSounding_sounding, running]; exact ⟨nofun, nofun⟩
    · rename_i suspended reason
      refine ⟨fun ⟨order, probes⟩ => ⟨?_, probes⟩, rfl, fun _ => id, Iff.rfl, fun _ => rfl⟩
      exact ⟨order.active, order.pending, order.outstanding, order.reason, ⟨fun _ => reason, fun _ => Option.some_ne_none _⟩,
        order.countCode, order.probeIndex, order.burst, order.counted, order.minimum⟩
    · exact .refl s

/-! ## Re-evaluations, delays and scores leave the sweep where it is -/

theorem sweepKept_changePrimary (s : State) (new : Option Path) (kind : ChangeKind) : s.SweepKept (s.changePrimary new kind) := by
  have noted (g : Selector → Selector) (b : RecordBody) : s.SweepKept (((s.modSelector g).logWrite b).raiseAll .primary) :=
    (s.sweepKept_modSelector g).trans ((sweepKept_logWrite _ b).trans (sweepKept_raiseAll _ _))
  unfold State.changePrimary
  cases kind
  case fallback | loss => exact (noted _ _).trans (sweepKept_fallbackReport _)
  all_goals exact noted _ _

theorem sweepKept_reEvaluate (s : State) : s.SweepKept s.reEvaluate := by
  rcases s.reEvaluate_cases with ⟨-, h⟩ | ⟨new, kind, -, h⟩ <;> rw [h]
  · exact (s.sweepKept_modSelector _).trans (sweepKept_modSelector _ _)
  · exact (s.sweepKept_modSelector _).trans ((sweepKept_changePrimary _ new kind).trans (sweepKept_modSelector _ _))

theorem sweepKept_recomputeDelay (s : State) (p : Path) : s.SweepKept (s.recomputeDelay p) := by
  unfold State.recomputeDelay
  dsimp only
  split
  · exact .refl s
  · exact (s.sweepKept_modEntry p _ rfl).trans (sweepKept_reEvaluate _)

theorem sweepKept_modScore (s : State) (p : Path) (g : Nat → Nat) : s.SweepKept (s.modScore p g) :=
  (s.sweepKept_modEntry p _ rfl).trans (sweepKept_recomputeDelay _ p)

theorem sweepKept_retireReport (s : State) (mask seen : PathSet) : s.SweepKept (s.retireReport mask seen) :=
  sweepKept_foldl _ _ (fun u p => by
    unfold State.retirePath
    split
    · exact u.sweepKept_modScore p _
    · exact .refl u) s

theorem sweepKept_burstReport (s : State) (p : Path) (result : BurstResult) (sample : Nat) :
    s.SweepKept (s.burstReport p result sample).1 := by
  cases result with
  | ok => exact (s.sweepKept_modEntry p _ rfl).trans (sweepKept_recomputeDelay _ p)
  | failed => exact s.sweepKept_modScore p _
  | aborted | skipped => exact .refl s

theorem sweepKept_scoreDecay (s : State) (p : Path) : s.SweepKept (s.scoreDecay p) := by
  unfold State.scoreDecay
  split
  · exact (s.sweepKept_modEntry p _ rfl).trans (sweepKept_modScore _ p _)
  · exact .refl s

theorem sweepKept_setFar (s : State) (p : Path) (state : Option LocalState) (quality : Option Quality) :
    s.SweepKept (s.setFar p state quality) := by
  unfold State.setFar
  dsimp only
  split
  · exact s.sweepKept_modEntry p _ rfl
  · exact (s.sweepKept_modEntry p _ rfl).trans (sweepKept_reEvaluate _)

theorem sweepKept_flush (s : State) (p : Path) : s.SweepKept (s.flush p) := by
  unfold State.flush
  exact (s.sweepKept_modStats p _).trans (sweepKept_modTransmitter _ p _ rfl)

theorem sweepKept_transmitterReport (s : State) (p : Path) (new : LocalState) : s.SweepKept (s.transmitterReport p new) := by
  unfold State.transmitterReport
  split
  · exact (s.sweepKept_flush p).trans (sweepKept_modTransmitter _ p _ rfl)
  · exact s.sweepKept_flush p
  · exact .refl s

end State

end Sys2Proof.Machine

/-! Every step on the sweep (O59): the turns of the sweep and the changes of a path's state, then the other operations by
`State.SweepKept`. -/

namespace Sys2Proof.Machine

theorem Sounding.probeAt_of_current {x : Sounding} {p : Path} (current : x.current = some p) :
    x.probeAt p = x.pendingProbe.map (fun k => ⟨x.tag, k⟩) := if_pos current

theorem Sounding.probeAt_other {x : Sounding} {p q : Path} (current : x.current = some p) (other : q ≠ p) :
    x.probeAt q = none := if_neg fun e => other (Option.some.inj (current.symm.trans e)).symm

namespace State

variable {s t : State}

theorem Swept.order (h : s.Swept) : s.SweepOrder := ((swept_iff s).mp h).1
theorem Swept.inService (h : s.Swept) : s.InService := ((swept_iff s).mp h).2

theorem SweepKept.swept (kept : s.SweepKept t) (h : s.Swept) : t.Swept := by
  refine (swept_iff t).mpr ⟨kept.order h.order, fun p current => ?_⟩
  rw [kept.states]
  exact h.inService p (kept.current ▸ current)

/-- A sweep without a current path needs nothing of the entries. -/
theorem SweepOrder.swept (h : s.SweepOrder) (current : s.sounding.current = none) : s.Swept :=
  (swept_iff s).mpr ⟨h, fun p named => by rw [current] at named; cases named⟩

/-! ## The turns of a sweep -/

/-- The next probe of a running burst becomes the pending one (R146). -/
theorem SweepOrder.issueProbe (h : s.SweepOrder) (quiet : s.sounding.Quiet) {p : Path} (current : s.sounding.current = some p)
    (running : s.sounding.state = .running) (left : s.sounding.probeIndex < s.sounding.burstLength) :
    (s.issueProbe p).SweepOrder ∧ (s.issueProbe p).sounding.current = some p := by
  have index : s.sounding.probeIndex ≤ s.sounding.countCode := Nat.lt_succ_iff.mp left
  have counted : s.sounding.valid + s.sounding.lost ≤ s.sounding.probeIndex := by
    simpa [quiet.probesOpen] using h.1.counted
  let u := (s.modTransmitter p (fun t => { t with probe := some ⟨s.sounding.tag, s.sounding.probeIndex⟩ })).modSounding
    (fun x => { x with pendingProbe := some s.sounding.probeIndex, probeIndex := s.sounding.probeIndex + 1 })
  have order : u.SweepOrder := by
    refine ⟨⟨h.1.active, fun _ => ⟨by simp [u, current], running, quiet.2⟩, fun held => absurd quiet.2 held, h.1.reason,
      h.1.settle, h.1.countCode, ?_, fun _ => Nat.succ_le_succ index, ?_, h.1.minimum⟩, fun q => ?_⟩
    · exact Nat.succ_le_succ (index.trans h.1.countCode)
    · show s.sounding.valid + s.sounding.lost + _ ≤ s.sounding.probeIndex + 1
      exact Nat.add_le_add counted (by unfold Sounding.probesOpen; split <;> omega)
    · have tables : u.transmitter q = (s.modTransmitter p (fun t =>
        { t with probe := some ⟨s.sounding.tag, s.sounding.probeIndex⟩ })).transmitter q := rfl
      rw [tables, State.modTransmitter_transmitter]
      by_cases named : q = p
      · rw [if_pos named, named, Sounding.probeAt_of_current (x := u.sounding) current]
        rfl
      · rw [if_neg named, h.probe_of_quiet quiet, Sounding.probeAt_other (x := u.sounding) current named]
  have kept := u.sweepKept_arbitrate p
  exact ⟨kept.order order, kept.current.trans current⟩

theorem issueProbe_entry (s : State) (p q : Path) : (s.issueProbe p).entry q = s.entry q := (s.issueProbe_sweepOnly p).entry q

theorem SweepOrder.beginBurst (h : s.SweepOrder) (quiet : s.sounding.Quiet) (running : s.sounding.state = .running) {p : Path}
    (inService : (s.entry p).state ≠ .disabled ∧ (s.entry p).state ≠ .failed) : (s.beginBurst p).Swept := by
  have begun := SweepOrder.modSounding h quiet (fun x =>
      { x with current := some p, probeIndex := 0, minimum := none, valid := 0, lost := 0, lastT1 := none })
    ⟨fun _ => by rw [show _ = _ from running]; nofun, fun held => absurd quiet.1 held, fun held => absurd quiet.2 held, h.1.reason,
      h.1.settle, h.1.countCode, Nat.zero_le _, fun _ => Nat.zero_le _, (by simp [Sounding.probesOpen, quiet.1, quiet.2]), by simp⟩
    quiet.1
  obtain ⟨order, current⟩ := begun.issueProbe quiet (p := p) rfl running (Nat.succ_pos _)
  refine (swept_iff _).mpr ⟨order, fun q named => ?_⟩
  cases current.symm.trans named
  rw [show (s.beginBurst p).entry p = s.entry p from issueProbe_entry _ p p]
  exact inService

theorem SweepOrder.endSweep (h : s.SweepOrder) (quiet : s.sounding.Quiet) : s.endSweep.Swept := by
  have ended := SweepOrder.modSounding h quiet (fun x =>
      { x with state := .idle, reason := none, settleDeadline := none, current := none })
    ⟨fun some => absurd rfl some, fun held => absurd quiet.1 held, fun held => absurd quiet.2 held, ⟨nofun, fun some => absurd rfl some⟩,
      ⟨fun some => absurd rfl some, nofun⟩, h.1.countCode, h.1.probeIndex, fun some => absurd rfl some, h.1.counted, h.1.minimum⟩
    quiet.1
  exact (sweepKept_raiseAll _ .sweep).swept (ended.swept rfl)

/-- The next path's turn, with no burst in progress (R145). -/
theorem SweepOrder.pathTurn (fuel : Nat) (h : s.SweepOrder) (quiet : s.sounding.Quiet) (running : s.sounding.state = .running)
    (current : s.sounding.current = none) : (State.pathTurn fuel s).Swept := by
  induction fuel generalizing s with
  | zero => exact h.swept current
  | succ fuel ih =>
    unfold State.pathTurn
    split
    · exact h.endSweep quiet
    · rename_i p _
      have taken : (s.modSounding (fun x => { x with remaining := x.remaining.remove p })).SweepOrder := by
        refine h.modSounding quiet _ ?_ quiet.1
        exact ⟨h.1.active, h.1.pending, h.1.outstanding, h.1.reason, h.1.settle, h.1.countCode, h.1.probeIndex, h.1.burst,
          h.1.counted, h.1.minimum⟩
      have passed {u : State} (b : RecordBody) (hu : u.SweepOrder) (same : u.sounding.Quiet ∧ u.sounding.state = .running
          ∧ u.sounding.current = none) : (State.pathTurn fuel (u.logWrite b)).Swept := by
        have kept := u.sweepKept_logWrite b
        have sounding := State.logOnly_sounding (u.logWrite_logOnly b)
        rw [← sounding] at same
        exact ih (kept.order hu) same.1 same.2.1 same.2.2
      dsimp only
      split
      · exact passed _ taken ⟨quiet, running, current⟩
      · exact passed _ taken ⟨quiet, running, current⟩
      · rename_i inService failed
        exact taken.beginBurst quiet running ⟨inService, failed⟩

/-- The end of a burst whose probe has ended or been abandoned (R150). -/
theorem SweepOrder.endBurst (h : s.SweepOrder) (quiet : s.sounding.Quiet) (p : Path) (result : BurstResult) :
    (s.endBurst p result).Swept := by
  unfold State.endBurst
  dsimp only
  generalize reported : s.burstReport p result (s.sounding.minimum.getD 0) = r
  have kept : s.SweepKept (r.1.logWrite (.sound p result s.sounding.valid s.sounding.lost s.sounding.minimum
      (r.1.entry p).delay r.2)) := by
    rw [← reported]
    exact (s.sweepKept_burstReport p result _).trans (sweepKept_logWrite _ _)
  generalize r.1.logWrite _ = u at kept
  have order := kept.order h
  have still := kept.quiet h quiet
  have ended : (u.modSounding (fun x => { x with current := none })).SweepOrder :=
    order.modSounding still _ ⟨fun some => absurd rfl some, fun held => absurd still.1 held, fun held => absurd still.2 held,
      order.1.reason, order.1.settle, order.1.countCode, order.1.probeIndex, fun some => absurd rfl some, order.1.counted,
      order.1.minimum⟩ still.1
  split_ifs with last running
  · exact ended.endSweep still
  · exact ended.pathTurn turnFuel still running rfl
  · exact ended.swept rfl

/-- A RUNNING sweep goes on after a probe has ended (R146). -/
theorem Swept.continueBurst (h : s.Swept) (quiet : s.sounding.Quiet) (running : s.sounding.state = .running) :
    s.continueBurst.Swept := by
  unfold State.continueBurst
  split
  · exact h
  · rename_i p current
    split_ifs with last spaced
    · exact h.order.endBurst quiet p _
    · obtain ⟨order, still⟩ := h.order.issueProbe quiet current running (Nat.lt_of_not_le last)
      refine (swept_iff _).mpr ⟨order, fun q named => ?_⟩
      cases still.symm.trans named
      rw [issueProbe_entry]
      exact h.inService p current
    · exact h

/-- A suspended sweep has no probe. -/
theorem Swept.quiet_of_suspended (h : s.Swept) (suspended : s.sounding.state = .suspended) : s.sounding.Quiet := by
  constructor
  · by_contra held
    have running := (h.order.1.pending held).2.1
    rw [suspended] at running
    cases running
  · by_contra held
    have running := (h.order.1.outstanding held).2
    rw [suspended] at running
    cases running

theorem Swept.resume (h : s.Swept) (suspended : s.sounding.state = .suspended) : s.resume.Swept := by
  have quiet := h.quiet_of_suspended suspended
  have order := h.order.1
  have running := SweepOrder.modSounding h.order quiet
      (fun x => { x with state := .running, reason := none, settleDeadline := none })
    ⟨fun _ => nofun, fun held => absurd quiet.1 held, fun held => absurd quiet.2 held, ⟨nofun, fun some => absurd rfl some⟩,
      ⟨fun some => absurd rfl some, nofun⟩, order.countCode, order.probeIndex, order.burst, order.counted, order.minimum⟩ quiet.1
  have resumed : (s.modSounding (fun x => { x with state := .running, reason := none, settleDeadline := none })).Swept :=
    (swept_iff _).mpr ⟨running, h.inService⟩
  unfold State.resume
  dsimp only
  split
  · exact resumed.continueBurst quiet rfl
  · rename_i current
    exact running.pathTurn turnFuel quiet rfl (by simpa using current)

theorem Swept.suspendSweep (h : s.Swept) : s.suspendSweep.Swept := by
  unfold State.suspendSweep
  split
  · refine (swept_iff _).mpr ⟨h.order.suspend .command none (by simp), fun p current => ?_⟩
    rw [modSounding_sounding, abandonProbe_sounding] at current
    rw [modSounding_entry, s.abandonProbe_sweepOnly.entry]
    exact h.inService p current
  · exact h

/-- Without a current path no probe is pending or outstanding. -/
theorem SweepOrder.quiet_of_no_current (h : s.SweepOrder) (current : s.sounding.current = none) : s.sounding.Quiet := by
  constructor
  · by_contra held
    exact (h.1.pending held).1 current
  · by_contra held
    exact (h.1.outstanding held).1 current

theorem Swept.cancelSweep (h : s.Swept) : s.cancelSweep.Swept := by
  have ended {u : State} (hu : u.SweepOrder) (quiet : u.sounding.Quiet) :
      (u.modSounding (fun x => { x with remaining := 0 })).endSweep.Swept := by
    have order := hu.1
    refine SweepOrder.endSweep (hu.modSounding quiet _ ?_ quiet.1) quiet
    exact ⟨order.active, order.pending, order.outstanding, order.reason, order.settle, order.countCode, order.probeIndex,
      order.burst, order.counted, order.minimum⟩
  unfold State.cancelSweep
  dsimp only
  split
  · exact h
  · split
    · have abandoned := h.order.abandonProbe
      have kept := s.abandonProbe.sweepKept_logWrite
      exact ended ((kept _).order abandoned) ((kept _).quiet abandoned (by rw [abandonProbe_sounding]; exact Sounding.abandoned_quiet _))
    · rename_i current
      exact ended h.order (h.order.quiet_of_no_current current)

/-! ## Changes of a path's state -/

theorem SweepOrder.soundingReport (h : s.SweepOrder) (p : Path) (new : LocalState)
    (others : ∀ q, q ≠ p → s.sounding.current = some q → (s.entry q).state ≠ .disabled ∧ (s.entry q).state ≠ .failed)
    (own : (s.entry p).state = new) : (s.soundingReport p new).Swept := by
  have quiet : s.abandonProbe.sounding.Quiet := by rw [abandonProbe_sounding]; exact Sounding.abandoned_quiet _
  unfold State.soundingReport
  split
  · rename_i current
    split
    · exact h.abandonProbe.endBurst quiet p _
    · exact h.abandonProbe.endBurst quiet p _
    · rename_i disabled failed
      refine (swept_iff s).mpr ⟨h, fun q named => ?_⟩
      cases current.symm.trans named
      rw [own]
      exact ⟨disabled, failed⟩
  · rename_i other
    refine (swept_iff s).mpr ⟨h, fun q named => others q ?_ named⟩
    rintro rfl
    exact other named

theorem Swept.setLocalState (h : s.Swept) (p : Path) (new : LocalState) (reason : Reason) : (s.setLocalState p new reason).Swept := by
  unfold State.setLocalState
  dsimp only
  generalize moved : s.modEntry p _ = u
  have order : u.SweepOrder := by rw [← moved]; exact h.order
  have current : u.sounding.current = s.sounding.current := by rw [← moved]; rfl
  have entry (q : Path) : (u.entry q).state = if q = p then new else (s.entry q).state := by
    rw [← moved, State.modEntry_entry]
    split <;> rfl
  have kept : u.SweepKept (((u.logWrite (.state p (s.entry p).state new reason ((s.entry p).marginOf p))).raiseAll
      .path).reEvaluate.transmitterReport p new) :=
    (u.sweepKept_logWrite _).trans ((sweepKept_raiseAll _ _).trans ((sweepKept_reEvaluate _).trans
      (sweepKept_transmitterReport _ p new)))
  refine SweepOrder.soundingReport (kept.order order) p new (fun q other named => ?_) ?_
  · rw [kept.states, entry, if_neg other]
    rw [kept.current, current] at named
    exact h.inService q named
  · rw [kept.states, entry, if_pos rfl]

theorem Swept.evaluateUpTo (n : Nat) (h : s.Swept) (p : Path) : (s.evaluateUpTo n p).Swept := by
  induction n generalizing s with
  | zero => exact h
  | succ n ih =>
    unfold State.evaluateUpTo
    split
    · exact ih (h.setLocalState p _ _)
    · exact h

theorem Swept.evaluate (h : s.Swept) (p : Path) : (s.evaluate p).Swept := h.evaluateUpTo 3 p

theorem Swept.enable (h : s.Swept) (p : Path) : (s.enable p).Swept := by
  have failed := h.setLocalState p .failed .starting
  have windowed := (sweepKept_modEntry _ p (fun e =>
    { e with window := some ⟨s.time.mono, s.time.mono + msToNs e.windowLength, 0⟩ }) rfl).swept failed
  have silent := (sweepKept_modReceiver _ p (fun r => { r with silence := .expired })).swept windowed
  have ready := (sweepKept_modTransmitter _ p (fun t => { t with beacon := .ended }) rfl).swept silent
  exact (sweepKept_arbitrate _ p).swept ready

theorem Swept.disable (h : s.Swept) (p : Path) : (s.disable p).Swept := by
  have unknown := (sweepKept_setFar _ p none none).swept (h.setLocalState p .disabled .operator)
  exact (sweepKept_modEntry _ p _ rfl).swept
    ((sweepKept_modReceiver _ p (fun r => { r with silence := .stopped })).swept unknown)

theorem Swept.applyMargins (l : List (Path × Int)) (h : s.Swept) : (s.applyMargins l).Swept := by
  induction l generalizing s with
  | nil => exact h
  | cons e rest ih =>
    have reported := (sweepKept_modEntry s e.1 (fun x =>
      { x with margin := some e.2, reportTime := s.time.mono, stale := false
               reportDeadline := some (s.time.mono + msToNs x.reportTimeout) }) rfl).swept h
    exact ih (((sweepKept_recomputeDelay _ e.1).swept reported).evaluate e.1)

end State
end Sys2Proof.Machine

/-! Every input on the sweep (O59): frames, echoes and timeouts, then the rows and the commands. -/

namespace Sys2Proof.Machine
namespace State

variable {s t : State}

/-! ## A probe that ends (R148, R149) -/

/-- The outstanding probe ends, counted or not, and the burst goes on. -/
theorem Swept.probeEnds (h : s.Swept) (out : s.sounding.outstanding ≠ none) (g : Sounding → Sounding) (p : Path)
    (f : Stats → Stats)
    (same : (g s.sounding).state = s.sounding.state ∧ (g s.sounding).reason = s.sounding.reason
      ∧ (g s.sounding).settleDeadline = s.sounding.settleDeadline ∧ (g s.sounding).countCode = s.sounding.countCode
      ∧ (g s.sounding).current = s.sounding.current ∧ (g s.sounding).probeIndex = s.sounding.probeIndex
      ∧ (g s.sounding).pendingProbe = s.sounding.pendingProbe ∧ (g s.sounding).outstanding = none)
    (counted : (g s.sounding).valid + (g s.sounding).lost ≤ s.sounding.valid + s.sounding.lost + 1)
    (minimum : (g s.sounding).minimum = none ↔ (g s.sounding).valid = 0) :
    ((s.modSounding g).modStats p f).continueBurst.Swept := by
  have order := h.order.1
  obtain ⟨current, running⟩ := order.outstanding out
  have pending : s.sounding.pendingProbe = none := by
    by_contra held
    exact out (order.pending held).2.2
  have opened : s.sounding.probesOpen = 1 := if_neg fun quiet => out quiet.2
  have counts := order.counted
  obtain ⟨state, reason, settle, countCode, current', index, pending', outstanding⟩ := same
  have quiet : (g s.sounding).Quiet := ⟨pending'.trans pending, outstanding⟩
  have probes (q : Path) : (s.transmitter q).probe = none := by
    rw [h.order.2, Sounding.probeAt, pending]
    split <;> rfl
  have ended : (s.modSounding g).SweepOrder := by
    refine sweepOrder_of_no_probe ⟨fun some => ?_, fun held => absurd quiet.1 held, fun held => absurd quiet.2 held, ?_, ?_, ?_, ?_, ?_,
      ?_, minimum⟩ quiet.1 probes
    · show (g s.sounding).state ≠ .idle
      rw [state, running]
      nofun
    · show (g s.sounding).state = _ ↔ (g s.sounding).reason ≠ _
      rw [state, reason]; exact order.reason
    · show (g s.sounding).settleDeadline ≠ _ ↔ (g s.sounding).reason = _
      rw [settle, reason]; exact order.settle
    · show (g s.sounding).countCode ≤ _
      rw [countCode]; exact order.countCode
    · show (g s.sounding).probeIndex ≤ _
      rw [index]; exact order.probeIndex
    · show (g s.sounding).current ≠ _ → (g s.sounding).probeIndex ≤ (g s.sounding).countCode + 1
      rw [current', index, countCode]; exact order.burst
    · show (g s.sounding).valid + (g s.sounding).lost + (g s.sounding).probesOpen ≤ (g s.sounding).probeIndex
      rw [quiet.probesOpen, index]
      omega
  have swept : (s.modSounding g).Swept := (swept_iff _).mpr ⟨ended, fun p named => h.inService p (current' ▸ named)⟩
  exact ((sweepKept_modStats _ p f).swept swept).continueBurst quiet (state.trans running)

theorem Swept.judgeEcho (h : s.Swept) (out : s.sounding.outstanding ≠ none) (p : Path) (round residence : Nat) :
    (s.judgeEcho p round residence).Swept := by
  unfold State.judgeEcho
  split
  · exact h.probeEnds out _ p _ ⟨rfl, rfl, rfl, rfl, rfl, rfl, rfl, rfl⟩ (Nat.le_succ _) h.order.1.minimum
  · exact h.probeEnds out _ p _ ⟨rfl, rfl, rfl, rfl, rfl, rfl, rfl, rfl⟩ (by dsimp only; omega) (by simp)

theorem Swept.countStale (h : s.Swept) : (s.modSounding (fun x => { x with stale := inc32 x.stale })).Swept := by
  have order := h.order.1
  exact (swept_iff _).mpr ⟨⟨⟨order.active, order.pending, order.outstanding, order.reason, order.settle, order.countCode,
    order.probeIndex, order.burst, order.counted, order.minimum⟩, h.order.2⟩, h.inService⟩

theorem Swept.takeEcho (h : s.Swept) (p : Path) (tag : Byte) (index residence t4 : Nat) :
    (s.takeEcho p tag index residence t4).Swept := by
  unfold State.takeEcho
  split
  · rename_i o out
    split
    · exact h.judgeEcho (by rw [out]; exact Option.some_ne_none o) p _ _
    · exact h.countStale
  · exact h.countStale

theorem Swept.probeTimeout (h : s.Swept) : s.probeTimeout.Swept := by
  unfold State.probeTimeout
  split
  · rename_i due
    have out : s.sounding.outstanding ≠ none := by
      intro absent
      rw [State.probeTimeoutDue, absent] at due
      cases due
    split
    · exact h.probeEnds out _ _ _ ⟨rfl, rfl, rfl, rfl, rfl, rfl, rfl, rfl⟩ (by dsimp only; omega) h.order.1.minimum
    · exact h
  · exact h

theorem Swept.probeIssue (h : s.Swept) : s.probeIssue.Swept := by
  unfold State.probeIssue
  split
  · rename_i due
    simp only [State.probeIssueDue, Bool.and_eq_true, beq_iff_eq, Option.isNone_iff_eq_none] at due
    obtain ⟨⟨⟨⟨⟨running, -⟩, pending⟩, outstanding⟩, -⟩, -⟩ := due
    exact h.continueBurst ⟨pending, outstanding⟩ running
  · exact h

/-! ## Frames -/

theorem sweepKept_retire (i : StreamId) (untracked : Nat) (l : List Slot) (q : Seq) (run : Nat) (s : State) :
    s.SweepKept (State.retire i untracked l q run s) := by
  have gap (u : State) (first : Seq) (count : Nat) : u.SweepKept (u.gapRun i first count .advance) :=
    .mergeOnly (u.gapRun_mergeOnly i _ _ _)
  induction l generalizing q run s with
  | nil => exact gap _ _ _
  | cons slot rest ih =>
    cases slot with
    | empty => exact ih _ _ s
    | skipped => exact (gap s _ _).trans (ih _ _ _)
    | done info | held info _ => exact (gap s _ _).trans ((sweepKept_retireReport _ _ _).trans (ih _ _ _))

theorem sweepKept_firstArrival (s : State) (i : StreamId) (d : DataArrival) : s.SweepKept (s.firstArrival i d) := by
  have counted := (s.sweepKept_modRx i (fun x => { x with accepted := inc32 x.accepted })).trans
    (sweepKept_modStats _ d.path (fun x => { x with wins := inc32 x.wins }))
  unfold State.firstArrival
  dsimp only
  split_ifs
  · exact counted.trans (.mergeOnly (State.mergeOnly_trans (State.mergeOnly_trans (State.mergeOnly_trans
      (State.deliverArrival_mergeOnly _ i _ _ _) (State.modRx_mergeOnly _ i _)) (State.releaseWalk_mergeOnly _ i))
      (State.settleHold_mergeOnly _ i)))
  · exact counted.trans (.mergeOnly (State.holdArrival_mergeOnly _ i _ _))
  · exact counted.trans (.mergeOnly (State.deliverArrival_mergeOnly _ i _ _ _))

theorem sweepKept_advance (s : State) (i : StreamId) (d : DataArrival) : s.SweepKept (s.advance i d) := by
  have released (n : Nat) : s.SweepKept (if (s.rxStream i).ordered then s.releaseFirst i n else s) := by
    split
    · exact .mergeOnly (s.releaseFirst_mergeOnly i n)
    · exact .refl s
  have walked (u : State) (b : Bool) : u.SweepKept (if b then u.releaseWalk i else u) := by
    split
    · exact .mergeOnly (u.releaseWalk_mergeOnly i)
    · exact .refl u
  have settled (u : State) (b : Bool) : u.SweepKept (if b then u.settleHold i else u) := by
    split
    · exact .mergeOnly (u.settleHold_mergeOnly i)
    · exact .refl u
  exact (released _).trans ((sweepKept_retire i _ _ _ _ _).trans ((sweepKept_modRx _ i _).trans ((walked _ _).trans
    ((sweepKept_firstArrival _ i d).trans (settled _ _)))))

theorem sweepKept_lateCopy (s : State) (i : StreamId) (p : Path) : s.SweepKept (s.lateCopy i p) :=
  (s.sweepKept_modRx i _).trans (sweepKept_modStats _ p _)

theorem sweepKept_duplicate (s : State) (i : StreamId) (n : Nat) (slot : Slot) (first : Nat) (d : DataArrival) :
    s.SweepKept (s.duplicate i n slot first d) :=
  (s.sweepKept_modRx i _).trans ((sweepKept_modStats _ d.path _).trans (sweepKept_modRx _ i _))

theorem sweepKept_takeData (s : State) (d : DataArrival) : s.SweepKept (s.takeData d) := by
  have synchronized (u : State) : u.SweepKept (u.synchronize d.copy.stream d) :=
    (u.sweepKept_modRx _ _).trans (sweepKept_firstArrival _ _ d)
  unfold State.takeData State.mergeCopy State.takeTracked
  dsimp only
  split_ifs
  · exact s.sweepKept_modRx _ _
  · exact s.sweepKept_lateCopy _ _
  · split
    · exact s.sweepKept_firstArrival _ d
    · exact s.sweepKept_duplicate _ _ _ _ d
    · exact s.sweepKept_duplicate _ _ _ _ d
    · exact s.sweepKept_lateCopy _ _
    · exact .refl s
  · exact (s.sweepKept_modRx _ _).trans (sweepKept_firstArrival _ _ d)
  · exact s.sweepKept_advance _ d
  · exact SweepKept.trans (.mergeOnly (s.resync_mergeOnly _ _ _)) (synchronized _)
  · exact synchronized s

theorem sweepKept_echoService (s : State) (p : Path) (tag : Byte) (index arrival : Nat) :
    s.SweepKept (s.echoService p tag index arrival) := by
  unfold State.echoService
  exact (s.sweepKept_modTransmitter p _ rfl).trans (sweepKept_arbitrate _ p)

theorem Swept.passOnward (h : s.Swept) (p : Path) (a : Stamp) (f : PathFrame) : (s.passOnward p a f).Swept := by
  unfold State.passOnward
  split
  · exact (s.sweepKept_takeData _).swept h
  · exact h
  · exact (s.sweepKept_echoService p _ _ _).swept h
  · exact h.takeEcho p _ _ _ _

theorem Swept.validFrame (h : s.Swept) (p : Path) (arrival : Nat) (state : LocalState) (quality : Quality) :
    (s.validFrame p arrival state quality).Swept := by
  have restarted := (s.sweepKept_modReceiver p
    (fun r => { r with silence := .running (arrival + usToNs (s.entry p).silenceTimeout) })).swept h
  have counted := (sweepKept_modStats _ p (fun x => { x with rxValid := inc32 x.rxValid })).swept restarted
  exact ((sweepKept_setFar _ p _ _).swept counted).evaluate p

theorem Swept.checkError (h : s.Swept) (p : Path) : (s.checkError p).Swept := by
  have counted := (s.sweepKept_modStats p (fun x => { x with checkErrors := inc32 x.checkErrors })).swept h
  unfold State.checkError
  dsimp only
  split
  · exact counted
  · exact ((sweepKept_modEntry _ p _ rfl).swept counted).evaluate p

theorem Swept.pathFrameEnd (h : s.Swept) (p : Path) (bytes : List Byte) : (s.pathFrameEnd p bytes).Swept := by
  have ended := (s.sweepKept_modReceiver p (fun r => { r with arriving := none })).swept h
  unfold State.pathFrameEnd State.judgeFrame State.crossedFrame
  split
  · exact h
  · dsimp only
    split
    · exact ended
    · split
      · exact ended.checkError p
      · split_ifs
        · exact (sweepKept_modStats _ p _).swept ended
        · exact (sweepKept_modStats _ p _).swept ended
        · exact (ended.validFrame p _ _ _).passOnward p _ _
        · exact (sweepKept_modStats _ p _).swept ended

theorem sweepKept_dispatch (s : State) (i : StreamId) (origin : Tod) (mask : PathSet) (payload : List Byte) :
    s.SweepKept (s.dispatch i origin mask payload) := by
  have placed (copy : DataCopy) (u : State) (p : Path) : u.SweepKept (u.placeCopy copy p) := by
    unfold State.placeCopy
    split
    · exact u.sweepKept_modTransmitter p _ rfl
    · exact .refl u
  unfold State.dispatch
  refine (s.sweepKept_modTx i _).trans ((sweepKept_foldl _ _ (placed _) _).trans (sweepKept_foldl _ _ (fun u p => ?_) _))
  split
  · exact u.sweepKept_arbitrate p
  · exact .refl u

theorem sweepKept_intake (s : State) (i : StreamId) (origin : Tod) (payload : List Byte) :
    s.SweepKept (s.intake i origin payload) := by
  have dropped : s.SweepKept (Path.all.foldl (State.countTxDrop s.selector.dispatchSet) s) :=
    sweepKept_foldl _ _ (fun u p => by
      unfold State.countTxDrop
      split
      · exact u.sweepKept_modStats p _
      · exact .refl u) s
  unfold State.intake
  dsimp only
  split_ifs
  · exact s.sweepKept_modTx i _
  · exact (s.sweepKept_modTx i _).trans (sweepKept_raiseAll _ _)
  · exact dropped.trans ((sweepKept_modTx _ i _).trans (sweepKept_raiseAll _ _))
  · exact dropped.trans (sweepKept_dispatch _ i origin _ payload)

theorem sweepKept_localFrameIntake (s : State) (bytes : List Byte) : s.SweepKept (s.localFrameIntake bytes) := by
  have ended := s.sweepKept_modLocal (fun l => { l with arriving := none })
  unfold State.localFrameIntake
  split
  · exact .refl s
  · dsimp only
    split
    · exact ended
    · split
      · exact ended.trans (sweepKept_modLocal _ _)
      · exact ended.trans (sweepKept_intake _ _ _ _)

theorem sweepKept_frameTransmitEnd (s : State) (p : Path) : s.SweepKept (s.frameTransmitEnd p) := by
  unfold State.frameTransmitEnd
  split
  · exact .refl s
  · rename_i x _
    have counted : s.SweepKept (if x.uncounted then s else s.modStats p (fun st => st.sent x.frame.body)) := by
      split
      · exact .refl s
      · exact s.sweepKept_modStats p _
    exact counted.trans ((sweepKept_modTransmitter _ p _ rfl).trans (sweepKept_arbitrate _ p))

theorem sweepKept_beaconWaitEnd (s : State) (p : Path) : s.SweepKept (s.beaconWaitEnd p) := by
  unfold State.beaconWaitEnd
  split
  · exact (s.sweepKept_modTransmitter p _ rfl).trans (sweepKept_arbitrate _ p)
  · exact .refl s

/-! ## Resets -/

/-- A sweep at its reset values with no probe at a transmitter. -/
theorem swept_of_reset (sounding : s.sounding = Sounding.reset) (probes : ∀ p, (s.transmitter p).probe = none) : s.Swept := by
  refine SweepOrder.swept (sweepOrder_of_no_probe ?_ (by rw [sounding]; rfl) probes) (by rw [sounding]; rfl)
  rw [sounding]
  exact ⟨fun some => absurd rfl some, fun some => absurd rfl some, fun some => absurd rfl some, by decide, by decide, by decide,
    by decide, fun some => absurd rfl some, by decide, by decide⟩

theorem softReset_swept (s : State) : s.softReset.Swept := by
  unfold State.softReset
  refine (SweepKept.logOnly (State.resetLog_logOnly _)).swept (swept_of_reset rfl fun p => ?_)
  simp [State.transmitter, Transmitter.softReset]

theorem pinReset_swept (s : State) (site : BitVec 4) (role0 role1 role2 : BitVec 2) : (s.pinReset site role0 role1 role2).Swept :=
  swept_of_reset rfl fun p => by cases p <;> rfl

/-! ## Every input -/

theorem Swept.occurs (h : s.Swept) (run : s.Occurs t) : t.Swept := by
  cases run with
  | nothing => exact h
  | softResetPeriodEnd => unfold State.softResetPeriodEnd; split <;> exact h
  | pathFrameStart p => exact (s.sweepKept_modReceiver p _).swept h
  | pathFrameEnd p bytes => exact h.pathFrameEnd p bytes
  | silenceExpiry p =>
    unfold State.silenceExpiry
    split
    · exact ((sweepKept_setFar _ p none none).swept ((s.sweepKept_modReceiver p _).swept h)).evaluate p
    · exact h
  | windowEnd p =>
    unfold State.windowEnd
    split
    · exact ((s.sweepKept_modEntry p _ rfl).swept h).evaluate p
    · exact h
  | recoverHoldExpiry p =>
    unfold State.recoverHoldExpiry
    split
    · exact h.evaluate p
    · exact h
  | reportExpiry p =>
    unfold State.reportExpiry
    split
    · exact ((s.sweepKept_modEntry p _ rfl).trans (sweepKept_raiseAll _ _)).swept h
    · exact h
  | scoreDecay p => exact (s.sweepKept_scoreDecay p).swept h
  | guardExpiry =>
    unfold State.guardExpiry
    split
    · exact ((s.sweepKept_modSelector _).trans (sweepKept_reEvaluate _)).swept h
    · exact h
  | frameTransmitEnd p => exact (s.sweepKept_frameTransmitEnd p).swept h
  | beaconWaitEnd p => exact (s.sweepKept_beaconWaitEnd p).swept h
  | localFrameStart => exact (s.sweepKept_modLocal _).swept h
  | localFrameIntake bytes => exact (s.sweepKept_localFrameIntake bytes).swept h
  | localTransmitEnd =>
    unfold State.localTransmitEnd
    split
    · exact (s.sweepKept_modLocal _).swept h
    · exact h
  | holdExpiry i => exact (SweepKept.mergeOnly (s.expireAll_mergeOnly i)).swept h
  | probeIssue => exact h.probeIssue
  | probeTimeout => exact h.probeTimeout
  | settleDeadline =>
    unfold State.settleDeadline
    split
    · rename_i due
      simp only [State.settleDue, Bool.and_eq_true, beq_iff_eq] at due
      exact h.resume due.1.1
    · exact h
  | refPulse r dir => exact (SweepKept.timeOnly (s.refPulse_timeOnly r dir)).swept h
  | refTimeout r => exact (SweepKept.timeOnly (s.refTimeout_timeOnly r)).swept h
  | markEdge m dir => exact (SweepKept.timeOnly (s.markEdge_timeOnly m dir)).swept h
  | markerMatch o => exact (SweepKept.timeOnly (s.markerMatch_timeOnly o)).swept h
  | markerPulseEnd o => exact (SweepKept.timeOnly (s.markerPulseEnd_timeOnly o)).swept h
  | logHeadDone port => exact (SweepKept.readersOnly (s.logHeadDone_readersOnly port)).swept h
  | logImageDone port => exact (SweepKept.readersOnly (s.logImageDone_readersOnly port)).swept h
  | emptyImageDone port => exact (SweepKept.readersOnly (s.emptyImageDone_readersOnly port)).swept h
  | attentionDone port => exact h
  | interruptedRise port => exact (SweepKept.readersOnly (s.interruptedRise_readersOnly port)).swept h

theorem Swept.happens (h : s.Swept) (run : s.Happens t) : t.Swept := by
  cases run with
  | pinReset site r0 r1 r2 => exact s.pinReset_swept site r0 r1 r2
  | occurs run => exact h.occurs run

theorem Swept.startSweep (h : s.Swept) (a : SweepArgs) (range : a.InRange) (idle : s.sounding.state = .idle) :
    ((s.modSounding a.start).pathTurn turnFuel).Swept := by
  have order := h.order.1
  obtain ⟨-, -, countCode, -⟩ := range
  have current : s.sounding.current = none := by
    by_contra some
    exact order.active some idle
  have quiet := h.order.quiet_of_no_current current
  refine SweepOrder.pathTurn turnFuel (h.order.modSounding quiet a.start ?_ quiet.1) quiet rfl current
  exact ⟨fun some => absurd current some, fun held => absurd quiet.1 held, fun held => absurd quiet.2 held,
    ⟨nofun, fun some => absurd rfl some⟩, ⟨fun some => absurd rfl some, nofun⟩, countCode, order.probeIndex,
    fun some => absurd current some, by simp [SweepArgs.start, Sounding.probesOpen, quiet.1, quiet.2], by simp [SweepArgs.start]⟩

theorem Swept.acts {role : Role} {port : Port} (h : s.Swept) (run : s.Acts role port t) : t.Swept := by
  cases run with
  | nothing => exact h
  | softReset => exact s.softReset_swept
  | attentionMask => exact h
  | enable p => exact h.enable p
  | disable p => exact h.disable p
  | timers p a => exact ((s.sweepKept_modEntry p _ rfl).swept h).evaluate p
  | idleBank p bankOne b => exact (s.sweepKept_modEntry p _ (by cases bankOne <;> rfl)).swept h
  | activeBank p bankOne b =>
    exact (((s.sweepKept_modEntry p _ (by cases bankOne <;> rfl)).trans (sweepKept_recomputeDelay _ p)).swept h).evaluate p
  | selectBank p => exact (((s.sweepKept_modEntry p _ rfl).trans (sweepKept_recomputeDelay _ p)).swept h).evaluate p
  | baseDelay p => exact ((s.sweepKept_modEntry p _ rfl).trans (sweepKept_recomputeDelay _ p)).swept h
  | smoothing p => exact ((s.sweepKept_modEntry p _ rfl).trans (sweepKept_recomputeDelay _ p)).swept h
  | margins l => exact h.applyMargins l
  | lock p => exact (s.sweepKept_modEntry p _ rfl).swept h
  | lockAll => exact (sweepKept_foldl _ _ (fun u p => u.sweepKept_modEntry p _ rfl) s).swept h
  | clearStats p => exact (s.sweepKept_modStats p _).swept h
  | clearAllStats => exact (sweepKept_foldl _ _ (fun u p => u.sweepKept_modStats p _) s).swept h
  | peerSite => exact h
  | selection => exact ((s.sweepKept_modSelector _).trans (sweepKept_reEvaluate _)).swept h
  | pin => exact ((s.sweepKept_modSelector _).trans (sweepKept_reEvaluate _)).swept h
  | stream => exact h
  | reshape i =>
    exact ((SweepKept.mergeOnly (s.resync_mergeOnly i _ _)).trans ((sweepKept_modRx _ i _).trans (sweepKept_modTx _ i _))).swept h
  | resync i => exact (SweepKept.mergeOnly (s.resync_mergeOnly i _ _)).swept h
  | txSequence => exact h
  | loadTime tod _ range =>
    exact (SweepKept.timeOnly (State.setTime_timeOnly (s := s) (sec := tod.sec.toNat) (ns := tod.ns)
      (by simp [State.setTime, billion, Nat.not_le.mpr range]))).swept h
  | stepTime offset => exact ((SweepKept.of_tables rfl rfl rfl).trans (.timeOnly (State.noteStep_timeOnly _ _ _ _))).swept h
  | frequency => exact h
  | discipline => exact ((SweepKept.of_tables rfl rfl rfl).trans (.timeOnly (State.noteQuality_timeOnly _ _ _))).swept h
  | capture c => exact (SweepKept.timeOnly (s.storeCapture_timeOnly c _ _ _)).swept h
  | readCapture => exact h
  | marker => exact h
  | startSweep a _ range idle => exact h.startSweep a range idle
  | suspendSweep => exact h.suspendSweep
  | resume _ suspended => exact h.resume suspended
  | cancelSweep => exact h.cancelSweep
  | filter =>
    exact (SweepKept.readersOnly (State.readersOnly_trans (s.modReader_readersOnly port _) (State.checkLogCondition_readersOnly _ _))).swept h
  | seekOldest =>
    exact (SweepKept.readersOnly (State.readersOnly_trans (s.modReader_readersOnly port _) (State.checkLogCondition_readersOnly _ _))).swept h
  | seekNext =>
    exact (SweepKept.readersOnly (State.readersOnly_trans (s.modReader_readersOnly port _) (State.checkLogCondition_readersOnly _ _))).swept h
  | link us =>
    exact ((SweepKept.of_tables rfl rfl rfl).trans (sweepKept_foldl _ _ (fun u p => u.sweepKept_beaconWaitEnd p) _)).swept h

end State

theorem State.kept_swept : State.Kept State.Swept :=
  .of_acts (fun _ _ h => h) (fun _ h => h) (fun _ _ run h => h.happens run) (fun _ _ _ _ run h => h.acts run)
    (fun _ _ _ _ h => h)

/-- Settles O59: a tick, every row and every command keep the sweep and the probes consistent. -/
theorem sweptKept : Obligations.SweptKept := fun _ _ swept run => State.kept_swept.step swept run

end Sys2Proof.Machine

/-! What taking a record leaves of the log, of each reading context and of each port (O16). -/

namespace Sys2Proof.Machine

/-! ## The overwrite check (R134) -/

/-- A reading context after the overwrite of a serial (R134). -/
def ReadCtx.overwritten (serial : Seq) (c : ReadCtx) : ReadCtx :=
  if c.cursor = serial then { c with cursor := c.cursor + 1, lost := inc16 c.lost } else c

/-- A port context after the overwrite of a serial, its cursor given (R134, R139). -/
def PortCtx.overwritten (serial cursor : Seq) (c : PortCtx) : PortCtx :=
  let moved : PortCtx := { c with reading := c.reading.map (Reading.overwritten serial) }
  if cursor = serial then moved.raise .lost else moved

/-- A port context after the LOG check of a record, `due` when the record matches and the log condition holds (R136). -/
def PortCtx.noted (due : Bool) (c : PortCtx) : PortCtx := if due then c.raise .log else c

theorem ReadCtx.overwritten_watermark (serial : Seq) (c : ReadCtx) : (c.overwritten serial).watermark = c.watermark := by
  unfold ReadCtx.overwritten
  split <;> rfl

theorem ReadCtx.overwritten_filter (serial : Seq) (c : ReadCtx) : (c.overwritten serial).filter = c.filter := by
  unfold ReadCtx.overwritten
  split <;> rfl

namespace State

variable (s : State)

theorem overwriteCheck_reader (serial : Seq) (p q : Port) :
    (s.overwriteCheck serial p).reader q = if q = p then (s.reader q).overwritten serial else s.reader q := by
  unfold State.overwriteCheck ReadCtx.overwritten
  dsimp only
  by_cases named : q = p
  · subst named
    split_ifs <;> simp_all [State.raiseOn]
  · split_ifs <;> simp [State.raiseOn, named]

theorem overwriteCheck_port (serial : Seq) (p q : Port) : (s.overwriteCheck serial p).port q
    = if q = p then (s.port q).overwritten serial (s.reader q).cursor else s.port q := by
  unfold State.overwriteCheck PortCtx.overwritten
  dsimp only
  by_cases named : q = p
  · subst named
    split_ifs <;> simp_all [State.raiseOn]
  · split_ifs <;> simp [State.raiseOn, named]

theorem overwriteCheck_records (serial : Seq) (p : Port) : (s.overwriteCheck serial p).log.records = s.log.records := by
  unfold State.overwriteCheck
  dsimp only
  split <;> rfl

theorem overwriteCheck_next (serial : Seq) (p : Port) : (s.overwriteCheck serial p).log.next = s.log.next := by
  unfold State.overwriteCheck
  dsimp only
  split <;> rfl

theorem overwriteChecks_reader (serial : Seq) (q : Port) :
    (Port.all.foldl (State.overwriteCheck serial) s).reader q = (s.reader q).overwritten serial := by
  cases q <;> simp [Port.all, overwriteCheck_reader]

theorem overwriteChecks_port (serial : Seq) (q : Port) :
    (Port.all.foldl (State.overwriteCheck serial) s).port q = (s.port q).overwritten serial (s.reader q).cursor := by
  cases q <;> simp [Port.all, overwriteCheck_port, overwriteCheck_reader]

theorem overwriteChecks_records (serial : Seq) :
    (Port.all.foldl (State.overwriteCheck serial) s).log.records = s.log.records := by
  simp [Port.all, overwriteCheck_records]

theorem overwriteChecks_next (serial : Seq) : (Port.all.foldl (State.overwriteCheck serial) s).log.next = s.log.next := by
  simp [Port.all, overwriteCheck_next]

/-! ## The LOG check (R136) -/

theorem recordCheck_log (body : RecordBody) (p : Port) : (s.recordCheck body p).log = s.log := by
  unfold State.recordCheck State.checkLogCondition
  split_ifs <;> rfl

theorem unread_congr {s t : State} (log : t.log = s.log) (p : Port) : t.unread p = s.unread p := by
  simp only [State.unread, State.reader, log]

theorem recordCheck_port (body : RecordBody) (p q : Port) : (s.recordCheck body p).port q
    = if q = p then (s.port q).noted ((s.reader q).accepts body && s.logCondition q) else s.port q := by
  unfold State.recordCheck State.checkLogCondition PortCtx.noted
  by_cases named : q = p
  · subst named
    split_ifs <;> simp_all [State.raiseOn_port]
  · split_ifs <;> simp [State.raiseOn_port, named]

theorem recordChecks_log (body : RecordBody) : (Port.all.foldl (State.recordCheck body) s).log = s.log := by
  simp [Port.all, recordCheck_log]

theorem recordChecks_port (body : RecordBody) (q : Port) : (Port.all.foldl (State.recordCheck body) s).port q
    = (s.port q).noted ((s.reader q).accepts body && s.logCondition q) := by
  have reader (p q : Port) : (s.recordCheck body p).reader q = s.reader q := by simp only [State.reader, recordCheck_log]
  have condition (p q : Port) : (s.recordCheck body p).logCondition q = s.logCondition q := by
    simp only [State.logCondition, reader, State.unread_congr (s.recordCheck_log body p)]
  have reader' (p p' q : Port) : ((s.recordCheck body p).recordCheck body p').reader q = s.reader q := by
    simp only [State.reader, recordCheck_log]
  have condition' (p p' q : Port) : ((s.recordCheck body p).recordCheck body p').logCondition q = s.logCondition q := by
    simp only [State.logCondition, reader', State.unread_congr (recordCheck_log _ body p'),
      State.unread_congr (s.recordCheck_log body p)]
  cases q <;> simp [Port.all, recordCheck_port, reader, condition, reader', condition']

/-! ## A record taken -/

/-- The record stored and the cursors checked, before the LOG checks (R133, R134). -/
def recordStored (body : RecordBody) : State :=
  let stored := s.modLog (fun l => l.store ⟨l.next, s.time.tod, s.time.quality, body⟩)
  if 1024 ≤ s.log.records.length then Port.all.foldl (State.overwriteCheck s.log.oldest) stored else stored

variable (body : RecordBody) (p : Port)

theorem logWrite_eq : s.logWrite body = Port.all.foldl (State.recordCheck body) (s.recordStored body) := by
  unfold State.logWrite State.recordStored logPlaces
  simp only [decide_eq_true_eq]

theorem recordStored_reader : (s.recordStored body).reader p
    = if 1024 ≤ s.log.records.length then (s.reader p).overwritten s.log.oldest else s.reader p := by
  unfold State.recordStored
  dsimp only
  split
  · exact overwriteChecks_reader _ _ p
  · rfl

theorem recordStored_port : (s.recordStored body).port p
    = if 1024 ≤ s.log.records.length then (s.port p).overwritten s.log.oldest (s.reader p).cursor else s.port p := by
  unfold State.recordStored
  dsimp only
  split
  · exact overwriteChecks_port _ _ p
  · rfl

theorem logWrite_log : (s.logWrite body).log = (s.recordStored body).log := by
  rw [logWrite_eq, recordChecks_log]

theorem logWrite_next : (s.logWrite body).log.next = s.log.next + 1 := by
  rw [logWrite_log]
  unfold State.recordStored
  dsimp only
  split
  · exact overwriteChecks_next _ _
  · rfl

theorem logWrite_records : (s.logWrite body).log.records
    = (if 1024 ≤ s.log.records.length then s.log.records.tail else s.log.records)
      ++ [⟨s.log.next, s.time.tod, s.time.quality, body⟩] := by
  have stored : (s.log.store ⟨s.log.next, s.time.tod, s.time.quality, body⟩).records
      = (if 1024 ≤ s.log.records.length then s.log.records.tail else s.log.records)
        ++ [⟨s.log.next, s.time.tod, s.time.quality, body⟩] := by
    simp only [Log.store, logPlaces, List.drop_one, ← Nat.not_le, ite_not]
  rw [logWrite_log, ← stored]
  unfold State.recordStored
  dsimp only
  split
  · exact overwriteChecks_records _ _
  · rfl

theorem logWrite_reader : (s.logWrite body).reader p
    = if 1024 ≤ s.log.records.length then (s.reader p).overwritten s.log.oldest else s.reader p := by
  rw [← recordStored_reader s body p]
  simp only [State.reader, logWrite_log]

theorem logWrite_watermark : ((s.logWrite body).reader p).watermark = (s.reader p).watermark := by
  rw [logWrite_reader]
  split
  · exact ReadCtx.overwritten_watermark _ _
  · rfl

theorem logWrite_port : (s.logWrite body).port p
    = (if 1024 ≤ s.log.records.length then (s.port p).overwritten s.log.oldest (s.reader p).cursor else s.port p).noted
        ((s.reader p).accepts body && decide ((s.reader p).watermark ≤ (s.logWrite body).unread p)) := by
  have condition : (s.recordStored body).logCondition p
      = decide ((s.reader p).watermark ≤ (s.logWrite body).unread p) := by
    rw [State.logCondition, decide_eq_decide, ← State.unread_congr (logWrite_log s body), ← logWrite_watermark s body]
    simp only [State.reader, logWrite_log]
  have accepts : ((s.recordStored body).reader p).accepts body = (s.reader p).accepts body := by
    rw [recordStored_reader]
    split
    · simp only [ReadCtx.accepts, ReadCtx.overwritten_filter]
    · rfl
  rw [← condition, ← accepts, ← recordStored_port s body]
  conv_lhs => rw [logWrite_eq]
  exact recordChecks_port _ body p

/-- Attention that the overwrite check and the LOG check of one port raise. -/
theorem logWrite_has (k : AttnKind) : AttnSet.has ((s.logWrite body).port p).pending k
    = (AttnSet.has (s.port p).pending k
      || decide (k = .lost ∧ 1024 ≤ s.log.records.length ∧ (s.reader p).cursor = s.log.oldest)
      || decide (k = .log ∧ (s.reader p).accepts body = true ∧ (s.reader p).watermark ≤ (s.logWrite body).unread p)) := by
  have overwritten : AttnSet.has (if 1024 ≤ s.log.records.length then
        (s.port p).overwritten s.log.oldest (s.reader p).cursor else s.port p).pending k
      = (AttnSet.has (s.port p).pending k
        || decide (k = .lost ∧ 1024 ≤ s.log.records.length ∧ (s.reader p).cursor = s.log.oldest)) := by
    unfold PortCtx.overwritten
    dsimp only
    split_ifs with full cursor <;> simp [*]
  rw [logWrite_port, PortCtx.noted, ← overwritten]
  split
  · rename_i due
    simp only [Bool.and_eq_true, decide_eq_true_eq] at due
    simp [due.1, due.2]
  · rename_i idle
    simp only [Bool.and_eq_true, decide_eq_true_eq] at idle
    simp [idle]

end State

/-- Settles O16: the record, the reading contexts and the ports are those the two checks leave. -/
theorem recordTaken : Obligations.RecordTaken := by
  intro s body t full
  refine ⟨s.logWrite_next body, s.logWrite_records body, fun p isFull cursor => ?overwritten, fun p kept => ?kept,
    fun p matches_ due => ?due, fun p idle => ?idle, fun p k notLog notLost => ?others, (s.logWrite_logOnly body).2,
    (s.logWrite_logOnly body).1⟩
  case overwritten =>
    refine ⟨?_, by rw [s.logWrite_has]; simp [cursor, show 1024 ≤ s.log.records.length from isFull]⟩
    rw [s.logWrite_reader, if_pos isFull, ReadCtx.overwritten, if_pos cursor]
    rfl
  case kept =>
    refine ⟨?_, by rw [s.logWrite_has, decide_eq_false (fun h => kept h.2)]; simp⟩
    rw [s.logWrite_reader]
    split
    · rename_i isFull
      exact if_neg fun cursor => kept ⟨isFull, cursor⟩
    · rfl
  case due =>
    rw [s.logWrite_watermark] at due
    rw [s.logWrite_has, decide_eq_true (p := AttnKind.log = .log ∧ _) ⟨rfl, matches_, due⟩, Bool.or_true]
  case idle =>
    rw [s.logWrite_watermark] at idle
    rw [s.logWrite_has, decide_eq_false (p := AttnKind.log = .log ∧ _)]
    · simp
    · rintro ⟨-, accepted, due⟩
      rcases idle with other | below
      · exact absurd (accepted.symm.trans other) (by decide)
      · exact absurd due (Nat.not_le.mpr below)
  case others => rw [s.logWrite_has]; simp [notLog, notLost]

end Sys2Proof.Machine

/-! The bounds of the part (O57), table by table: each field of the state with the bounds of what it holds, and what the
updates of one table keep. -/

namespace Sys2Proof.Machine

theorem inc32_le (x : Nat) : inc32 x ≤ max32 := Nat.min_le_left _ _
theorem inc16_le (x : Nat) : inc16 x ≤ max16 := Nat.min_le_left _ _
theorem satAdd_le (bound x n : Nat) : satAdd bound x n ≤ bound := Nat.min_le_left _ _

/-! ## The tables -/

/-- The clock values, the references, the channels, the skipped counts and the settings of the Time Unit keep their bounds. -/
structure TimeUnit.Within (t : TimeUnit) : Prop where
  ns : t.tod.ns < 1000000000
  rem : t.rem < 1000000000
  lockCount : t.lockCount ≤ 4
  frequency : -500000 ≤ t.f ∧ t.f ≤ 500000
  refs : ∀ r : Ref, t.refs[r.idx].run ≤ 3
  channels : ∀ k : Channel, t.channels[k.idx].bounded
  skipped : ∀ o : Out, t.markers[o.idx].skipped ≤ max16
  settings : 1000 ≤ t.ts ∧ t.ts ≤ 1000000 ∧ 1 ≤ t.tl ∧ t.tl ≤ 65535 ∧ t.ki ≤ 15

/-- The least sample, the stale echoes and the settings of the sweep keep their bounds. -/
structure Sounding.Within (x : Sounding) : Prop where
  minimum : ∀ m, x.minimum = some m → m ≤ 16777215
  stale : x.stale ≤ max32
  settings : x.countCode ≤ 15 ∧ 10 ≤ x.spacing ∧ x.spacing ≤ 65535 ∧ 1 ≤ x.timeout ∧ x.timeout ≤ 65535 ∧ x.settle ≤ 65535

/-- The counts and the hold time of a stream's receive side keep their bounds. -/
structure RxStream.Within (x : RxStream) : Prop where
  counted : x.counted
  holdTime : 1 ≤ x.holdTime ∧ x.holdTime ≤ 65535

/-- The records, the lost counts, the cursors and the watermarks keep their bounds. -/
structure Log.Within (l : Log) : Prop where
  places : l.records.length ≤ 1024
  lost : ∀ p : Port, l.readers[p.idx].lost ≤ 65535
  inOrder : l.inOrder
  watermark : ∀ p : Port, 1 ≤ l.readers[p.idx].watermark ∧ l.readers[p.idx].watermark ≤ 1024

/-- The delivery queue and the malformed count keep their bounds. -/
def LocalPort.Within (l : LocalPort) : Prop := l.queue.length ≤ 64 ∧ l.malformed ≤ max32

/-- The selection parameters keep their bounds. -/
def Selector.Within (x : Selector) : Prop := x.hysteresis ≤ 65535 ∧ x.widthCode ≤ 4 ∧ x.guardTime ≤ 65535

/-- State.Bounded with its clauses gathered by the field of the state they speak of. -/
structure State.Within (s : State) : Prop where
  entries : ∀ p, (s.entry p).bounded
  queues : ∀ p, (s.transmitter p).queue.length ≤ 32
  ports : ∀ p, (s.port p).bounded
  time : s.time.Within
  sounding : s.sounding.Within
  rx : ∀ i, (s.rxStream i).Within
  tx : ∀ i, (s.txStream i).counted
  lane : s.localPort.Within
  log : s.log.Within
  selector : s.selector.Within
  beacon : 10 ≤ s.beaconInterval ∧ s.beaconInterval ≤ 10000

theorem State.bounded_iff (s : State) : s.Bounded ↔ s.Within := by
  constructor
  · rintro ⟨entries, queues, delivery, places, lost, ports, ⟨ns, rem, lock, low, high, refs, channels⟩, minimum,
      ⟨rx, tx, malformed, stale, skipped⟩, order, beacon, selector, settings, watermark, hold, sweep⟩
    exact ⟨entries, queues, ports, ⟨ns, rem, lock, ⟨low, high⟩, refs, channels, skipped, settings⟩, ⟨minimum, stale, sweep⟩,
      fun i => ⟨rx i, hold i⟩, tx, ⟨delivery, malformed⟩, ⟨places, lost, order, watermark⟩, selector, beacon⟩
  · rintro ⟨entries, queues, ports, ⟨ns, rem, lock, ⟨low, high⟩, refs, channels, skipped, settings⟩, ⟨minimum, stale, sweep⟩,
      rx, tx, ⟨delivery, malformed⟩, ⟨places, lost, order, watermark⟩, selector, beacon⟩
    exact ⟨entries, queues, delivery, places, lost, ports, ⟨ns, rem, lock, low, high, refs, channels⟩, minimum,
      ⟨fun i => (rx i).1, tx, malformed, stale, skipped⟩, order, beacon, selector, settings, watermark, fun i => (rx i).2, sweep⟩

/-! ## Updates of one table -/

/-- Attention raised moves no count of a port. -/
theorem PortCtx.raisedFrom.bounded {c c' : PortCtx} (h : c.raisedFrom c') (bounded : c.bounded) :
    c'.bounded := by
  rw [h.1]
  exact bounded

namespace State.Within

variable {s t : State}

theorem modEntry (h : s.Within) (p : Path) (g : PathEntry → PathEntry) (keep : (s.entry p).bounded → (g (s.entry p)).bounded) :
    (s.modEntry p g).Within := by
  refine { h with entries := fun q => ?_ }
  rw [State.modEntry_entry]
  split
  · exact keep (h.entries p)
  · exact h.entries q

theorem modTransmitter (h : s.Within) (p : Path) (g : Transmitter → Transmitter)
    (keep : (s.transmitter p).queue.length ≤ 32 → (g (s.transmitter p)).queue.length ≤ 32) : (s.modTransmitter p g).Within := by
  refine { h with queues := fun q => ?_ }
  rw [State.modTransmitter_transmitter]
  split
  · exact keep (h.queues p)
  · exact h.queues q

theorem modPort (h : s.Within) (p : Port) (g : PortCtx → PortCtx) (keep : (s.port p).bounded → (g (s.port p)).bounded) :
    (s.modPort p g).Within := by
  refine { h with ports := fun q => ?_ }
  rw [State.modPort_port]
  split
  · exact keep (h.ports p)
  · exact h.ports q

theorem modRx (h : s.Within) (i : StreamId) (g : RxStream → RxStream) (keep : (s.rxStream i).Within → (g (s.rxStream i)).Within) :
    (s.modRx i g).Within := by
  refine { h with rx := fun j => ?_ }
  rw [State.modRx_rxStream]
  split
  · exact keep (h.rx i)
  · exact h.rx j

theorem modTx (h : s.Within) (i : StreamId) (g : TxStream → TxStream) (keep : (s.txStream i).counted → (g (s.txStream i)).counted) :
    (s.modTx i g).Within := by
  refine { h with tx := fun j => ?_ }
  rw [State.modTx_txStream]
  split
  · exact keep (h.tx i)
  · exact h.tx j

theorem modSounding (h : s.Within) (g : Sounding → Sounding) (keep : s.sounding.Within → (g s.sounding).Within) :
    (s.modSounding g).Within := { h with sounding := keep h.sounding }

theorem modTime (h : s.Within) (g : TimeUnit → TimeUnit) (keep : s.time.Within → (g s.time).Within) : (s.modTime g).Within :=
  { h with time := keep h.time }

theorem modLocal (h : s.Within) (g : LocalPort → LocalPort) (keep : s.localPort.Within → (g s.localPort).Within) :
    (s.modLocal g).Within := { h with lane := keep h.lane }

theorem modSelector (h : s.Within) (g : Selector → Selector) (keep : s.selector.Within → (g s.selector).Within) :
    (s.modSelector g).Within := { h with selector := keep h.selector }

theorem modReceiver (h : s.Within) (p : Path) (g : Receiver → Receiver) : (s.modReceiver p g).Within := { h with }

theorem modStats (h : s.Within) (p : Path) (g : Stats → Stats) (keep : (s.entry p).stats.bounded → (g (s.entry p).stats).bounded) :
    (s.modStats p g).Within :=
  h.modEntry p _ fun ⟨score, eff, delay, window, stats, configured⟩ => ⟨score, eff, delay, window, keep stats, configured⟩

end State.Within
end Sys2Proof.Machine

/-! The references, channels and marker outputs read after an update of one, and the bounds of the Time Unit and of the log
(O57). -/

namespace Sys2Proof.Machine

/-! ## Reading an updated table of the Time Unit -/

theorem Ref.idx_inj {r r' : Ref} : r.idx = r'.idx ↔ r = r' := by cases r <;> cases r' <;> decide
theorem Channel.idx_inj {c c' : Channel} : c.idx = c'.idx ↔ c = c' := by cases c <;> cases c' <;> decide
theorem Out.idx_inj {o o' : Out} : o.idx = o'.idx ↔ o = o' := by cases o <;> cases o' <;> decide

theorem TimeUnit.modRef_ref (t : TimeUnit) (r : Ref) (g : RefState → RefState) (r' : Ref) :
    (t.modRef r g).refs[r'.idx] = if r' = r then g t.refs[r.idx] else t.refs[r'.idx] := by
  by_cases named : r' = r
  · simp [TimeUnit.modRef, named]
  · have other : r.idx.val ≠ r'.idx.val := fun e => named (Ref.idx_inj.mp (Fin.ext e)).symm
    simp [TimeUnit.modRef, named, Vector.getElem_set_ne _ _ other]

theorem TimeUnit.modChannel_channel (t : TimeUnit) (c : Channel) (g : CaptureState → CaptureState) (c' : Channel) :
    (t.modChannel c g).channels[c'.idx] = if c' = c then g t.channels[c.idx] else t.channels[c'.idx] := by
  by_cases named : c' = c
  · simp [TimeUnit.modChannel, named]
  · have other : c.idx.val ≠ c'.idx.val := fun e => named (Channel.idx_inj.mp (Fin.ext e)).symm
    simp [TimeUnit.modChannel, named, Vector.getElem_set_ne _ _ other]

theorem TimeUnit.modMarker_marker (t : TimeUnit) (o : Out) (g : Marker → Marker) (o' : Out) :
    (t.modMarker o g).markers[o'.idx] = if o' = o then g t.markers[o.idx] else t.markers[o'.idx] := by
  by_cases named : o' = o
  · simp [TimeUnit.modMarker, named]
  · have other : o.idx.val ≠ o'.idx.val := fun e => named (Out.idx_inj.mp (Fin.ext e)).symm
    simp [TimeUnit.modMarker, named, Vector.getElem_set_ne _ _ other]

theorem TimeUnit.stepMarkers_marker (before : Tod) (d : Int) (t : TimeUnit) (o : Out) :
    (t.stepMarkers before d).markers[o.idx] = t.markers[o.idx].step t.mono before d := by
  simp [TimeUnit.stepMarkers]

theorem Tod.add_ns_lt (t : Tod) (offset : Int) : (t.add offset).ns < 1000000000 := by
  show (((t.ns : Int) + offset) % 1000000000).toNat < 1000000000
  omega

theorem clampRate_range (x : Int) : -500000 ≤ clampRate x ∧ clampRate x ≤ 500000 := by
  unfold clampRate clampInt
  omega

/-! ## The Time Unit keeps its bounds -/

theorem Marker.step_skipped {m : Marker} (h : m.skipped ≤ max16) (mono : Nat) (before : Tod) (d : Int) :
    (m.step mono before d).skipped ≤ max16 := by
  rcases m.step_cases mono before d with e | ⟨-, -, -, e⟩ <;> rw [e]
  · exact h
  · exact satAdd_le _ _ _

theorem Marker.settle_skipped {m : Marker} (h : m.skipped ≤ max16) (mono : Nat) (tod : Tod) :
    (m.settle mono tod).skipped ≤ max16 := by
  unfold Marker.settle
  dsimp only
  split
  · exact satAdd_le _ _ _
  · exact h

theorem Marker.takeMatch_skipped (m : Marker) (mono : Nat) : (m.takeMatch mono).skipped = m.skipped := by
  unfold Marker.takeMatch
  split <;> rfl

theorem RefState.pulse_run {r : RefState} (mono : Nat) : (r.pulse mono).run ≤ 3 := by
  unfold RefState.pulse
  split_ifs
  · exact Nat.le_of_ble_eq_true rfl
  · exact Nat.min_le_left _ _
  · exact Nat.le_of_ble_eq_true rfl

theorem CaptureState.push_bounded {c : CaptureState} (h : c.bounded) (v : CaptureStamp) : (c.push v).bounded := by
  obtain ⟨places, lost⟩ := h
  unfold CaptureState.push
  split
  · rename_i room
    refine ⟨by simpa using room, fun marked => ?_⟩
    rw [lost marked] at room
    exact absurd room (by decide)
  · have full : c.fifo.length = 2 := by omega
    exact ⟨by simp [full], fun _ => by simp [full]⟩

theorem CaptureState.pop_bounded {c : CaptureState} (h : c.bounded) : c.pop.bounded :=
  ⟨by simpa [CaptureState.pop] using h.1.trans (by decide), nofun⟩

namespace TimeUnit.Within

variable {t : TimeUnit}

theorem advance (h : t.Within) : t.advance.Within :=
  { h with ns := Tod.add_ns_lt _ _, rem := Nat.mod_lt _ (by decide) }

theorem stepMarkers (h : t.Within) (before : Tod) (d : Int) : (t.stepMarkers before d).Within := by
  refine { h with skipped := fun o => ?_ }
  rw [TimeUnit.stepMarkers_marker]
  exact Marker.step_skipped (h.skipped o) _ _ _

theorem relock (h : t.Within) : t.relock.Within := { h with lockCount := Nat.zero_le _ }

theorem load (h : t.Within) (tod : Tod) (range : tod.ns < 1000000000) : (t.load tod).Within := by
  have loaded : TimeUnit.Within { t with tod := tod, rem := 0 } := { h with ns := range, rem := Nat.zero_lt_succ _ }
  have stepped := loaded.stepMarkers t.tod (todDiff tod t.tod)
  unfold TimeUnit.load
  dsimp only
  split
  · exact stepped.relock
  · exact { stepped with }

theorem shift (h : t.Within) (offset : Int) : (t.shift offset).Within := by
  have moved : TimeUnit.Within { t with tod := t.tod.add offset } := { h with ns := Tod.add_ns_lt _ _ }
  exact moved.stepMarkers _ _

theorem switchDiscipline (h : t.Within) (on : Bool) : (t.switchDiscipline on).Within := by
  unfold TimeUnit.switchDiscipline
  split
  · split
    · exact { h with lockCount := Nat.zero_le _ }
    · exact { h with }
  · exact { h with lockCount := Nat.zero_le _ }
  · exact h

theorem storeDiscipline (h : t.Within) (on : Bool) (a : DisciplineArgs) (range : a.InRange) : (a.store on t).Within :=
  { h.switchDiscipline on with settings := range }

theorem afterSwitch (h : t.Within) (new : Option Ref) : (t.afterSwitch new).Within := by
  unfold TimeUnit.afterSwitch
  split
  · exact { h with }
  · split
    · exact { h with lockCount := Nat.zero_le _ }
    · exact { h with lockCount := Nat.zero_le _ }
    · exact { h with }
    · exact { h with lockCount := Nat.zero_le _ }
    · exact { h with }
    · exact { h with lockCount := Nat.zero_le _ }
    · exact { h with lockCount := Nat.zero_le _ }

theorem slew (h : t.Within) (e : Int) : (t.slew e).Within := by
  unfold TimeUnit.slew
  dsimp only
  split
  · exact { h with lockCount := Nat.min_le_left _ _, frequency := clampRate_range _ }
  · exact { h with lockCount := Nat.zero_le _, frequency := clampRate_range _ }

theorem modRef (h : t.Within) (r : Ref) (g : RefState → RefState) (keep : (g t.refs[r.idx]).run ≤ 3) : (t.modRef r g).Within := by
  refine { h with refs := fun r' => ?_ }
  rw [TimeUnit.modRef_ref]
  split
  · exact keep
  · exact h.refs r'

theorem modChannel (h : t.Within) (c : Channel) (g : CaptureState → CaptureState) (keep : (g t.channels[c.idx]).bounded) :
    (t.modChannel c g).Within := by
  refine { h with channels := fun c' => ?_ }
  rw [TimeUnit.modChannel_channel]
  split
  · exact keep
  · exact h.channels c'

theorem modMarker (h : t.Within) (o : Out) (g : Marker → Marker) (keep : (g t.markers[o.idx]).skipped ≤ max16) :
    (t.modMarker o g).Within := by
  refine { h with skipped := fun o' => ?_ }
  rw [TimeUnit.modMarker_marker]
  split
  · exact keep
  · exact h.skipped o'

theorem softReset (h : t.Within) : t.softReset.Within :=
  { h with
    channels := fun c => by simp [TimeUnit.softReset, CaptureState.bounded]
    skipped := fun o => by simp [TimeUnit.softReset, Marker.reset] }

end TimeUnit.Within

theorem TimeUnit.reset_within : TimeUnit.reset.Within :=
  ⟨by decide, by decide, by decide, by decide, fun r => by cases r <;> decide, fun c => by cases c <;> exact ⟨by decide, by decide⟩,
    fun o => by cases o <;> decide, by decide⟩

/-! ## The log keeps its bounds -/

theorem Seq.add_ofNat_succ (q : Seq) (k : Nat) : q + BitVec.ofNat 32 (k + 1) = q + 1 + BitVec.ofNat 32 k := by
  bv_omega

/-- Records whose serials run from a serial on. -/
def serialsFrom (first : Seq) (records : List LogRecord) : Prop :=
  ∀ (k : Nat) (r : LogRecord), records[k]? = some r → r.serial = first + BitVec.ofNat 32 k

theorem serialsFrom_tail {first : Seq} {records : List LogRecord} (h : serialsFrom first records) :
    serialsFrom (first + 1) records.tail := by
  intro k r found
  rw [List.getElem?_tail] at found
  rw [h (k + 1) r found, Seq.add_ofNat_succ]

theorem serialsFrom_append {first : Seq} {records : List LogRecord} {r : LogRecord} (h : serialsFrom first records)
    (next : r.serial = first + BitVec.ofNat 32 records.length) : serialsFrom first (records ++ [r]) := by
  intro k x found
  rcases Nat.lt_or_ge k records.length with before | after
  · exact h k x (by rwa [List.getElem?_append_left before] at found)
  · rw [List.getElem?_append_right after] at found
    have last : k = records.length := by
      by_contra other
      rw [List.getElem?_eq_none (by simp; omega)] at found
      cases found
    subst last
    simp only [Nat.sub_self, List.getElem?_cons_zero, Option.some.injEq] at found
    rw [← found, next]

/-- The oldest serial after a record is stored (R133). -/
theorem State.logWrite_oldest (s : State) (body : RecordBody) (places : s.log.records.length ≤ 1024) :
    (s.logWrite body).log.oldest = if 1024 ≤ s.log.records.length then s.log.oldest + 1 else s.log.oldest := by
  simp only [Log.oldest, State.logWrite_next, State.logWrite_records]
  split
  · simp only [List.length_append, List.length_tail, List.length_singleton]
    bv_omega
  · simp only [List.length_append, List.length_singleton]
    bv_omega

theorem ReadCtx.overwritten_lost {c : ReadCtx} (h : c.lost ≤ 65535) (serial : Seq) : (c.overwritten serial).lost ≤ 65535 := by
  unfold ReadCtx.overwritten
  split
  · exact inc16_le _
  · exact h

theorem ReadCtx.overwritten_cursor {c : ReadCtx} {oldest : Seq} (h : (c.cursor - oldest).toNat ≤ 1024) :
    ((c.overwritten oldest).cursor - (oldest + 1)).toNat ≤ 1024 := by
  unfold ReadCtx.overwritten
  split
  · rename_i same
    rw [same]
    simp
  · rename_i other
    have apart : (c.cursor - oldest).toNat ≠ 0 := fun zero => other (by bv_omega)
    have less : (c.cursor - (oldest + 1)).toNat = (c.cursor - oldest).toNat - 1 := by bv_omega
    omega

theorem Log.Within.logWrite {s : State} (h : s.log.Within) (body : RecordBody) : (s.logWrite body).log.Within := by
  have places := h.places
  have oldest := s.logWrite_oldest body places
  have reader (p : Port) : (s.logWrite body).log.readers[p.idx]
      = if 1024 ≤ s.log.records.length then s.log.readers[p.idx].overwritten s.log.oldest else s.log.readers[p.idx] :=
    s.logWrite_reader body p
  have serials : serialsFrom s.log.oldest s.log.records := h.inOrder.1
  have next : s.log.next = s.log.oldest + BitVec.ofNat 32 s.log.records.length := by simp [Log.oldest]
  by_cases full : 1024 ≤ s.log.records.length
  · have length : s.log.records.length = 1024 := Nat.le_antisymm places full
    simp only [full, if_true] at oldest reader
    have records := s.logWrite_records body
    rw [if_pos full] at records
    refine ⟨by simp [records, length], fun p => ?_, ⟨?_, fun p => ?_⟩, fun p => ?_⟩
    · rw [reader]; exact ReadCtx.overwritten_lost (h.lost p) _
    · rw [oldest, records]
      refine serialsFrom_append (serialsFrom_tail serials) ?_
      show s.log.next = _
      rw [next, List.length_tail, length]
      exact Seq.add_ofNat_succ _ 1023
    · have cursor := h.inOrder.2 p
      rw [length] at cursor
      rw [oldest, records, reader, List.length_append, List.length_tail, length]
      exact ReadCtx.overwritten_cursor cursor
    · rw [reader, ReadCtx.overwritten_watermark]; exact h.watermark p
  · simp only [full, if_false] at oldest reader
    have records := s.logWrite_records body
    rw [if_neg full] at records
    refine ⟨by simp only [records, List.length_append, List.length_singleton]; omega, fun p => ?_, ⟨?_, fun p => ?_⟩, fun p => ?_⟩
    · rw [reader]; exact h.lost p
    · rw [oldest, records]
      exact serialsFrom_append serials next
    · rw [oldest, records, reader, List.length_append]
      exact (h.inOrder.2 p).trans (Nat.le_add_right _ _)
    · rw [reader]; exact h.watermark p

end Sys2Proof.Machine

/-! The bounds of the part (O57): what the operations of the route keep. -/

namespace Sys2Proof.Machine

/-! ## Delays and scores -/

theorem PathEntry.formDelay_le (p : Path) (e : PathEntry) : e.formDelay p ≤ 16777215 := by
  unfold PathEntry.formDelay
  split
  · exact Nat.le_refl _
  · exact Nat.min_le_left _ _

/-- A sample moves D between its old value and the sample (R65, R66). -/
theorem applySample_le {weight x bound : Nat} {delay : Option Nat} (sample : x ≤ bound) (old : ∀ d, delay = some d → d ≤ bound) :
    applySample weight delay x ≤ bound := by
  cases delay with
  | none => exact sample
  | some d =>
    have held := old d rfl
    have shift : (0 : Int) < (2 ^ (weight + 1) : Nat) := by positivity
    show ((d : Int) + ((x : Int) - d) / (2 ^ (weight + 1) : Nat)).toNat ≤ bound
    rcases le_total (d : Int) x with up | down
    · have step := Int.ediv_le_self (b := (2 ^ (weight + 1) : Nat)) (show 0 ≤ (x : Int) - d by omega)
      omega
    · have step := Int.ediv_nonpos_of_nonpos_of_neg (show (x : Int) - d ≤ 0 by omega) shift
      omega

theorem scoreHit_le {n : Nat} (h : n ≤ 255) : scoreHit n ≤ 255 := (Nat.sub_le _ _).trans h
theorem scoreMiss_le {n : Nat} (_ : n ≤ 255) : scoreMiss n ≤ 255 := Nat.min_le_left _ _
theorem scoreDecayed_le {n : Nat} (h : n ≤ 255) : scoreDecayed n ≤ 255 := (Nat.sub_le _ _).trans h
theorem scoreFailed_le {n : Nat} (_ : n ≤ 255) : scoreFailed n ≤ 255 := Nat.min_le_left _ _

/-- The decay deadline has no bound. -/
theorem PathEntry.bounded.decayDeadline {e : PathEntry} (h : e.bounded) (d : Nat) :
    PathEntry.bounded { e with decayDeadline := d } := h

namespace State.Within

variable {s t : State}

/-- A record is taken, or attention raised: the log keeps its bounds and the ports their counts. -/
theorem of_logOnly (h : s.Within) (only : s.logOnly t) (log : t.log.Within) : t.Within := by
  obtain ⟨same, raised⟩ := only
  rw [same]
  exact { h with ports := fun p => (raised p).bounded (h.ports p), log := log }

theorem logWrite (h : s.Within) (body : RecordBody) : (s.logWrite body).Within :=
  h.of_logOnly (s.logWrite_logOnly body) (h.log.logWrite body)

theorem raiseAll (h : s.Within) (k : AttnKind) : (s.raiseAll k).Within := h.of_logOnly (s.raiseAll_logOnly k) h.log

theorem foldl {β : Type} (f : State → β → State) (l : List β) (keep : ∀ (u : State) (b : β), u.Within → (f u b).Within)
    (h : s.Within) : (l.foldl f s).Within := foldl_keeps State.Within f l (fun u b _ => keep u b) h

/-! ## Transmitters -/

theorem arbitrate (h : s.Within) (p : Path) : (s.arbitrate p).Within := by
  have item := s.arbitrate_arbitrated p
  generalize s.arbitrate p = t at item
  cases item with
  | busy | disabled | nothing => exact h
  | echo | beacon => exact h.modTransmitter p _ id
  | data _ _ _ _ ready =>
    refine h.modTransmitter p _ fun room => ?_
    rw [ready] at room
    exact (Nat.le_succ _).trans room
  | probe => exact (h.modTransmitter p _ id).modSounding _ fun x => { x with }

theorem abandonProbe (h : s.Within) : s.abandonProbe.Within := by
  unfold State.abandonProbe
  dsimp only
  split
  · exact (h.modTransmitter _ _ id).modSounding _ fun x => { x with }
  · exact h.modSounding _ fun x => { x with }

theorem flush (h : s.Within) (p : Path) : (s.flush p).Within := by
  unfold State.flush
  refine State.Within.modTransmitter (h.modStats p _ ?_) p _ fun _ => Nat.zero_le _
  rintro ⟨a, b, c, d, e, f, g, i, j, k, l, -, rest⟩
  exact ⟨a, b, c, d, e, f, g, i, j, k, l, satAdd_le _ _ _, rest⟩

theorem transmitterReport (h : s.Within) (p : Path) (new : LocalState) : (s.transmitterReport p new).Within := by
  unfold State.transmitterReport
  split
  · exact (h.flush p).modTransmitter p _ id
  · exact h.flush p
  · exact h

theorem beaconWaitEnd (h : s.Within) (p : Path) : (s.beaconWaitEnd p).Within := by
  unfold State.beaconWaitEnd
  split
  · exact State.Within.arbitrate (h.modTransmitter p _ id) p
  · exact h

theorem echoService (h : s.Within) (p : Path) (tag : Byte) (index arrival : Nat) : (s.echoService p tag index arrival).Within :=
  State.Within.arbitrate (h.modTransmitter p _ id) p

theorem frameTransmitEnd (h : s.Within) (p : Path) : (s.frameTransmitEnd p).Within := by
  unfold State.frameTransmitEnd
  split
  · exact h
  · rename_i x _
    have counted : (if x.uncounted then s else s.modStats p (fun st => st.sent x.frame.body)).Within := by
      split
      · exact h
      · refine h.modStats p _ ?_
        rintro ⟨a, b, c, d, e, f, g, i, j, -, k, l, m, rest⟩
        unfold Stats.sent
        split
        · exact ⟨a, b, c, d, e, f, g, i, j, inc32_le _, k, l, inc32_le _, rest⟩
        · exact ⟨a, b, c, d, e, f, g, i, j, inc32_le _, k, l, m, rest⟩
    exact State.Within.arbitrate (counted.modTransmitter p _ id) p

/-! ## The selection, delays and scores -/

theorem fallbackReport (h : s.Within) : s.fallbackReport.Within := by
  unfold State.fallbackReport
  dsimp only
  split
  · exact h
  · split
    · exact h.abandonProbe.modSounding _ fun x => { x with }
    · exact h.modSounding _ fun x => { x with }
    · exact h

theorem changePrimary (h : s.Within) (new : Option Path) (kind : ChangeKind) : (s.changePrimary new kind).Within := by
  have noted (g : Selector → Selector) (b : RecordBody) (keep : s.selector.Within → (g s.selector).Within) :
      (((s.modSelector g).logWrite b).raiseAll .primary).Within := ((h.modSelector g keep).logWrite b).raiseAll _
  unfold State.changePrimary
  cases kind
  case fallback | loss => exact (noted _ _ id).fallbackReport
  all_goals exact noted _ _ id

theorem reEvaluate (h : s.Within) : s.reEvaluate.Within := by
  rcases s.reEvaluate_cases with ⟨-, e⟩ | ⟨new, kind, -, e⟩ <;> rw [e]
  · exact State.Within.modSelector (h.modSelector _ id) _ id
  · exact State.Within.modSelector (State.Within.changePrimary (h.modSelector _ id) new kind) _ id

theorem recomputeDelay (h : s.Within) (p : Path) : (s.recomputeDelay p).Within := by
  unfold State.recomputeDelay
  dsimp only
  split
  · exact h
  · refine State.Within.reEvaluate (h.modEntry p _ ?_)
    rintro ⟨score, -, rest⟩
    exact ⟨score, PathEntry.formDelay_le p _, rest⟩

theorem modScore (h : s.Within) (p : Path) (g : Nat → Nat) (keep : ∀ n, n ≤ 255 → g n ≤ 255) : (s.modScore p g).Within :=
  State.Within.recomputeDelay (h.modEntry p _ fun ⟨score, rest⟩ => ⟨keep _ score, rest⟩) p

theorem retireReport (h : s.Within) (mask seen : PathSet) : (s.retireReport mask seen).Within :=
  foldl _ _ (fun u p hu => by
    unfold State.retirePath
    split
    · split
      · exact hu.modScore p _ fun _ => scoreHit_le
      · exact hu.modScore p _ fun _ => scoreMiss_le
    · exact hu) h

theorem scoreDecay (h : s.Within) (p : Path) : (s.scoreDecay p).Within := by
  unfold State.scoreDecay
  split
  · refine State.Within.modScore (h.modEntry p _ ?_) p _ fun _ => scoreDecayed_le
    exact fun bounded => bounded.decayDeadline _
  · exact h

theorem burstReport (h : s.Within) (p : Path) (result : BurstResult) {sample : Nat} (range : sample ≤ 16777215) :
    (s.burstReport p result sample).1.Within := by
  cases result with
  | ok =>
    refine State.Within.recomputeDelay (h.modEntry p _ ?_) p
    rintro ⟨score, eff, delay, rest⟩
    refine ⟨(Nat.div_le_self _ _).trans score, eff, fun d moved => ?_, rest⟩
    dsimp only at moved
    split at moved
    · exact delay d moved
    · cases moved
      exact applySample_le range delay
  | failed => exact h.modScore p _ fun _ => scoreFailed_le
  | aborted | skipped => exact h

/-! ## The sweep -/

theorem issueProbe (h : s.Within) (p : Path) : (s.issueProbe p).Within :=
  State.Within.arbitrate (State.Within.modSounding (h.modTransmitter p _ id) _ fun x => { x with }) p

theorem endSweep (h : s.Within) : s.endSweep.Within := State.Within.raiseAll (h.modSounding _ fun x => { x with }) _

theorem beginBurst (h : s.Within) (p : Path) : (s.beginBurst p).Within :=
  State.Within.issueProbe (h.modSounding _ fun x => { x with minimum := fun _ absent => by cases absent }) p

theorem pathTurn (fuel : Nat) (h : s.Within) : (State.pathTurn fuel s).Within := by
  induction fuel generalizing s with
  | zero => exact h
  | succ fuel ih =>
    unfold State.pathTurn
    split
    · exact h.endSweep
    · rename_i p _
      have taken := h.modSounding (fun x => { x with remaining := x.remaining.remove p }) fun x => { x with }
      dsimp only
      split
      · exact ih (taken.logWrite _)
      · exact ih (taken.logWrite _)
      · exact taken.beginBurst _

theorem endBurst (h : s.Within) (p : Path) (result : BurstResult) : (s.endBurst p result).Within := by
  have sample : s.sounding.minimum.getD 0 ≤ 16777215 := by
    cases least : s.sounding.minimum with
    | none => exact Nat.zero_le _
    | some m => exact h.sounding.minimum m least
  have reported := h.burstReport p result sample
  unfold State.endBurst
  dsimp only
  generalize s.burstReport p result (s.sounding.minimum.getD 0) = r at reported
  have ended := (reported.logWrite (.sound p result s.sounding.valid s.sounding.lost s.sounding.minimum (r.1.entry p).delay
    r.2)).modSounding (fun x => { x with current := none }) fun x => { x with }
  split_ifs
  · exact ended.endSweep
  · exact ended.pathTurn turnFuel
  · exact ended

theorem continueBurst (h : s.Within) : s.continueBurst.Within := by
  unfold State.continueBurst
  split
  · exact h
  · split_ifs
    · exact h.endBurst _ _
    · exact h.issueProbe _
    · exact h

theorem probeTimeout (h : s.Within) : s.probeTimeout.Within := by
  unfold State.probeTimeout
  split
  · split
    · refine State.Within.continueBurst (State.Within.modStats (h.modSounding _ fun x => { x with }) _ _ ?_)
      rintro ⟨a, b, c, d, e, f, g, i, j, k, l, m, n, o, -, rest⟩
      exact ⟨a, b, c, d, e, f, g, i, j, k, l, m, n, o, inc32_le _, rest⟩
    · exact h
  · exact h

theorem judgeEcho (h : s.Within) (p : Path) (round residence : Nat) : (s.judgeEcho p round residence).Within := by
  unfold State.judgeEcho
  split
  · refine State.Within.continueBurst (State.Within.modStats (h.modSounding _ fun x => { x with }) _ _ ?_)
    rintro ⟨a, b, c, d, e, f, g, i, j, k, l, m, n, o, q, -⟩
    exact ⟨a, b, c, d, e, f, g, i, j, k, l, m, n, o, q, inc32_le _⟩
  · have sample : oneWaySample round residence ≤ 16777215 := Nat.min_le_left _ _
    refine State.Within.continueBurst (State.Within.modStats (h.modSounding _ fun x => { x with minimum := fun m least => ?_ }) _ _ ?_)
    · cases least
      split
      · exact sample
      · exact (Nat.min_le_right _ _).trans sample
    · rintro ⟨a, b, c, d, e, f, g, i, j, k, l, m, n, -, rest⟩
      exact ⟨a, b, c, d, e, f, g, i, j, k, l, m, n, inc32_le _, rest⟩

theorem takeEcho (h : s.Within) (p : Path) (tag : Byte) (index residence t4 : Nat) :
    (s.takeEcho p tag index residence t4).Within := by
  have stale : (s.modSounding (fun x => { x with stale := inc32 x.stale })).Within :=
    h.modSounding _ fun x => { x with stale := inc32_le _ }
  unfold State.takeEcho
  split
  · split
    · exact h.judgeEcho p _ _
    · exact stale
  · exact stale

theorem soundingReport (h : s.Within) (p : Path) (new : LocalState) : (s.soundingReport p new).Within := by
  unfold State.soundingReport
  split
  · split
    · exact h.abandonProbe.endBurst p _
    · exact h.abandonProbe.endBurst p _
    · exact h
  · exact h

theorem resume (h : s.Within) : s.resume.Within := by
  have running := h.modSounding (fun x => { x with state := .running, reason := none, settleDeadline := none }) fun x => { x with }
  unfold State.resume
  dsimp only
  split
  · exact running.continueBurst
  · exact running.pathTurn turnFuel

theorem suspendSweep (h : s.Within) : s.suspendSweep.Within := by
  unfold State.suspendSweep
  split
  · exact h.abandonProbe.modSounding _ fun x => { x with }
  · exact h

theorem cancelSweep (h : s.Within) : s.cancelSweep.Within := by
  have ended {u : State} (hu : u.Within) : (u.modSounding (fun x => { x with remaining := 0 })).endSweep.Within :=
    State.Within.endSweep (hu.modSounding _ fun x => { x with })
  unfold State.cancelSweep
  dsimp only
  split
  · exact h
  · split
    · exact ended (h.abandonProbe.logWrite _)
    · exact ended h

/-! ## Path states -/

theorem setLocalState (h : s.Within) (p : Path) (new : LocalState) (reason : Reason) : (s.setLocalState p new reason).Within :=
  State.Within.soundingReport (State.Within.transmitterReport (State.Within.reEvaluate (State.Within.raiseAll
    (State.Within.logWrite (h.modEntry p _ id) _) _)) p new) p new

theorem evaluateUpTo (n : Nat) (h : s.Within) (p : Path) : (s.evaluateUpTo n p).Within := by
  induction n generalizing s with
  | zero => exact h
  | succ n ih =>
    unfold State.evaluateUpTo
    split
    · exact ih (h.setLocalState p _ _)
    · exact h

theorem evaluate (h : s.Within) (p : Path) : (s.evaluate p).Within := h.evaluateUpTo 3 p

theorem setFar (h : s.Within) (p : Path) (state : Option LocalState) (quality : Option Quality) :
    (s.setFar p state quality).Within := by
  have stored : (s.modEntry p (fun e => { e with farState := state, farQuality := quality })).Within := h.modEntry p _ id
  unfold State.setFar
  dsimp only
  split
  · exact stored
  · exact stored.reEvaluate

theorem validFrame (h : s.Within) (p : Path) (arrival : Nat) (state : LocalState) (quality : Quality) :
    (s.validFrame p arrival state quality).Within := by
  refine State.Within.evaluate (State.Within.setFar (State.Within.modStats (h.modReceiver p _) p _ ?_) p _ _) p
  exact fun ⟨_, rest⟩ => ⟨inc32_le _, rest⟩

theorem checkError (h : s.Within) (p : Path) : (s.checkError p).Within := by
  have counted : (s.modStats p (fun x => { x with checkErrors := inc32 x.checkErrors })).Within :=
    h.modStats p _ fun ⟨a, _, rest⟩ => ⟨a, inc32_le _, rest⟩
  unfold State.checkError
  dsimp only
  split
  · exact counted
  · refine State.Within.evaluate (counted.modEntry p _ ?_) p
    rintro ⟨score, eff, delay, window, rest⟩
    refine ⟨score, eff, delay, fun w raised => ?_, rest⟩
    obtain ⟨w', -, rfl⟩ := Option.map_eq_some_iff.mp raised
    exact satAdd_le _ _ _

theorem windowEnd (h : s.Within) (p : Path) : (s.windowEnd p).Within := by
  unfold State.windowEnd
  split
  · refine State.Within.evaluate (h.modEntry p _ ?_) p
    rintro ⟨score, eff, delay, window, rest⟩
    refine ⟨score, eff, delay, fun w started => ?_, rest⟩
    obtain ⟨w', -, rfl⟩ := Option.map_eq_some_iff.mp started
    exact Nat.zero_le _
  · exact h

theorem enable (h : s.Within) (p : Path) : (s.enable p).Within := by
  have started := (h.setLocalState p .failed .starting).modEntry p (fun e =>
    { e with window := some ⟨s.time.mono, s.time.mono + msToNs e.windowLength, 0⟩ })
    fun ⟨score, eff, delay, _, rest⟩ => ⟨score, eff, delay, fun w same => by cases same; exact Nat.zero_le _, rest⟩
  exact State.Within.arbitrate (State.Within.modTransmitter (started.modReceiver p _) p _ id) p

theorem disable (h : s.Within) (p : Path) : (s.disable p).Within := by
  have unknown := (h.setLocalState p .disabled .operator).setFar p none none
  unfold State.disable
  refine State.Within.modEntry (unknown.modReceiver p _) p _ ?_
  exact fun ⟨score, eff, delay, _, rest⟩ => ⟨score, eff, delay, fun _ absent => (by cases absent), rest⟩

theorem applyMargin (h : s.Within) (p : Path) {margin : Int} (range : -128 ≤ margin ∧ margin ≤ 127) :
    (s.applyMargin p margin).Within := by
  refine State.Within.evaluate (State.Within.recomputeDelay (h.modEntry p _ ?_) p) p
  rintro ⟨score, eff, delay, window, stats, -, rest⟩
  exact ⟨score, eff, delay, window, stats, fun m same => by cases same; exact range, rest⟩

theorem applyMargins (l : List (Path × Int)) (range : MarginRequests l) (h : s.Within) : (s.applyMargins l).Within := by
  induction l generalizing s with
  | nil => exact h
  | cons e rest ih =>
    exact ih (fun x listed => range x (by simp [listed])) (h.applyMargin e.1 (range e (by simp)).2)

end State.Within
end Sys2Proof.Machine

/-! The bounds of the part (O57): the streams, the local port, the clock and the reading contexts, then every input. -/

namespace Sys2Proof.Machine
namespace State.Within

variable {s t : State}

/-! ## Streams -/

/-- An update of a stream that leaves its counts and its hold time. -/
theorem modRx_uncounted (h : s.Within) (i : StreamId) (g : RxStream → RxStream)
    (same : ∀ x, (g x).accepted = x.accepted ∧ (g x).duplicates = x.duplicates ∧ (g x).late = x.late ∧ (g x).gaps = x.gaps
      ∧ (g x).resyncs = x.resyncs ∧ (g x).rejected = x.rejected ∧ (g x).overflow = x.overflow ∧ (g x).holdTime = x.holdTime) :
    (s.modRx i g).Within := by
  refine h.modRx i g fun ⟨counted, hold⟩ => ?_
  obtain ⟨accepted, duplicates, late, gaps, resyncs, rejected, overflow, holdTime⟩ := same (s.rxStream i)
  refine ⟨?_, by rwa [holdTime]⟩
  unfold RxStream.counted
  rw [accepted, duplicates, late, gaps, resyncs, rejected, overflow]
  exact counted

theorem setSlot (h : s.Within) (i : StreamId) (n : Nat) (slot : Slot) : (s.setSlot i n slot).Within :=
  h.modRx_uncounted i _ fun _ => ⟨rfl, rfl, rfl, rfl, rfl, rfl, rfl, rfl⟩

theorem formDeadline (h : s.Within) (i : StreamId) : (s.formDeadline i).Within :=
  h.modRx_uncounted i _ fun _ => ⟨rfl, rfl, rfl, rfl, rfl, rfl, rfl, rfl⟩


theorem queueDelivery (h : s.Within) (i : StreamId) (f : DeliveredFrame) : (s.queueDelivery i f).Within := by
  unfold State.queueDelivery
  split
  · refine State.Within.raiseAll (h.modRx i _ ?_) _
    exact fun ⟨⟨a, b, c, d, e, g, _⟩, hold⟩ => ⟨⟨a, b, c, d, e, g, inc32_le _⟩, hold⟩
  · rename_i room
    refine h.modLocal _ fun ⟨_, malformed⟩ => ?_
    have joined : (s.localPort.queue ++ [f]).length ≤ 64 := by
      simp only [deliveryPlaces, Nat.not_le] at room
      simpa using room
    unfold LocalPort.join LocalPort.start
    split
    · rename_i queue
      dsimp only at queue
      refine ⟨?_, malformed⟩
      rw [queue] at joined
      exact (Nat.le_succ _).trans joined
    · exact ⟨joined, malformed⟩

theorem deliver (h : s.Within) (i : StreamId) (d : Delivery) : (s.deliver i d).Within := by
  unfold State.deliver
  dsimp only
  split
  · exact (h.queueDelivery i _).logWrite _
  · exact h.queueDelivery i _

theorem releaseSlot (h : s.Within) (i : StreamId) (n : Nat) : (s.releaseSlot i n).Within := by
  unfold State.releaseSlot
  split
  · exact (h.setSlot i n _).deliver i _
  · exact h

theorem releaseFirst (h : s.Within) (i : StreamId) (n : Nat) : (s.releaseFirst i n).Within :=
  State.Within.foldl _ _ (fun _ k hu => hu.releaseSlot i k) h

theorem walk (fuel : Nat) (h : s.Within) (i : StreamId) : (State.walk fuel s i).Within := by
  induction fuel generalizing s with
  | zero => exact h
  | succ fuel ih =>
    unfold State.walk
    dsimp only
    split
    · exact ih ((h.releaseSlot i _).modRx_uncounted i _ fun _ => ⟨rfl, rfl, rfl, rfl, rfl, rfl, rfl, rfl⟩)
    · exact h

theorem gapRun (h : s.Within) (i : StreamId) (first : Seq) (count : Nat) (cause : GapCause) :
    (s.gapRun i first count cause).Within := by
  unfold State.gapRun
  split
  · exact h
  · refine (h.logWrite _).modRx i _ ?_
    exact fun ⟨⟨a, b, c, _, rest⟩, hold⟩ => ⟨⟨a, b, c, satAdd_le _ _ _, rest⟩, hold⟩

theorem expireOnce (h : s.Within) (i : StreamId) : (s.expireOnce i).Within := by
  unfold State.expireOnce
  dsimp only
  split
  · exact h.modRx_uncounted i _ fun _ => ⟨rfl, rfl, rfl, rfl, rfl, rfl, rfl, rfl⟩
  · rename_i held _
    have skipped := h.modRx_uncounted i
      (fun x => { x with slots := skipRange x.slots ((s.rxStream i).distance (s.rxStream i).release) held })
      fun _ => ⟨rfl, rfl, rfl, rfl, rfl, rfl, rfl, rfl⟩
    refine State.Within.formDeadline (State.Within.walk _ ?_ i) i
    exact (skipped.gapRun i _ _ _).modRx_uncounted i
      (fun x => { x with release := x.base + BitVec.ofNat 32 held }) fun _ => ⟨rfl, rfl, rfl, rfl, rfl, rfl, rfl, rfl⟩

theorem expireUpTo (fuel : Nat) (h : s.Within) (i : StreamId) : (State.expireUpTo fuel s i).Within := by
  induction fuel generalizing s with
  | zero => exact h
  | succ fuel ih =>
    unfold State.expireUpTo
    split
    · exact ih (h.expireOnce i)
    · exact h

theorem expireAll (h : s.Within) (i : StreamId) : (s.expireAll i).Within := h.expireUpTo _ i

theorem settleHold (h : s.Within) (i : StreamId) : (s.settleHold i).Within := (h.formDeadline i).expireAll i

theorem holdArrival (h : s.Within) (i : StreamId) (d : DataArrival) (eligible : Bool) : (s.holdArrival i d eligible).Within := by
  have held := (h.setSlot i ((s.rxStream i).distance d.copy.seq) (.held d.info (d.kept eligible))).modRx_uncounted i
    (RxStream.noteHeld d.stamp.mono) fun _ => ⟨rfl, rfl, rfl, rfl, rfl, rfl, rfl, rfl⟩
  unfold State.holdArrival
  dsimp only
  split
  · exact held.expireAll i
  · exact held

theorem deliverArrival (h : s.Within) (i : StreamId) (d : DataArrival) (eligible ordered : Bool) :
    (s.deliverArrival i d eligible ordered).Within := (h.setSlot i _ _).deliver i _

theorem firstArrival (h : s.Within) (i : StreamId) (d : DataArrival) : (s.firstArrival i d).Within := by
  have accepted := h.modRx i (fun x => { x with accepted := inc32 x.accepted })
    fun ⟨⟨_, rest⟩, hold⟩ => ⟨⟨inc32_le _, rest⟩, hold⟩
  have counted := accepted.modStats d.path (fun x => { x with wins := inc32 x.wins })
    fun ⟨a, b, c, e, _, rest⟩ => ⟨a, b, c, e, inc32_le _, rest⟩
  unfold State.firstArrival
  dsimp only
  split_ifs
  · refine State.Within.settleHold (State.Within.walk _ ?_ i) i
    exact (counted.deliverArrival i d _ _).modRx_uncounted i _ fun _ => ⟨rfl, rfl, rfl, rfl, rfl, rfl, rfl, rfl⟩
  · exact counted.holdArrival i d _
  · exact counted.deliverArrival i d _ _

theorem lateCopy (h : s.Within) (i : StreamId) (p : Path) : (s.lateCopy i p).Within := by
  have late := h.modRx i (fun x => { x with late := inc32 x.late })
    fun ⟨⟨a, b, _, rest⟩, hold⟩ => ⟨⟨a, b, inc32_le _, rest⟩, hold⟩
  exact late.modStats p _ fun ⟨a, b, c, d, e, f, g, i, _, rest⟩ => ⟨a, b, c, d, e, f, g, i, inc32_le _, rest⟩

theorem duplicate (h : s.Within) (i : StreamId) (n : Nat) (slot : Slot) (first : Nat) (d : DataArrival) :
    (s.duplicate i n slot first d).Within := by
  have lag : lagOf d.stamp.mono first ≤ max32 := Nat.min_le_left _ _
  have copied := (h.setSlot i n (slot.see d.path)).modStats d.path (Stats.duplicate (lagOf d.stamp.mono first))
    fun ⟨a, b, c, e, f, _, least, most, rest⟩ =>
      ⟨a, b, c, e, f, inc32_le _, (Nat.min_le_left _ _).trans least, Nat.max_le.mpr ⟨most, lag⟩, rest⟩
  exact copied.modRx i _ fun ⟨⟨a, _, rest⟩, hold⟩ => ⟨⟨a, inc32_le _, rest⟩, hold⟩

theorem retire (i : StreamId) (untracked : Nat) (l : List Slot) (q : Seq) (run : Nat) (h : s.Within) :
    (State.retire i untracked l q run s).Within := by
  induction l generalizing q run s with
  | nil => exact h.gapRun i _ _ _
  | cons slot rest ih =>
    cases slot with
    | empty => exact ih _ _ h
    | skipped => exact ih _ _ (h.gapRun i _ _ _)
    | done info | held info _ => exact ih _ _ ((h.gapRun i _ _ _).retireReport _ _)

theorem advance (h : s.Within) (i : StreamId) (d : DataArrival) : (s.advance i d).Within := by
  have released (n : Nat) : (if (s.rxStream i).ordered then s.releaseFirst i n else s).Within := by
    split
    · exact h.releaseFirst i n
    · exact h
  have walked {u : State} (b : Bool) (hu : u.Within) : (if b then u.releaseWalk i else u).Within := by
    split
    · exact hu.walk _ i
    · exact hu
  have settled {u : State} (b : Bool) (hu : u.Within) : (if b then u.settleHold i else u).Within := by
    split
    · exact hu.settleHold i
    · exact hu
  have moved {u : State} (n : Nat) (hu : u.Within) : (u.modRx i (RxStream.moveWindow d.copy.seq n)).Within :=
    hu.modRx_uncounted i (RxStream.moveWindow d.copy.seq n) fun _ => ⟨rfl, rfl, rfl, rfl, rfl, rfl, rfl, rfl⟩
  unfold State.advance
  exact settled _ ((walked _ (moved _ (State.Within.retire i _ _ _ _ (released _)))).firstArrival i d)

theorem synchronize (h : s.Within) (i : StreamId) (d : DataArrival) : (s.synchronize i d).Within :=
  (h.modRx_uncounted i (RxStream.synchronize d.copy.seq)
    fun _ => ⟨rfl, rfl, rfl, rfl, rfl, rfl, rfl, rfl⟩).firstArrival i d

theorem resync (h : s.Within) (i : StreamId) (cause : ResyncCause) (new : Option Seq) : (s.resync i cause new).Within := by
  have released : (if (s.rxStream i).ordered then s.releaseFirst i (s.rxStream i).slots.length else s).Within := by
    split
    · exact h.releaseFirst i _
    · exact h
  have emptied := released.modRx_uncounted i (fun x => { x with slots := [], holdDeadline := none, synced := false })
    fun _ => ⟨rfl, rfl, rfl, rfl, rfl, rfl, rfl, rfl⟩
  refine (emptied.logWrite (.resync i (s.rxStream i).front cause new)).modRx i (fun x => { x with resyncs := inc32 x.resyncs }) ?_
  exact fun ⟨⟨a, b, c, d, _, rest⟩, hold⟩ => ⟨⟨a, b, c, d, inc32_le _, rest⟩, hold⟩

theorem takeData (h : s.Within) (d : DataArrival) : (s.takeData d).Within := by
  unfold State.takeData State.mergeCopy State.takeTracked
  dsimp only
  split_ifs
  · exact h.modRx _ _ fun ⟨⟨a, b, c, e, f, _, rest⟩, hold⟩ => ⟨⟨a, b, c, e, f, inc32_le _, rest⟩, hold⟩
  · exact h.lateCopy _ _
  · split
    · exact h.firstArrival _ d
    · exact h.duplicate _ _ _ _ d
    · exact h.duplicate _ _ _ _ d
    · exact h.lateCopy _ _
    · exact h
  · exact (h.modRx_uncounted _ (RxStream.fillTo d.copy.seq)
      fun _ => ⟨rfl, rfl, rfl, rfl, rfl, rfl, rfl, rfl⟩).firstArrival _ d
  · exact h.advance _ d
  · exact (h.resync _ _ _).synchronize _ d
  · exact h.synchronize _ d

/-! ## Path frames and local frames -/

theorem passOnward (h : s.Within) (p : Path) (a : Stamp) (f : PathFrame) : (s.passOnward p a f).Within := by
  unfold State.passOnward
  split
  · exact h.takeData _
  · exact h
  · exact h.echoService p _ _ _
  · exact h.takeEcho p _ _ _ _

theorem crossedFrame (h : s.Within) (p : Path) : (s.crossedFrame p).Within :=
  h.modStats p _ fun ⟨a, b, _, rest⟩ => ⟨a, b, inc32_le _, rest⟩

theorem pathFrameEnd (h : s.Within) (p : Path) (bytes : List Byte) : (s.pathFrameEnd p bytes).Within := by
  have ended : (s.modReceiver p (fun r => { r with arriving := none })).Within := h.modReceiver p _
  unfold State.pathFrameEnd State.judgeFrame
  split
  · exact h
  · dsimp only
    split
    · exact ended
    · split
      · exact ended.checkError p
      · split_ifs
        · exact ended.modStats p _ fun ⟨a, b, c, _, rest⟩ => ⟨a, b, c, inc32_le _, rest⟩
        · exact ended.crossedFrame p
        · exact (ended.validFrame p _ _ _).passOnward p _ _
        · exact ended.crossedFrame p


theorem placeCopies_transmitter (copy : DataCopy) (s : State) (q : Path) :
    (Path.all.foldl (State.placeCopy copy) s).transmitter q
      = if copy.mask.has q then { s.transmitter q with queue := (s.transmitter q).queue ++ [copy] } else s.transmitter q := by
  have placed (u : State) (p q : Path) : (u.placeCopy copy p).transmitter q
      = if q = p ∧ copy.mask.has p = true then { u.transmitter p with queue := (u.transmitter p).queue ++ [copy] }
        else u.transmitter q := by
    unfold State.placeCopy
    by_cases mask : copy.mask.has p = true
    · simp only [mask, if_true, and_true, State.modTransmitter_transmitter]
    · simp only [mask, and_false, if_false, Bool.false_eq_true]
  cases q <;> simp [Path.all, placed]

theorem placeCopies (h : s.Within) (copy : DataCopy)
    (room : ∀ p, copy.mask.has p = true → (s.transmitter p).queue.length < 32) :
    (Path.all.foldl (State.placeCopy copy) s).Within := by
  have frame : Path.all.foldl (State.placeCopy copy) s
      = { s with transmitters := (Path.all.foldl (State.placeCopy copy) s).transmitters } :=
    foldl_keeps (fun u : State => u = { s with transmitters := u.transmitters }) _ _ (fun u p _ same => by
      unfold State.placeCopy
      split
      · rw [same]; rfl
      · exact same) rfl
  have placed := placeCopies_transmitter copy s
  generalize Path.all.foldl (State.placeCopy copy) s = u at frame placed
  have queues (p : Path) : (u.transmitter p).queue.length ≤ 32 := by
    rw [placed]
    split
    · rename_i listed
      simpa using room p listed
    · exact h.queues p
  rw [frame]
  exact { h with queues := queues }

theorem dispatch (h : s.Within) (i : StreamId) (origin : Tod) (mask : PathSet) (payload : List Byte)
    (room : ∀ p, mask.has p = true → (s.transmitter p).queue.length < 32) : (s.dispatch i origin mask payload).Within := by
  have counted := h.modTx i (fun t => { t with next := t.next + 1, dispatched := inc32 t.dispatched })
    fun ⟨_, rest⟩ => ⟨inc32_le _, rest⟩
  have placed := counted.placeCopies ⟨i, (s.txStream i).next, origin, mask, payload⟩ room
  refine State.Within.foldl _ _ (fun u p hu => ?_) placed
  split
  · exact hu.arbitrate p
  · exact hu

/-- A set formed from a list of paths by a predicate holds exactly the paths that satisfy it. -/
theorem has_ofList_filter (f : Path → Bool) (p : Path) : PathSet.has (PathSet.ofList (Path.all.filter f)) p = f p := by
  have spelled (a b c d e : Bool) : PathSet.has (PathSet.ofList (Path.all.filter
      (fun q => match q with | .a => a | .b => b | .c => c | .d => d | .f => e))) p
      = match p with | .a => a | .b => b | .c => c | .d => d | .f => e := by
    revert a b c d e
    cases p <;> decide
  have values : f = fun q => match q with | .a => f .a | .b => f .b | .c => f .c | .d => f .d | .f => f .f := by
    funext q
    cases q <;> rfl
  rw [values]
  exact spelled _ _ _ _ _

theorem has_dispatchMask {p : Path} (listed : PathSet.has s.dispatchMask p = true) : (s.transmitter p).queue.length < 32 := by
  rw [State.dispatchMask, has_ofList_filter] at listed
  simp only [Bool.and_eq_true, State.hasRoom, decide_eq_true_eq] at listed
  exact listed.2

theorem intake (h : s.Within) (i : StreamId) (origin : Tod) (payload : List Byte) : (s.intake i origin payload).Within := by
  have dropped : (Path.all.foldl (State.countTxDrop s.selector.dispatchSet) s).Within :=
    State.Within.foldl _ _ (fun u p hu => by
      unfold State.countTxDrop
      split
      · exact hu.modStats p _ fun ⟨a, b, c, d, e, f, g, i, j, k, _, rest⟩ => ⟨a, b, c, d, e, f, g, i, j, k, inc32_le _, rest⟩
      · exact hu) h
  have same : (Path.all.foldl (State.countTxDrop s.selector.dispatchSet) s).transmitters = s.transmitters :=
    foldl_keeps (fun u : State => u.transmitters = s.transmitters) _ _ (fun u p _ same => by
      unfold State.countTxDrop
      split <;> exact same) rfl
  unfold State.intake
  dsimp only
  split_ifs
  · exact h.modTx i _ fun ⟨a, _, rest⟩ => ⟨a, inc32_le _, rest⟩
  · exact State.Within.raiseAll (h.modTx i _ fun ⟨a, b, _, rest⟩ => ⟨a, b, inc32_le _, rest⟩) _
  · exact State.Within.raiseAll (dropped.modTx i _ fun ⟨a, b, c, _⟩ => ⟨a, b, c, inc32_le _⟩) _
  · refine dropped.dispatch i origin _ payload fun p listed => ?_
    rw [show State.transmitter _ p = s.transmitter p by simp only [State.transmitter, same]]
    exact has_dispatchMask listed

theorem localFrameIntake (h : s.Within) (bytes : List Byte) : (s.localFrameIntake bytes).Within := by
  have ended := h.modLocal (fun l => { l with arriving := none }) id
  unfold State.localFrameIntake
  split
  · exact h
  · dsimp only
    split
    · exact ended
    · split
      · exact ended.modLocal _ fun ⟨queue, _⟩ => ⟨queue, inc32_le _⟩
      · exact ended.intake _ _ _

theorem localTransmitEnd (h : s.Within) : s.localTransmitEnd.Within := by
  unfold State.localTransmitEnd
  split
  · refine h.modLocal _ fun ⟨places, malformed⟩ => ?_
    unfold LocalPort.start
    split
    · rename_i queue
      dsimp only at queue
      refine ⟨?_, malformed⟩
      rw [queue] at places
      exact (Nat.le_succ _).trans places
    · exact ⟨places, malformed⟩
  · exact h

end State.Within
end Sys2Proof.Machine

/-! The bounds of the part (O57): the clock's pulses, the reading contexts, the resets, and with them every input. -/

namespace Sys2Proof.Machine

theorem Stats.reset_bounded : Stats.reset.bounded := by
  unfold Stats.bounded
  decide

theorem Bank.reset_bounded : Bank.reset.bounded := by
  unfold Bank.bounded
  decide

theorem PathEntry.reset_bounded (endOfReset : Nat) : (PathEntry.reset endOfReset).bounded := by
  have start : (PathEntry.reset 0).bounded := by
    refine ⟨by decide, by decide, nofun, nofun, Stats.reset_bounded, nofun, Bank.reset_bounded, Bank.reset_bounded, ?_⟩
    decide
  exact start.decayDeadline _

theorem RxStream.reset_within : RxStream.reset.Within := ⟨by unfold RxStream.counted; decide, by decide⟩
theorem Sounding.reset_within : Sounding.reset.Within := ⟨nofun, by decide, by decide⟩

theorem Selector.reset_within : Selector.reset.Within := by
  unfold Selector.Within
  decide

/-- A log without records whose readers are as at a reset (R134). -/
theorem Log.within_of_empty (next : Seq) : Log.Within ⟨[], next, Vector.replicate 3 (ReadCtx.reset next)⟩ := by
  have reader (p : Port) : (Vector.replicate 3 (ReadCtx.reset next))[p.idx] = ReadCtx.reset next := by simp
  refine ⟨Nat.zero_le _, fun p => ?_, ⟨fun k r found => by simp at found, fun p => ?_⟩, fun p => ?_⟩
  · simp only [reader]; exact Nat.zero_le _
  · simp [Log.oldest, ReadCtx.reset]
  · simp only [reader]; exact ⟨Nat.le_refl 1, Nat.le_of_ble_eq_true rfl⟩

/-- A cursor is moved only among the retained serials (R137). -/
theorem Log.moveTo_retained {l : Log} {position : Seq} (h : (position - l.oldest).toNat ≤ l.records.length) (serial : Seq) :
    (l.moveTo position serial - l.oldest).toNat ≤ l.records.length := by
  unfold Log.moveTo
  dsimp only
  split
  · rename_i ahead
    exact ahead.2
  · exact h

theorem PortCtx.attentionDone_bounded {c : PortCtx} (h : c.bounded) : c.attentionDone.bounded := by
  unfold PortCtx.attentionDone
  split <;> exact h

/-- A new bank keeps an entry's bounds (R50). -/
theorem PathEntry.bounded.setBank {e : PathEntry} (h : e.bounded) (bankOne : Bool) {b : Bank} (range : b.bounded) :
    (e.setBank bankOne b).bounded := by
  obtain ⟨score, eff, delay, window, stats, margin, bank0, bank1, rest⟩ := h
  cases bankOne
  · exact ⟨score, eff, delay, window, stats, margin, range, bank1, rest⟩
  · exact ⟨score, eff, delay, window, stats, margin, bank0, range, rest⟩

theorem PathTimersArgs.InRange.store {a : PathTimersArgs} (range : a.InRange) {e : PathEntry} (h : e.bounded) :
    (a.store e).bounded := by
  obtain ⟨score, eff, delay, window, stats, margin, bank0, bank1, -, -, -, -, -, smoothing⟩ := h
  obtain ⟨s0, s1, w0, w1, l0, l1, hold, r0, r1⟩ := range
  exact ⟨score, eff, delay, window, stats, margin, bank0, bank1, ⟨s0, s1⟩, ⟨w0, w1⟩, ⟨l0, l1⟩, hold, ⟨r0, r1⟩, smoothing⟩

theorem SmoothingArgs.InRange.store {a : SmoothingArgs} (range : a.InRange) {e : PathEntry} (h : e.bounded) :
    (a.store e).bounded := by
  obtain ⟨score, eff, delay, window, stats, margin, bank0, bank1, silence, length, limit, hold, report, -⟩ := h
  exact ⟨score, eff, delay, window, stats, margin, bank0, bank1, silence, length, limit, hold, report, range.1, range.2.1, range.2.2⟩

theorem SweepArgs.InRange.start {a : SweepArgs} (range : a.InRange) {x : Sounding} (h : x.Within) : (a.start x).Within := by
  obtain ⟨-, -, count, least, spacing, timeout, settle⟩ := range
  exact ⟨nofun, h.stale, count, least, spacing, Nat.le_max_left _ _, Nat.max_le.mpr ⟨Nat.le_of_ble_eq_true rfl, timeout⟩, settle⟩

theorem StreamArgs.store_within {a : StreamArgs} (range : a.holdTime ≤ 65535) {x : RxStream} (h : x.Within) :
    (a.store x).Within :=
  ⟨h.counted, Nat.le_max_left _ _, Nat.max_le.mpr ⟨Nat.le_of_ble_eq_true rfl, range⟩⟩

namespace State.Within

variable {s t : State}

/-! ## The clock -/

theorem noteQuality (h : s.Within) (old : Quality) (offset : Int) : (s.noteQuality old offset).Within := by
  unfold State.noteQuality
  split
  · exact h
  · exact (h.logWrite _).raiseAll _

theorem noteStep (h : s.Within) (old : Quality) (offset qualityOffset : Int) : (s.noteStep old offset qualityOffset).Within :=
  ((h.logWrite _).raiseAll _).noteQuality _ _

theorem chooseActive (h : s.Within) : s.chooseActive.Within := by
  rcases s.chooseActive_cases with ⟨-, same⟩ | ⟨-, switched⟩
  · rwa [same]
  · rw [switched]
    exact (((h.modTime _ fun t => t.afterSwitch _).logWrite _).raiseAll _).noteQuality _ _

theorem applyPulse (h : s.Within) (ns : Nat) : (s.applyPulse ns).Within := by
  unfold State.applyPulse
  dsimp only
  split_ifs
  · exact (h.modTime _ fun t => (t.shift _).relock).noteStep _ _ _
  · exact (h.modTime _ fun t => t.slew _).noteQuality _ _
  · exact h

theorem capture (h : s.Within) (c : Channel) (stamp : Stamp) : (s.capture c stamp).Within := by
  have taken := h.modTime (fun u => u.modChannel c (fun x => x.push ((s.channel c).stamp stamp)))
    fun t => t.modChannel c _ (CaptureState.push_bounded (t.channels c) _)
  unfold State.capture
  dsimp only
  split_ifs
  · exact (taken.raiseAll _).logWrite _
  · exact taken.logWrite _
  · exact taken.raiseAll _
  · exact taken

theorem refPulse (h : s.Within) (r : Ref) (dir : EdgeDir) : (s.refPulse r dir).Within := by
  have switched := State.Within.chooseActive
    (h.modTime (fun u => u.modRef r (RefState.pulse s.stamp.mono)) fun t => t.modRef r _ (RefState.pulse_run _))
  unfold State.refPulse
  dsimp only
  split_ifs
  · exact switched.applyPulse _
  · exact switched
  · exact (switched.capture _ _).applyPulse _
  · exact switched.capture _ _
  · exact h

theorem unqualify (h : s.Within) (r : Ref) : (s.modTime (fun u => u.modRef r RefState.unqualify)).Within :=
  h.modTime _ fun t => t.modRef r _ (Nat.zero_le _)

theorem refTimeout (h : s.Within) (r : Ref) : (s.refTimeout r).Within := by
  unfold State.refTimeout
  split
  · exact (h.unqualify r).chooseActive
  · exact h

theorem markEdge (h : s.Within) (m : Mark) (dir : EdgeDir) : (s.markEdge m dir).Within := by
  unfold State.markEdge
  split
  · exact h.capture _ _
  · exact h

theorem markerMatch (h : s.Within) (o : Out) : (s.markerMatch o).Within := by
  unfold State.markerMatch
  split
  · exact h.modTime _ fun t => t.modMarker o _ (by rw [Marker.takeMatch_skipped]; exact t.skipped o)
  · exact h

theorem markerPulseEnd (h : s.Within) (o : Out) : (s.markerPulseEnd o).Within := by
  unfold State.markerPulseEnd
  split
  · exact h.modTime _ fun t => t.modMarker o _ (t.skipped o)
  · exact h

theorem storeCapture (h : s.Within) (c : Channel) (edge : EdgeSetting) (source : Source) (log : Bool) :
    (s.storeCapture c edge source log).Within := by
  have stored := h.modTime (fun u => u.modChannel c (fun _ => ⟨edge, source, log, [], false⟩))
    fun t => t.modChannel c _ ⟨Nat.zero_le _, nofun⟩
  unfold State.storeCapture
  dsimp only
  split
  · split
    · exact stored
    · exact (stored.unqualify _).chooseActive
  · exact stored

/-! ## The reading contexts -/

/-- An update of a reading context that keeps its lost count, its cursor and its watermark within their bounds. -/
theorem modReader (h : s.Within) (p : Port) (g : ReadCtx → ReadCtx) (lost : (g (s.reader p)).lost ≤ 65535)
    (cursor : ((g (s.reader p)).cursor - s.log.oldest).toNat ≤ s.log.records.length)
    (watermark : 1 ≤ (g (s.reader p)).watermark ∧ (g (s.reader p)).watermark ≤ 1024) : (s.modReader p g).Within := by
  have reader (q : Port) : (s.modReader p g).log.readers[q.idx] = if q = p then g (s.reader p) else s.log.readers[q.idx] :=
    s.modReader_reader p g q
  refine { h with log := ⟨h.log.places, fun q => ?_, ⟨h.log.inOrder.1, fun q => ?_⟩, fun q => ?_⟩ }
  · rw [reader]
    split
    · exact lost
    · exact h.log.lost q
  · rw [reader]
    split
    · exact cursor
    · exact h.log.inOrder.2 q
  · rw [reader]
    split
    · exact watermark
    · exact h.log.watermark q

theorem moveCursor (h : s.Within) (p : Port) (serial : Seq) :
    (s.modReader p (fun c => { c with cursor := s.log.moveTo c.cursor serial })).Within :=
  h.modReader p _ (h.log.lost p) (Log.moveTo_retained (h.log.inOrder.2 p) serial) (h.log.watermark p)

theorem checkLogCondition (h : s.Within) (p : Port) : (s.checkLogCondition p).Within := by
  unfold State.checkLogCondition
  split
  · exact h.modPort p _ fun b => PortCtx.raisedFrom.bounded (PortCtx.raisedFrom_raise _ _) b
  · exact h

theorem nextLogImage (h : s.Within) (p : Port) : (s.nextLogImage p).Within := by
  unfold State.nextLogImage
  exact h.modPort p _ fun b => b

theorem nextPeekImage (h : s.Within) (p : Port) (position : Seq) : (s.nextPeekImage p position).Within := by
  unfold State.nextPeekImage
  exact h.modPort p _ fun b => b

theorem logHeadDone (h : s.Within) (p : Port) : (s.logHeadDone p).Within := by
  unfold State.logHeadDone
  split
  · exact (h.modReader p _ ((Nat.sub_le _ _).trans (h.log.lost p)) (h.log.inOrder.2 p) (h.log.watermark p)).nextLogImage p
  · exact h.nextPeekImage p _
  · exact h

theorem logImageDone (h : s.Within) (p : Port) : (s.logImageDone p).Within := by
  unfold State.logImageDone
  split
  · exact (h.moveCursor p _).nextLogImage p
  · exact h.nextPeekImage p _
  · exact h

theorem emptyImageDone (h : s.Within) (p : Port) : (s.emptyImageDone p).Within := by
  unfold State.emptyImageDone
  split
  · exact (h.moveCursor p _).nextLogImage p
  · exact h.nextPeekImage p _
  · exact h

theorem interruptedRise (h : s.Within) (p : Port) : (s.interruptedRise p).Within := by
  unfold State.interruptedRise
  split
  · exact h
  · exact h.modPort p _ fun b => b
  · exact h.modPort p _ fun b => b

/-! ## The resets -/

theorem softReset (h : s.Within) : s.softReset.Within := by
  unfold State.softReset State.resetLog
  refine State.Within.logWrite ⟨fun p => ?_, fun p => ?_, fun p => ?_, h.time.softReset, Sounding.reset_within, fun i => ?_,
    fun i => ?_, ⟨Nat.zero_le _, Nat.zero_le _⟩, Log.within_of_empty _, Selector.reset_within, Nat.le_of_ble_eq_true rfl, Nat.le_of_ble_eq_true rfl⟩ _
  · simpa [State.entry] using PathEntry.reset_bounded _
  · simp [State.transmitter, Transmitter.softReset]
  · simp [State.port, PortCtx.softReset, PortCtx.bounded, PortCtx.reset]
  · simpa [State.rxStream] using RxStream.reset_within
  · simp [State.txStream, TxStream.counted, TxStream.reset]

theorem ofStraps (site : BitVec 4) (role0 role1 role2 : Role) : (State.ofStraps site role0 role1 role2).Within := by
  refine ⟨fun p => ?_, fun p => ?_, fun p => ?_, TimeUnit.reset_within, Sounding.reset_within, fun i => ?_, fun i => ?_,
    ⟨Nat.zero_le _, Nat.zero_le _⟩, Log.within_of_empty 0, Selector.reset_within, Nat.le_of_ble_eq_true rfl, Nat.le_of_ble_eq_true rfl⟩
  · simpa [State.ofStraps, State.entry] using PathEntry.reset_bounded 0
  · simp [State.ofStraps, State.transmitter]
  · cases p <;> exact ⟨Nat.zero_le _, Nat.zero_le _⟩
  · simpa [State.ofStraps, State.rxStream] using RxStream.reset_within
  · simp [State.ofStraps, State.txStream, TxStream.counted, TxStream.reset]

theorem pinReset (s : State) (site : BitVec 4) (role0 role1 role2 : BitVec 2) : (s.pinReset site role0 role1 role2).Within :=
  { State.Within.ofStraps site (Role.ofStrap role0) (Role.ofStrap role1) (Role.ofStrap role2) with }

/-! ## Every input -/

theorem occurs (h : s.Within) (run : s.Occurs t) : t.Within := by
  cases run with
  | nothing => exact h
  | softResetPeriodEnd =>
    unfold State.softResetPeriodEnd
    split
    · exact { h with }
    · exact h
  | pathFrameStart p => exact h.modReceiver p _
  | pathFrameEnd p bytes => exact h.pathFrameEnd p bytes
  | silenceExpiry p =>
    unfold State.silenceExpiry
    split
    · exact ((h.modReceiver p _).setFar p none none).evaluate p
    · exact h
  | windowEnd p => exact h.windowEnd p
  | recoverHoldExpiry p =>
    unfold State.recoverHoldExpiry
    split
    · exact h.evaluate p
    · exact h
  | reportExpiry p =>
    unfold State.reportExpiry
    split
    · exact (h.modEntry p _ fun b => b).raiseAll _
    · exact h
  | scoreDecay p => exact h.scoreDecay p
  | guardExpiry =>
    unfold State.guardExpiry
    split
    · exact (h.modSelector _ id).reEvaluate
    · exact h
  | frameTransmitEnd p => exact h.frameTransmitEnd p
  | beaconWaitEnd p => exact h.beaconWaitEnd p
  | localFrameStart => exact h.modLocal _ id
  | localFrameIntake bytes => exact h.localFrameIntake bytes
  | localTransmitEnd => exact h.localTransmitEnd
  | holdExpiry i => exact h.expireAll i
  | probeIssue =>
    unfold State.probeIssue
    split
    · exact h.continueBurst
    · exact h
  | probeTimeout => exact h.probeTimeout
  | settleDeadline =>
    unfold State.settleDeadline
    split
    · exact h.resume
    · exact h
  | refPulse r dir => exact h.refPulse r dir
  | refTimeout r => exact h.refTimeout r
  | markEdge m dir => exact h.markEdge m dir
  | markerMatch o => exact h.markerMatch o
  | markerPulseEnd o => exact h.markerPulseEnd o
  | logHeadDone port => exact h.logHeadDone port
  | logImageDone port => exact h.logImageDone port
  | emptyImageDone port => exact h.emptyImageDone port
  | attentionDone port => exact h.modPort port _ PortCtx.attentionDone_bounded
  | interruptedRise port => exact h.interruptedRise port

theorem happens (h : s.Within) (run : s.Happens t) : t.Within := by
  cases run with
  | pinReset site r0 r1 r2 => exact State.Within.pinReset s site r0 r1 r2
  | occurs run => exact h.occurs run

theorem acts {role : Role} {port : Port} (h : s.Within) (run : s.Acts role port t) : t.Within := by
  cases run with
  | nothing => exact h
  | softReset => exact h.softReset
  | attentionMask => exact h.modPort port _ fun b => b
  | enable p => exact h.enable p
  | disable p => exact h.disable p
  | timers p a _ range => exact (h.modEntry p _ range.store).evaluate p
  | idleBank p bankOne b _ range => exact h.modEntry p (fun e => e.setBank bankOne b) fun e => e.setBank bankOne range
  | activeBank p bankOne b _ range => exact ((h.modEntry p (fun e => e.setBank bankOne b) fun e => e.setBank bankOne range).recomputeDelay p).evaluate p
  | selectBank p => exact ((h.modEntry p _ fun e => e).recomputeDelay p).evaluate p
  | baseDelay p delay _ range =>
    refine State.Within.recomputeDelay (h.modEntry p _ fun ⟨score, eff, _, rest⟩ => ⟨score, eff, fun d set => ?_, rest⟩) p
    cases set
    exact range
  | smoothing p a _ range => exact (h.modEntry p _ range.store).recomputeDelay p
  | margins l _ range => exact h.applyMargins l range
  | lock p => exact h.modEntry p _ fun e => e
  | lockAll => exact State.Within.foldl _ _ (fun _ p hu => hu.modEntry p _ fun e => e) h
  | clearStats p => exact h.modStats p _ fun _ => Stats.reset_bounded
  | clearAllStats => exact State.Within.foldl _ _ (fun _ p hu => hu.modStats p _ fun _ => Stats.reset_bounded) h
  | peerSite => exact { h with }
  | selection a shadow _ range => exact (h.modSelector (a.store shadow) fun _ => range).reEvaluate
  | pin => exact (h.modSelector _ id).reEvaluate
  | stream i a _ range => exact (h.modRx i _ (StreamArgs.store_within range)).modTx i _ fun x => x
  | reshape i a _ range => exact ((h.resync i _ _).modRx i _ (StreamArgs.store_within range)).modTx i _ fun x => x
  | resync i => exact h.resync i _ _
  | txSequence i => exact h.modTx i _ fun x => x
  | loadTime tod _ range => exact (h.modTime _ fun t => t.load tod range).noteStep _ _ _
  | stepTime offset =>
    refine State.Within.noteStep (h.modTime _ fun t => ?_) _ _ _
    split
    · exact (t.shift offset).relock
    · exact t.shift offset
  | frequency => exact h.modTime _ fun t => { t with frequency := clampRate_range _ }
  | discipline on a _ range => exact (h.modTime _ fun t => t.storeDiscipline on a range).noteQuality _ _
  | capture c edge source log => exact h.storeCapture c edge source log
  | readCapture c => exact h.modTime _ fun t => t.modChannel c _ (CaptureState.pop_bounded (t.channels c))
  | marker o action a => exact h.modTime _ fun t => t.modMarker o _ (Marker.settle_skipped (Nat.zero_le _) _ _)
  | startSweep a _ range => exact State.Within.pathTurn _ (h.modSounding _ range.start)
  | suspendSweep => exact h.suspendSweep
  | resume => exact h.resume
  | cancelSweep => exact h.cancelSweep
  | filter kinds watermark range =>
    exact (h.modReader port _ (h.log.lost port) (h.log.inOrder.2 port) range).checkLogCondition port
  | seekOldest =>
    exact (h.modReader port _ (h.log.lost port) (by simp) (h.log.watermark port)).checkLogCondition port
  | seekNext =>
    refine State.Within.checkLogCondition (h.modReader port _ (h.log.lost port) ?_ (h.log.watermark port)) port
    have places := h.log.places
    show (s.log.next - (s.log.next - BitVec.ofNat 32 s.log.records.length)).toNat ≤ _
    bv_omega
  | link us _ range =>
    exact State.Within.foldl _ _ (fun _ p hu => hu.beaconWaitEnd p) { h with beacon := range }

end State.Within

theorem State.kept_within : State.Kept State.Within :=
  .of_acts (fun _ _ h => { h with }) (fun _ h => h.modTime _ fun t => t.advance) (fun _ _ run h => h.happens run)
    (fun _ _ _ _ run h => h.acts run) (fun _ p _ keep h => h.modPort p _ (keep _))

/-- The probes counted valid and lost are probes issued, at most 16 of them (R147). -/
theorem State.Swept.samples_le {s : State} (h : s.Swept) : s.sounding.valid ≤ 16 ∧ s.sounding.lost ≤ 16 := by
  obtain ⟨-, -, -, -, -, -, -, index, -, issued, -⟩ := h
  omega

/-- Settles O57: a tick, every row and every command keep the bounds of every table; the samples of a sweep in order are
probes it has issued. -/
theorem boundsKept : Obligations.BoundsKept := by
  refine ⟨fun s t bounded run => ?_, fun s t swept run => (State.kept_swept.step swept run).samples_le⟩
  exact t.bounded_iff.mpr (State.kept_within.step (s.bounded_iff.mp bounded) run)

end Sys2Proof.Machine

/-! The reset values (O17) and the reset state as a starting state of the invariants (O60). -/

namespace Sys2Proof.Machine

/-- A reset entry has the values of R38's table. -/
theorem PathEntry.reset_values (endOfReset : Nat) : PathEntry.reset endOfReset =
    { state := .disabled, reason := .operator, entered := 0, farState := none, farQuality := none
      margin := none, reportTime := 0, stale := false, reportDeadline := none
      bank0 := ⟨40, 24, 8, 32, 20, 20000⟩, bank1 := ⟨40, 24, 8, 32, 20, 20000⟩, bankOne := false
      silenceTimeout := 2000, windowLength := 100, errorLimit := 50, recoverHold := 10000, reportTimeout := 5000
      window := none, holdDeadline := none, delay := none, weight := 2, lossWeight := 8, decayInterval := 1000
      decayDeadline := endOfReset + 1000000000, score := 0, effDelay := 16777215, locked := false
      stats := ⟨0, 0, 0, 0, 0, 0, 4294967295, 0, 0, 0, 0, 0, 0, 0, 0, 0⟩ } := by
  have period : 1000 * 1000000 = 1000000000 := by norm_num
  unfold PathEntry.reset
  rw [period]
  rfl

/-- A state whose tables are those of a reset has the reset values of every chapter. -/
theorem State.hasResetValues_of {t : State} {endOfReset : Nat} (paths : t.paths = Vector.replicate 5 (PathEntry.reset endOfReset))
    (peerSite : t.peerSite = none) (beacon : t.beaconInterval = 100) (selector : t.selector = Selector.reset)
    (rx : t.rxStreams = Vector.replicate 8 RxStream.reset) (tx : t.txStreams = Vector.replicate 8 TxStream.reset)
    (malformed : t.localPort.malformed = 0) (queue : t.localPort.queue = []) (sounding : t.sounding = Sounding.reset) :
    t.hasResetValues endOfReset := by
  refine ⟨fun p => ?_, peerSite, beacon, selector, fun i => ⟨?_, ?_⟩, malformed, queue, sounding⟩
  · rw [← PathEntry.reset_values]
    simp [State.entry, paths]
  · simp [State.rxStream, rx, RxStream.reset]
  · simp [State.txStream, tx, TxStream.reset]

theorem Role.ofStrap_code (strap : BitVec 2) : (Role.ofStrap strap).code = strap.toNat := by
  revert strap
  decide

section
variable (s : State) (site : BitVec 4) (role0 role1 role2 : BitVec 2)

theorem State.pinReset_entry (p : Path) : (s.pinReset site role0 role1 role2).entry p = PathEntry.reset 0 := by cases p <;> rfl

theorem State.pinReset_port (p : Port) : ∃ role, (s.pinReset site role0 role1 role2).port p = PortCtx.reset role := by
  cases p <;> exact ⟨_, rfl⟩

theorem State.pinReset_line (p : Path) : (s.pinReset site role0 role1 role2).receiver p = ⟨.stopped, none⟩
    ∧ (s.pinReset site role0 role1 role2).transmitter p = ⟨[], none, none, none, .stopped⟩ := by cases p <;> exact ⟨rfl, rfl⟩

theorem State.pinReset_hasResetValues : (s.pinReset site role0 role1 role2).hasResetValues 0 :=
  State.hasResetValues_of rfl rfl rfl rfl rfl rfl rfl rfl rfl

end

/-- Settles O17: the reset state is spelled out table by table. -/
theorem pinResetValues : Obligations.PinResetValues := by
  intro s site r0 r1 r2
  refine ⟨rfl, s.pinReset site r0 r1 r2, rfl, rfl, Role.ofStrap_code r0, Role.ofStrap_code r1, Role.ofStrap_code r2, fun p => ?_,
    rfl, rfl, rfl, rfl, rfl, rfl, rfl, rfl, rfl, rfl, rfl, rfl, fun r => ?_, fun k => ?_, rfl, rfl, rfl, rfl, fun o => ?_,
    fun p => ?_, s.pinReset_hasResetValues site r0 r1 r2, rfl, s.pinReset_line site r0 r1 r2, rfl, rfl, rfl, rfl, rfl, rfl, rfl,
    rfl, rfl, rfl, rfl, (s.pinReset_hasResetValues site r0 r1 r2).2.2.2.2.1, rfl, rfl, rfl, rfl, rfl, rfl, fun p => ?_, rfl, rfl⟩
  · obtain ⟨role, port⟩ := s.pinReset_port site r0 r1 r2 p
    rw [port]
    exact ⟨rfl, rfl, rfl, rfl, rfl, rfl⟩
  · cases r <;> exact ⟨rfl, rfl⟩
  · cases k <;> exact ⟨rfl, rfl, rfl, rfl⟩
  · cases o <;> rfl
  · obtain ⟨receiver, transmitter⟩ := s.pinReset_line site r0 r1 r2 p
    rw [s.pinReset_entry, receiver, transmitter]
    exact ⟨rfl, rfl, rfl, rfl, rfl, rfl, rfl, rfl, rfl, rfl, rfl, rfl, rfl, rfl, rfl, rfl, rfl, rfl, rfl, rfl, rfl, rfl⟩
  · cases p <;> rfl

/-- Settles O60: the reset state meets each invariant by what a reset leaves. -/
theorem resetStateStartsWell : Obligations.ResetStateStartsWell := by
  have straps (s : State) : exec (.pinReset 0 0 2 1) s = .next { State.reset with pending := s.pending } := rfl
  have bounded : State.reset.Within := State.Within.ofStraps 0 .supervisor .operator .gateway
  exact ⟨straps, State.reset.bounded_iff.mpr bounded, State.resetRoute_routed (endOfReset := 0) rfl rfl,
    State.windows_of_reset rfl, State.swept_of_reset rfl (fun p => by cases p <;> rfl), rfl⟩

end Sys2Proof.Machine

/-! What no input but a pin or power-on reset changes: the queue of waiting inputs, the site id, MONO and the roles (O5). -/

namespace Sys2Proof.Machine
namespace State

/-- The queue of waiting inputs, the site id, MONO, the roles and the status bytes do not differ. -/
structure Steady (s t : State) : Prop where
  pending : t.pending = s.pending
  siteId : t.siteId = s.siteId
  mono : t.time.mono = s.time.mono
  port : ∀ p, (t.port p).role = (s.port p).role ∧ (t.port p).statusOut = (s.port p).statusOut

variable {s t u : State}

theorem Steady.refl (s : State) : s.Steady s := ⟨rfl, rfl, rfl, fun _ => ⟨rfl, rfl⟩⟩

theorem Steady.role (h : s.Steady t) (p : Port) : (t.port p).role = (s.port p).role := (h.port p).1
theorem Steady.statusOut (h : s.Steady t) (p : Port) : (t.port p).statusOut = (s.port p).statusOut := (h.port p).2

theorem Steady.trans (h : s.Steady t) (h' : t.Steady u) : s.Steady u :=
  ⟨h'.pending.trans h.pending, h'.siteId.trans h.siteId, h'.mono.trans h.mono, 
    fun p => ⟨(h'.role p).trans (h.role p), (h'.statusOut p).trans (h.statusOut p)⟩⟩

theorem portsRaised.steady (h : s.portsRaised t) (p : Port) :
    (t.port p).role = (s.port p).role ∧ (t.port p).statusOut = (s.port p).statusOut := by
  rw [(h p).1]
  exact ⟨rfl, rfl⟩

theorem Steady.routed (h : s.routed t) : s.Steady t := by
  obtain ⟨same, -, raised⟩ := h
  exact ⟨by rw [same], by rw [same], by rw [same], raised.steady⟩

theorem Steady.dataOnly {i : StreamId} (h : State.dataOnly i s t) : s.Steady t := by
  obtain ⟨same, -, -, raised⟩ := h
  exact ⟨by rw [same], by rw [same], by rw [same], raised.steady⟩

theorem Steady.mergeOnly {i : StreamId} (h : State.mergeOnly i s t) : s.Steady t := .dataOnly (State.mergeOnly_dataOnly h)

theorem Steady.sweepOnly (h : s.sweepOnly t) : s.Steady t := by
  obtain ⟨same, raised⟩ := h
  exact ⟨by rw [same], by rw [same], by rw [same], raised.steady⟩

theorem Steady.timeOnly (h : s.timeOnly t) : s.Steady t := by
  obtain ⟨same, mono, raised⟩ := h
  exact ⟨by rw [same], by rw [same], mono, raised.steady⟩

theorem Steady.logOnly (h : s.logOnly t) : s.Steady t := .routed (State.logOnly_routed h)

/-- An update of tables among which there are no port contexts, and which leaves the clock. -/
theorem Steady.of_tables (pending : t.pending = s.pending) (siteId : t.siteId = s.siteId) (time : t.time = s.time)
    (ports : t.ports = s.ports) : s.Steady t :=
  ⟨pending, siteId, by rw [time], fun p => by rw [State.port, ports]; exact ⟨rfl, rfl⟩⟩

theorem steady_modPort (s : State) (p : Port) (g : PortCtx → PortCtx) 
    (keeps : ∀ c, (g c).role = c.role ∧ (g c).statusOut = c.statusOut) : s.Steady (s.modPort p g) := by
  refine ⟨rfl, rfl, rfl, fun q => ?_⟩
  rw [State.modPort_port]
  split
  · rename_i same
    rw [same]
    exact keeps _
  · exact ⟨rfl, rfl⟩

theorem steady_foldl {β : Type} (f : State → β → State) (l : List β) (keep : ∀ (u : State) (b : β), u.Steady (f u b)) (s : State) :
    s.Steady (l.foldl f s) := foldl_keeps (fun u => s.Steady u) f l (fun u b _ h => h.trans (keep u b)) (.refl s)

/-! ## Operations -/

theorem steady_modReceiver (s : State) (p : Path) (g : Receiver → Receiver) : s.Steady (s.modReceiver p g) := .of_tables rfl rfl rfl rfl
theorem steady_modLocal (s : State) (g : LocalPort → LocalPort) : s.Steady (s.modLocal g) := .of_tables rfl rfl rfl rfl
theorem steady_modTx (s : State) (i : StreamId) (g : TxStream → TxStream) : s.Steady (s.modTx i g) := .of_tables rfl rfl rfl rfl
theorem steady_modSelector (s : State) (g : Selector → Selector) : s.Steady (s.modSelector g) := .of_tables rfl rfl rfl rfl
theorem steady_modEntry (s : State) (p : Path) (g : PathEntry → PathEntry) : s.Steady (s.modEntry p g) := .of_tables rfl rfl rfl rfl

theorem steady_passOnward (s : State) (p : Path) (a : Stamp) (f : PathFrame) : s.Steady (s.passOnward p a f) := by
  unfold State.passOnward
  split
  · exact .dataOnly (s.takeData_dataOnly _)
  · exact .refl s
  · exact .sweepOnly (s.echoService_sweepOnly p _ _ _)
  · exact .routed (s.takeEcho_routed p _ _ _ _)

theorem steady_validFrame (s : State) (p : Path) (arrival : Nat) (state : LocalState) (quality : Quality) :
    s.Steady (s.validFrame p arrival state quality) :=
  (steady_modReceiver s p _).trans (.routed (State.routed_trans (State.modStats_routed _ p _)
    (State.routed_trans (State.setFar_routed _ p _ _) (State.evaluate_routed _ p))))

theorem steady_checkError (s : State) (p : Path) : s.Steady (s.checkError p) := by
  unfold State.checkError
  dsimp only
  split
  · exact .routed (s.modStats_routed p _)
  · exact .routed (State.routed_trans (s.modStats_routed p _) (State.routed_trans (State.modEntry_routed _ p _) (State.evaluate_routed _ p)))

theorem steady_pathFrameEnd (s : State) (p : Path) (bytes : List Byte) : s.Steady (s.pathFrameEnd p bytes) := by
  have ended := steady_modReceiver s p (fun r => { r with arriving := none })
  unfold State.pathFrameEnd State.judgeFrame
  split
  · exact .refl s
  · dsimp only
    split
    · exact ended
    · split
      · exact ended.trans (steady_checkError _ p)
      · split_ifs
        · exact ended.trans (.routed (State.modStats_routed _ p _))
        · exact ended.trans (.routed (State.modStats_routed _ p _))
        · exact ended.trans ((steady_validFrame _ p _ _ _).trans (steady_passOnward _ p _ _))
        · exact ended.trans (.routed (State.modStats_routed _ p _))

theorem steady_dispatch (s : State) (i : StreamId) (origin : Tod) (mask : PathSet) (payload : List Byte) :
    s.Steady (s.dispatch i origin mask payload) := by
  refine (steady_modTx s i _).trans ((steady_foldl _ _ (fun u p => ?_) _).trans (steady_foldl _ _ (fun u p => ?_) _))
  · unfold State.placeCopy
    split
    · exact .of_tables rfl rfl rfl rfl
    · exact .refl u
  · split
    · exact .sweepOnly (u.arbitrate_sweepOnly p)
    · exact .refl u

theorem steady_intake (s : State) (i : StreamId) (origin : Tod) (payload : List Byte) : s.Steady (s.intake i origin payload) := by
  have dropped : s.Steady (Path.all.foldl (State.countTxDrop s.selector.dispatchSet) s) := steady_foldl _ _ (fun u p => by
    unfold State.countTxDrop
    split
    · exact .routed (u.modStats_routed p _)
    · exact .refl u) s
  unfold State.intake
  dsimp only
  split_ifs
  · exact steady_modTx s i _
  · exact (steady_modTx s i _).trans (.logOnly (State.raiseAll_logOnly _ _))
  · exact dropped.trans ((steady_modTx _ i _).trans (.logOnly (State.raiseAll_logOnly _ _)))
  · exact dropped.trans (steady_dispatch _ i origin _ payload)

theorem steady_localFrameIntake (s : State) (bytes : List Byte) : s.Steady (s.localFrameIntake bytes) := by
  have ended := steady_modLocal s (fun l => { l with arriving := none })
  unfold State.localFrameIntake
  split
  · exact .refl s
  · dsimp only
    split
    · exact ended
    · split
      · exact ended.trans (steady_modLocal _ _)
      · exact ended.trans (steady_intake _ _ _ _)

theorem steady_frameTransmitEnd (s : State) (p : Path) : s.Steady (s.frameTransmitEnd p) := by
  unfold State.frameTransmitEnd
  split
  · exact .refl s
  · dsimp only
    refine Steady.trans (t := if _ then s else s.modStats p _) ?_ (Steady.trans (.of_tables rfl rfl rfl rfl) (.sweepOnly (State.arbitrate_sweepOnly _ p)))
    split
    · exact .refl s
    · exact .routed (s.modStats_routed p _)

theorem steady_enable (s : State) (p : Path) : s.Steady (s.enable p) :=
  (Steady.routed (State.routed_trans (s.setLocalState_routed p _ _) (State.modEntry_routed _ p _))).trans
    ((steady_modReceiver _ p _).trans (.routed (State.routed_trans (State.modTransmitter_routed _ p _) (State.arbitrate_routed _ p))))

theorem steady_disable (s : State) (p : Path) : s.Steady (s.disable p) := by
  unfold State.disable
  exact (Steady.routed (State.routed_trans (s.setLocalState_routed p _ _) (State.setFar_routed _ p none none))).trans
    ((steady_modReceiver _ p _).trans (steady_modEntry _ p _))

theorem steady_applyMargins (l : List (Path × Int)) (s : State) : s.Steady (s.applyMargins l) := by
  induction l generalizing s with
  | nil => exact .refl s
  | cons e rest ih =>
    have applied : s.routed (s.applyMargin e.1 e.2) := by
      unfold State.applyMargin
      exact State.routed_trans (s.modEntry_routed e.1 _)
        (State.routed_trans (State.recomputeDelay_routed _ e.1) (State.evaluate_routed _ e.1))
    exact (Steady.routed applied).trans (ih _)

theorem steady_softReset (s : State) : s.Steady s.softReset := by
  unfold State.softReset
  refine Steady.trans ?_ (.logOnly (State.resetLog_logOnly _))
  refine ⟨rfl, rfl, rfl, fun p => ?_⟩
  simp [State.port, PortCtx.softReset, PortCtx.reset]

theorem PortCtx.attentionDone_steady (c : PortCtx) :
    c.attentionDone.role = c.role ∧ c.attentionDone.statusOut = c.statusOut := by
  unfold PortCtx.attentionDone
  split <;> exact ⟨rfl, rfl⟩

theorem steady_modReader (s : State) (p : Port) (g : ReadCtx → ReadCtx) : s.Steady (s.modReader p g) := .of_tables rfl rfl rfl rfl

theorem steady_nextLogImage (s : State) (p : Port) : s.Steady (s.nextLogImage p) := by
  unfold State.nextLogImage
  exact steady_modPort s p _ fun _ => ⟨rfl, rfl⟩

theorem steady_nextPeekImage (s : State) (p : Port) (position : Seq) : s.Steady (s.nextPeekImage p position) := by
  unfold State.nextPeekImage
  exact steady_modPort s p _ fun _ => ⟨rfl, rfl⟩

theorem steady_checkLogCondition (s : State) (p : Port) : s.Steady (s.checkLogCondition p) := by
  unfold State.checkLogCondition
  split
  · exact .routed (s.raiseOn_routed p _)
  · exact .refl s

/-! ## Every input -/

theorem steady_of_occurs (run : s.Occurs t) : s.Steady t := by
  cases run with
  | nothing => exact .refl s
  | softResetPeriodEnd =>
    unfold State.softResetPeriodEnd
    split
    · exact .of_tables rfl rfl rfl rfl
    · exact .refl s
  | pathFrameStart p => exact steady_modReceiver s p _
  | pathFrameEnd p bytes => exact steady_pathFrameEnd s p bytes
  | silenceExpiry p =>
    unfold State.silenceExpiry
    split
    · exact (steady_modReceiver s p _).trans (.routed (State.routed_trans (State.setFar_routed _ p none none) (State.evaluate_routed _ p)))
    · exact .refl s
  | windowEnd p =>
    unfold State.windowEnd
    split
    · exact .routed (State.routed_trans (s.modEntry_routed p _) (State.evaluate_routed _ p))
    · exact .refl s
  | recoverHoldExpiry p =>
    unfold State.recoverHoldExpiry
    split
    · exact .routed (s.evaluate_routed p)
    · exact .refl s
  | reportExpiry p =>
    unfold State.reportExpiry
    split
    · exact .routed (State.routed_trans (s.modEntry_routed p _) (State.raiseAll_routed _ _))
    · exact .refl s
  | scoreDecay p => exact .routed (s.scoreDecay_routed p)
  | guardExpiry =>
    unfold State.guardExpiry
    split
    · exact (steady_modSelector s _).trans (.routed (State.reEvaluate_routed _))
    · exact .refl s
  | frameTransmitEnd p => exact steady_frameTransmitEnd s p
  | beaconWaitEnd p => exact .sweepOnly (s.beaconWaitEnd_sweepOnly p)
  | localFrameStart => exact steady_modLocal s _
  | localFrameIntake bytes => exact steady_localFrameIntake s bytes
  | localTransmitEnd =>
    unfold State.localTransmitEnd
    split
    · exact steady_modLocal s _
    · exact .refl s
  | holdExpiry i => exact .mergeOnly (s.expireAll_mergeOnly i)
  | probeIssue => exact .routed s.probeIssue_routed
  | probeTimeout => exact .routed s.probeTimeout_routed
  | settleDeadline =>
    unfold State.settleDeadline
    split
    · exact .routed s.resume_routed
    · exact .refl s
  | refPulse r dir => exact .timeOnly (s.refPulse_timeOnly r dir)
  | refTimeout r => exact .timeOnly (s.refTimeout_timeOnly r)
  | markEdge m dir => exact .timeOnly (s.markEdge_timeOnly m dir)
  | markerMatch o => exact .timeOnly (s.markerMatch_timeOnly o)
  | markerPulseEnd o => exact .timeOnly (s.markerPulseEnd_timeOnly o)
  | logHeadDone port =>
    unfold State.logHeadDone
    split
    · exact (steady_modReader s port _).trans (steady_nextLogImage _ port)
    · exact steady_nextPeekImage s port _
    · exact .refl s
  | logImageDone port =>
    unfold State.logImageDone
    split
    · exact (steady_modReader s port _).trans (steady_nextLogImage _ port)
    · exact steady_nextPeekImage s port _
    · exact .refl s
  | emptyImageDone port =>
    unfold State.emptyImageDone
    split
    · exact (steady_modReader s port _).trans (steady_nextLogImage _ port)
    · exact steady_nextPeekImage s port _
    · exact .refl s
  | attentionDone port => exact steady_modPort s port _ PortCtx.attentionDone_steady
  | interruptedRise port =>
    unfold State.interruptedRise
    split
    · exact .refl s
    · exact steady_modPort s port _ fun _ => ⟨rfl, rfl⟩
    · exact steady_modPort s port _ fun _ => ⟨rfl, rfl⟩

theorem steady_of_acts {role : Role} {port : Port} (run : s.Acts role port t) : s.Steady t := by
  cases run with
  | nothing => exact .refl s
  | softReset => exact steady_softReset s
  | attentionMask => exact steady_modPort s port _ fun _ => ⟨rfl, rfl⟩
  | enable p => exact steady_enable s p
  | disable p => exact steady_disable s p
  | timers p a => exact .routed (State.routed_trans (s.modEntry_routed p _) (State.evaluate_routed _ p))
  | idleBank p => exact steady_modEntry s p _
  | activeBank p | selectBank p =>
    exact .routed (State.routed_trans (s.modEntry_routed p _)
      (State.routed_trans (State.recomputeDelay_routed _ p) (State.evaluate_routed _ p)))
  | baseDelay p | smoothing p => exact .routed (State.routed_trans (s.modEntry_routed p _) (State.recomputeDelay_routed _ p))
  | margins l => exact steady_applyMargins l s
  | lock p => exact steady_modEntry s p _
  | lockAll => exact steady_foldl _ _ (fun u p => steady_modEntry u p _) s
  | clearStats p => exact .routed (s.modStats_routed p _)
  | clearAllStats => exact steady_foldl _ _ (fun u p => .routed (u.modStats_routed p _)) s
  | peerSite => exact .of_tables rfl rfl rfl rfl
  | selection | pin => exact (steady_modSelector s _).trans (.routed (State.reEvaluate_routed _))
  | stream i => exact .of_tables rfl rfl rfl rfl
  | reshape i => exact (Steady.mergeOnly (s.resync_mergeOnly i _ _)).trans (.of_tables rfl rfl rfl rfl)
  | resync i => exact .mergeOnly (s.resync_mergeOnly i _ _)
  | txSequence i => exact steady_modTx s i _
  | loadTime tod _ range =>
    refine .timeOnly (State.timeOnly_trans (s.modTime_timeOnly ?_) (State.noteStep_timeOnly _ _ _ _))
    unfold TimeUnit.load
    dsimp only
    split <;> rfl
  | stepTime offset =>
    refine .timeOnly (State.timeOnly_trans (s.modTime_timeOnly ?_) (State.noteStep_timeOnly _ _ _ _))
    split <;> rfl
  | frequency => exact .timeOnly (s.modTime_timeOnly rfl)
  | discipline on =>
    exact .timeOnly (State.timeOnly_trans (s.modTime_timeOnly (TimeUnit.switchDiscipline_mono _ on)) (State.noteQuality_timeOnly _ _ _))
  | capture c => exact .timeOnly (s.storeCapture_timeOnly c _ _ _)
  | readCapture => exact .timeOnly (s.modTime_timeOnly rfl)
  | marker => exact .timeOnly (s.modTime_timeOnly rfl)
  | startSweep => exact .sweepOnly (State.sweepOnly_trans (s.modSounding_sweepOnly _) (State.pathTurn_sweepOnly _ _))
  | suspendSweep => exact .sweepOnly s.suspendSweep_sweepOnly
  | resume => exact .routed s.resume_routed
  | cancelSweep => exact .sweepOnly s.cancelSweep_sweepOnly
  | filter | seekOldest | seekNext => exact (steady_modReader s port _).trans (steady_checkLogCondition _ port)
  | link us =>
    have stored : s.Steady { s with beaconInterval := us } := .of_tables rfl rfl rfl rfl
    exact stored.trans (steady_foldl _ _ (fun u p => .sweepOnly (u.beaconWaitEnd_sweepOnly p)) _)

/-- A transaction puts out the status byte on its port; all else that `Steady` names stays. -/
theorem steady_of_transacted {reads : Bool} {port : Port} (run : s.Transacted reads t port) : (s.beginTransaction port).Steady t := by
  obtain ⟨u, g, takes, concludes, rfl⟩ := run
  exact (steady_of_acts takes.acts).trans (steady_modPort u port g fun c => ⟨concludes.role c, concludes.statusOut c⟩)

theorem beginTransaction_role (s : State) (port p : Port) : ((s.beginTransaction port).port p).role = (s.port p).role := by
  unfold State.beginTransaction
  rw [State.modPort_port]
  split
  · rename_i same
    rw [same]
  · rfl

theorem straps_of_exec {i : Instr} (noReset : Instr.NoPinReset i) (run : exec i s = .next t) :
    t.siteId = s.siteId ∧ t.time.mono = s.time.mono ∧ ∀ p, (t.port p).role = (s.port p).role := by
  rcases exec_cases_noPinReset noReset run with ⟨-, occurs⟩ | ⟨port, -, -, transacted⟩
  · have steady := steady_of_occurs occurs
    exact ⟨steady.siteId, steady.mono, steady.role⟩
  · have steady := steady_of_transacted transacted
    exact ⟨steady.siteId, steady.mono, fun p => (steady.role p).trans (s.beginTransaction_role port p)⟩

/-- A reset by the pin or at power-on keeps the queue too (log entry 2). -/
theorem exec_pending {i : Instr} (run : exec i s = .next t) : t.pending = s.pending := by
  rcases exec_cases run with ⟨-, happens⟩ | ⟨port, -, -, transacted⟩
  · cases happens with
    | pinReset => rfl
    | occurs run => exact (steady_of_occurs run).pending
  · exact (steady_of_transacted transacted).pending

end State

/-- Settles O5: each row and each command leaves what `State.Steady` names; only a pin or power-on reset does not. -/
theorem inputsKeepStrapsQueueAndMono : Obligations.InputsKeepStrapsQueueAndMono := by
  refine ⟨fun i s t run => ⟨State.exec_pending run, fun noReset => ?_⟩, fun i s t run noReset => ?_⟩
  · obtain ⟨siteId, -, role⟩ := State.straps_of_exec noReset run
    exact ⟨siteId, role⟩
  · exact (State.straps_of_exec noReset run).2.1

end Sys2Proof.Machine

/-! The checks of the port in their order (O6): how every command row is judged, said once. -/

namespace Sys2Proof.Machine

/-! ## Operand forms: well framed exactly with the number of bytes of R173 -/

theorem noArgs_isSome (args : List Byte) : (noArgs args).isSome = (args.length == 0) := by cases args <;> rfl
theorem firstByte_isSome (args : List Byte) : (firstByte args).isSome = (args.length != 0) := by cases args <;> rfl

theorem oneByte_isSome (args : List Byte) : (oneByte args).isSome = (args.length == 1) := by
  unfold oneByte
  split
  · rfl
  · rename_i other
    refine (beq_eq_false_iff_ne.mpr fun len => ?_).symm
    match args, len with
    | [_], _ => exact other _ rfl

theorem twoBytes_isSome (args : List Byte) : (twoBytes args).isSome = (args.length == 2) := by
  unfold twoBytes
  split
  · rfl
  · rename_i other
    refine (beq_eq_false_iff_ne.mpr fun len => ?_).symm
    match args, len with
    | [_, _], _ => exact other _ _ rfl

theorem bytePair_isSome (args : List Byte) : (bytePair args).isSome = (args.length == 2) := by
  unfold bytePair
  split
  · rfl
  · rename_i other
    refine (beq_eq_false_iff_ne.mpr fun len => ?_).symm
    match args, len with
    | [_, _], _ => exact other _ _ rfl

theorem wordPair_isSome (args : List Byte) : (wordPair args).isSome = (args.length == 4) := by
  unfold wordPair
  split
  · rfl
  · rename_i other
    refine (beq_eq_false_iff_ne.mpr fun len => ?_).symm
    match args, len with
    | [_, _, _, _], _ => exact other _ _ _ _ rfl

theorem byteAndLong_isSome (args : List Byte) : (byteAndLong args).isSome = (args.length == 5) := by
  unfold byteAndLong
  split
  · rfl
  · rename_i other
    refine (beq_eq_false_iff_ne.mpr fun len => ?_).symm
    match args, len with
    | [_, _, _, _, _], _ => exact other _ _ _ _ _ rfl

theorem signedLong_isSome (args : List Byte) : (signedLong args).isSome = (args.length == 4) := by
  unfold signedLong
  split
  · rfl
  · rename_i other
    refine (beq_eq_false_iff_ne.mpr fun len => ?_).symm
    match args, len with
    | [_, _, _, _], _ => exact other _ _ _ _ rfl

theorem longPair_isSome (args : List Byte) : (longPair args).isSome = (args.length == 8) := by
  unfold longPair
  split
  · rfl
  · rename_i other
    refine (beq_eq_false_iff_ne.mpr fun len => ?_).symm
    match args, len with
    | [_, _, _, _, _, _, _, _], _ => exact other _ _ _ _ _ _ _ _ rfl

theorem pathTimersArgs_isSome (args : List Byte) : (pathTimersArgs args).isSome = (args.length == 13) := by
  unfold pathTimersArgs
  split
  · rfl
  · rename_i other
    refine (beq_eq_false_iff_ne.mpr fun len => ?_).symm
    match args, len with
    | [_, _, _, _, _, _, _, _, _, _, _, _, _], _ => exact other _ _ _ _ _ _ _ _ _ _ _ _ _ rfl

theorem thresholdArgs_isSome (args : List Byte) : (thresholdArgs args).isSome = (args.length == 9) := by
  unfold thresholdArgs
  split
  · rfl
  · rename_i other
    refine (beq_eq_false_iff_ne.mpr fun len => ?_).symm
    match args, len with
    | [_, _, _, _, _, _, _, _, _], _ => exact other _ _ _ _ _ _ _ _ _ rfl

theorem smoothingArgs_isSome (args : List Byte) : (smoothingArgs args).isSome = (args.length == 5) := by
  unfold smoothingArgs
  split
  · rfl
  · rename_i other
    refine (beq_eq_false_iff_ne.mpr fun len => ?_).symm
    match args, len with
    | [_, _, _, _, _], _ => exact other _ _ _ _ _ rfl

theorem selectionArgs_isSome (args : List Byte) : (selectionArgs args).isSome = (args.length == 6) := by
  unfold selectionArgs
  split
  · rfl
  · rename_i other
    refine (beq_eq_false_iff_ne.mpr fun len => ?_).symm
    match args, len with
    | [_, _, _, _, _, _], _ => exact other _ _ _ _ _ _ rfl

theorem streamArgs_isSome (args : List Byte) : (streamArgs args).isSome = (args.length == 9) := by
  unfold streamArgs
  split
  · rfl
  · rename_i other
    refine (beq_eq_false_iff_ne.mpr fun len => ?_).symm
    match args, len with
    | [_, _, _, _, _, _, _, _, _], _ => exact other _ _ _ _ _ _ _ _ _ rfl

theorem disciplineArgs_isSome (args : List Byte) : (disciplineArgs args).isSome = (args.length == 8) := by
  unfold disciplineArgs
  split
  · rfl
  · rename_i other
    refine (beq_eq_false_iff_ne.mpr fun len => ?_).symm
    match args, len with
    | [_, _, _, _, _, _, _, _], _ => exact other _ _ _ _ _ _ _ _ rfl

theorem captureArgs_isSome (args : List Byte) : (captureArgs args).isSome = (args.length == 4) := by
  unfold captureArgs
  split
  · rfl
  · rename_i other
    refine (beq_eq_false_iff_ne.mpr fun len => ?_).symm
    match args, len with
    | [_, _, _, _], _ => exact other _ _ _ _ rfl

theorem markerArgs_isSome (args : List Byte) : (markerArgs args).isSome = (args.length == 16) := by
  unfold markerArgs
  split
  · rfl
  · rename_i other
    refine (beq_eq_false_iff_ne.mpr fun len => ?_).symm
    match args, len with
    | [_, _, _, _, _, _, _, _, _, _, _, _, _, _, _, _], _ => exact other _ _ _ _ _ _ _ _ _ _ _ _ _ _ _ _ rfl

theorem sweepArgs_isSome (args : List Byte) : (sweepArgs args).isSome = (args.length == 8) := by
  unfold sweepArgs
  split
  · rfl
  · rename_i other
    refine (beq_eq_false_iff_ne.mpr fun len => ?_).symm
    match args, len with
    | [_, _, _, _, _, _, _, _], _ => exact other _ _ _ _ _ _ _ _ rfl

theorem marginEntries_isSome : ∀ args : List Byte, (marginEntries args).isSome = (args.length % 2 == 0)
  | [] => rfl
  | [_] => rfl
  | _ :: _ :: rest => by
    simp only [marginEntries, Option.isSome_map, marginEntries_isSome rest, List.length_cons]
    rw [show rest.length + 1 + 1 = rest.length + 2 from rfl, Nat.add_mod_right]

theorem postMarginArgs_isSome (args : List Byte) : (postMarginArgs args).isSome = (args.length % 2 == 0 && args.length != 0) := by
  rw [← marginEntries_isSome]
  unfold postMarginArgs
  match args with
  | [] => rfl
  | [_] => rfl
  | p :: m :: rest => cases whole : marginEntries rest <;> simp [marginEntries, whole]

/-! ## How a command row is judged -/

/-- `s.Judged port i t`: the well-known command `i` on `port` makes `t` of `s` through the checks of a command that changes
state, through those of a read, or as READ ID. A row without the right is refused by the check, or by its block. -/
inductive State.Judged (s : State) (port : Port) (i : Instr) : State → Prop
  | command {α : Type} (args : Option α) (right : Role → Bool) (take : α → State → Except ResultCode State)
      (framed : i.framing = some args.isSome) (writes : i.isRead = false)
      (denied : i.permits (s.port port).role = false → ∀ a, args = some a → right (s.port port).role = false
        ∨ right (s.port port).role = true ∧ take a (s.beginTransaction port) = .error .rights) :
      s.Judged port i (s.command port args right take)
  | read {α : Type} (args : Option α) (right : Role → Bool) (take : α → State → Except ResultCode Answer)
      (framed : i.framing = some args.isSome) (reads : i.isRead = true)
      (permits : i.permits (s.port port).role = right (s.port port).role) : s.Judged port i (s.readCommand port args right take)
  | identity (named : i = .readId port) (bytes : List Byte) :
      s.Judged port i (s.modPort port (fun c =>
        { c with lastResult := .ok, statusOut := s.statusByte port, reading := some .plain, response := bytes }))

/-- A command whose right is that of the rights table. -/
theorem State.Judged.of_right {s : State} {port : Port} {i : Instr} {α : Type} (args : Option α) {right : Role → Bool}
    {take : α → State → Except ResultCode State} (framed : i.framing = some args.isSome) (writes : i.isRead = false)
    (permits : i.permits (s.port port).role = right (s.port port).role) : s.Judged port i (s.command port args right take) :=
  .command args right take framed writes fun denied _ _ => .inl (permits ▸ denied)

/-- SET CAPTURE asks for the right of its channel (R31). -/
theorem State.setCapture_rights {s : State} {role : Role} {args : List Byte} {a : CaptureArgs} {port : Port}
    (framed : captureArgs args = some a) (denied : Instr.permits (.setCapture port args) role = false) :
    s.setCapture role a = .error .rights := by
  unfold captureArgs at framed
  split at framed
  · cases framed
    rename_i c e src l
    have channels : ∀ n : Nat, n < 4 ∨ 4 ≤ n := fun n => Nat.lt_or_ge n 4
    unfold State.setCapture
    dsimp only [Instr.permits, List.headD] at denied ⊢
    generalize c.toNat = code at denied
    match code, denied with
    | 0, denied | 1, denied | 2, denied | 3, denied => exact if_neg (by simpa [Role.mayCapture] using denied)
    | _ + 4, denied => cases denied
  · cases framed

/-- How each row of a known command is judged. -/
theorem exec_judged {i : Instr} {port : Port} {args : List Byte} (s : State) (command : i.portArgs = some (port, args))
    (known : i.framing ≠ none) : ∃ t, exec i s = .next t ∧ s.Judged port i t := by
  cases i with
  | softReset _ args | lockAll _ args | unlockAll _ args | unpinPrimary _ args | suspendSweep _ args | resumeSweep _ args | cancelSweep _ args =>
    cases command
    exact ⟨_, rfl, .of_right (noArgs args) (congrArg some (noArgs_isSome args).symm) rfl rfl⟩
  | setAttentionMask _ args | setLink _ args =>
    cases command
    exact ⟨_, rfl, .of_right (twoBytes args) (congrArg some (twoBytes_isSome args).symm) rfl rfl⟩
  | enablePath _ args | disablePath _ args | lockPath _ args | unlockPath _ args | clearPathStats _ args | setPeerSite _ args | pinPrimary _ args | resyncStream _ args | seekLog _ args =>
    cases command
    exact ⟨_, rfl, .of_right (oneByte args) (congrArg some (oneByte_isSome args).symm) rfl rfl⟩
  | setPathTimers _ args =>
    cases command
    exact ⟨_, rfl, .of_right (pathTimersArgs args) (congrArg some (pathTimersArgs_isSome args).symm) rfl rfl⟩
  | setThresholds _ args =>
    cases command
    exact ⟨_, rfl, .of_right (thresholdArgs args) (congrArg some (thresholdArgs_isSome args).symm) rfl rfl⟩
  | selectBank _ args =>
    cases command
    exact ⟨_, rfl, .of_right (bytePair args) (congrArg some (bytePair_isSome args).symm) rfl rfl⟩
  | setBaseDelay _ args | setTxSequence _ args =>
    cases command
    exact ⟨_, rfl, .of_right (byteAndLong args) (congrArg some (byteAndLong_isSome args).symm) rfl rfl⟩
  | setSmoothing _ args =>
    cases command
    exact ⟨_, rfl, .of_right (smoothingArgs args) (congrArg some (smoothingArgs_isSome args).symm) rfl rfl⟩
  | postMargin _ args =>
    cases command
    exact ⟨_, rfl, .of_right (postMarginArgs args) (congrArg some (postMarginArgs_isSome args).symm) rfl rfl⟩
  | setSelection _ args =>
    cases command
    exact ⟨_, rfl, .of_right (selectionArgs args) (congrArg some (selectionArgs_isSome args).symm) rfl rfl⟩
  | setStream _ args =>
    cases command
    exact ⟨_, rfl, .of_right (streamArgs args) (congrArg some (streamArgs_isSome args).symm) rfl rfl⟩
  | setTime _ args =>
    cases command
    exact ⟨_, rfl, .of_right (longPair args) (congrArg some (longPair_isSome args).symm) rfl rfl⟩
  | stepTime _ args | setFrequency _ args =>
    cases command
    exact ⟨_, rfl, .of_right (signedLong args) (congrArg some (signedLong_isSome args).symm) rfl rfl⟩
  | setDiscipline _ args =>
    cases command
    exact ⟨_, rfl, .of_right (disciplineArgs args) (congrArg some (disciplineArgs_isSome args).symm) rfl rfl⟩
  | setMarker _ args =>
    cases command
    exact ⟨_, rfl, .of_right (markerArgs args) (congrArg some (markerArgs_isSome args).symm) rfl rfl⟩
  | startSweep _ args =>
    cases command
    exact ⟨_, rfl, .of_right (sweepArgs args) (congrArg some (sweepArgs_isSome args).symm) rfl rfl⟩
  | setLogFilter _ args =>
    cases command
    exact ⟨_, rfl, .of_right (wordPair args) (congrArg some (wordPair_isSome args).symm) rfl rfl⟩
  | setCapture _ args =>
    cases command
    refine ⟨_, rfl, .command (captureArgs args) Role.any _ (congrArg some (captureArgs_isSome args).symm) rfl ?_⟩
    intro denied a framed
    refine .inr ⟨rfl, ?_⟩
    rw [State.beginTransaction_port]
    exact State.setCapture_rights framed denied
  | readPath _ args | readStream _ args | readCapture _ args =>
    cases command
    exact ⟨_, rfl, .read (firstByte args) _ _ (congrArg some (firstByte_isSome args).symm) rfl (by cases (s.port port).role <;> rfl)⟩
  | readStatus | readAttention | readSelection | readTime | readSweep | readLog | peekLog =>
    cases command
    exact ⟨_, rfl, .read (some ()) _ _ rfl rfl rfl⟩
  | readId =>
    cases command
    exact ⟨_, exec_readId port s, .identity rfl _⟩
  | unknownCommand => exact absurd rfl known
  | _ => cases command

variable {s t : State} {port : Port} {i : Instr}

theorem State.Judged.framing (h : s.Judged port i t) (wrong : i.framing = some false) :
    t = s.modPort port (fun c =>
      { c with
        lastResult := .framing, statusOut := s.statusByte port, reading := none, response := []
        framingErrors := inc16 c.framingErrors, pending := c.pending ||| AttnSet.single .protocol }) := by
  cases h with
  | command args right take framed =>
    cases args with
    | none => exact s.command_framing port right take
    | some a => simp [wrong] at framed
  | read args right take framed =>
    cases args with
    | none => exact s.readCommand_framing port right take
    | some a => simp [wrong] at framed
  | identity named => subst named; cases wrong

theorem State.Judged.busy (h : s.Judged port i t) (framing : i.framing = some true) (resetting : s.resetting ≠ none)
    (other : i ≠ .readId port) : t = s.refused i port .busy := by
  have period : s.resetting.isSome = true := Option.isSome_iff_ne_none.mpr resetting
  cases h with
  | command args right take framed writes =>
    cases args with
    | none => simp [framing] at framed
    | some a => rw [s.command_busy port a right take period, State.refused, if_neg (by simp [writes])]
  | read args right take framed reads =>
    cases args with
    | none => simp [framing] at framed
    | some a => rw [s.readCommand_busy port a right take period, State.refused, if_pos reads]
  | identity named => exact absurd named other

theorem State.Judged.rights (h : s.Judged port i t) (framing : i.framing = some true) (ready : s.resetting = none)
    (lacking : i.permits (s.port port).role = false) : t = s.refused i port .rights := by
  cases h with
  | command args right take framed writes denied =>
    cases args with
    | none => simp [framing] at framed
    | some a =>
      rw [State.refused, if_neg (by simp [writes])]
      rcases denied lacking a rfl with check | ⟨right, block⟩
      · exact s.command_rights port a _ take ready check
      · exact s.command_refused port a _ take _ ready right block
  | read args right take framed reads permits =>
    cases args with
    | none => simp [framing] at framed
    | some a =>
      rw [s.readCommand_rights port a right take ready (permits ▸ lacking), State.refused, if_pos reads]
  | identity named => subst named; cases lacking

/-- Settles O6: every known command is judged by one of three forms, each of which makes the checks in the order of R161. -/
theorem portChecksRefuse : Obligations.PortChecksRefuse := by
  refine ⟨fun i port args s command wrong => ?_, fun i port args s command framing resetting other => ?_,
    fun i port args s command framing ready lacking => ?_, fun s port code args unknown => ?_⟩
  · obtain ⟨t, run, judged⟩ := exec_judged s command (by simp [wrong])
    rw [run, judged.framing wrong]
    exact congrArg _ (s.modPort_congr (by simp only [inc16, satAdd, max16]; rfl))
  · obtain ⟨t, run, judged⟩ := exec_judged s command (by simp [framing])
    rw [run, judged.busy framing resetting other]
  · obtain ⟨t, run, judged⟩ := exec_judged s command (by simp [framing])
    rw [run, judged.rights framing ready lacking]
  · show Host.Outcome.next (s.unknownCommand port code) = _
    rw [State.unknownCommand, if_neg (by simp [unknown]), State.beginTransaction, State.modPort_modPort]
    exact congrArg _ (s.modPort_congr (by simp only [inc16, satAdd, max16]))

end Sys2Proof.Machine

/-! The reads and the OBSERVER role: O7, O10, O11 and O13. -/

namespace Sys2Proof.Machine

/-! ## What an OBSERVER can do -/

/-- Only the port's own context and its own reading context differ. -/
structure State.OwnContextOnly (port : Port) (s t : State) : Prop where
  frame : s.readersOnly t
  others : ∀ q, q ≠ port → t.port q = s.port q ∧ t.reader q = s.reader q

namespace State.OwnContextOnly

variable {s t u : State} {port : Port}

theorem refl (s : State) : State.OwnContextOnly port s s := ⟨rfl, fun _ _ => ⟨rfl, rfl⟩⟩

theorem trans (h : State.OwnContextOnly port s t) (h' : State.OwnContextOnly port t u) : State.OwnContextOnly port s u :=
  ⟨State.readersOnly_trans h.frame h'.frame, fun q hq =>
    ⟨(h'.others q hq).1.trans (h.others q hq).1, (h'.others q hq).2.trans (h.others q hq).2⟩⟩

theorem modPort (s : State) (g : PortCtx → PortCtx) : State.OwnContextOnly port s (s.modPort port g) :=
  ⟨rfl, fun _ hq => ⟨State.modPort_port_ne s port g hq, rfl⟩⟩

theorem modReader (s : State) (g : ReadCtx → ReadCtx) : State.OwnContextOnly port s (s.modReader port g) :=
  ⟨rfl, fun _ hq => ⟨rfl, State.modReader_reader_ne s port g hq⟩⟩

theorem checkLogCondition (s : State) : State.OwnContextOnly port s (s.checkLogCondition port) := by
  unfold State.checkLogCondition
  split
  · exact modPort s _
  · exact refl s

/-- Of the actions of the blocks an OBSERVER has the mask of its port and its reading context (R164). -/
theorem of_acts (run : s.Acts .observer port t) : State.OwnContextOnly port s t := by
  cases run with
  | nothing => exact refl s
  | attentionMask => exact modPort s _
  | filter | seekOldest | seekNext => exact (modReader s _).trans (checkLogCondition _)
  | capture c _ _ _ right => cases c <;> cases right
  | readCapture c right => cases right
  | _ => contradiction

end State.OwnContextOnly

/-- Settles O7: without a right to any other action, a transaction is its port's own update and the reading context's. -/
theorem observerChangesNothingShared : Obligations.ObserverChangesNothingShared := by
  intro i port args s t known command observer run
  obtain ⟨u, g, takes, -, rfl⟩ := exec_transacted command known run
  rw [observer] at takes
  have own := (State.OwnContextOnly.modPort (port := port) s _).trans ((State.OwnContextOnly.of_acts takes.acts).trans (.modPort u g))
  exact ⟨own.frame, own.others⟩

/-! ## Attention read and masked -/

theorem AttnSet.has_readDone (pending copied raised : AttnSet) (k : AttnKind) :
    AttnSet.has (pending &&& ~~~(copied &&& ~~~raised)) k
      = (AttnSet.has pending k && !(AttnSet.has copied k && !AttnSet.has raised k)) := by
  have bit : k.bit < 16 := by cases k <;> decide
  simp [AttnSet.has, bit]

theorem leNat_pair (a b : Byte) : leNat [a, b] = a.toNat + 256 * b.toNat := by simp [leNat]

/-- Settles O10: the copy, the kinds noted since, what the completion removes, and the mask. -/
theorem attentionReadAndMasked : Obligations.AttentionReadAndMasked := by
  refine ⟨fun s port => ⟨fun ready => ?_, fun copied raised reading => ?_, fun c copied raised k reading => ?_⟩,
    fun s port a b ready => ⟨fun below => ?_, fun above => ?_⟩⟩
  · show Host.Outcome.next (s.readCommand port (some ()) Role.any fun _ t => .ok (t.readAttention port)) = _
    rw [s.readCommand_taken _ port () Role.any _ ready rfl rfl]
    simp only [State.readAttention, State.beginTransaction_port]
    simp only [State.beginTransaction, State.modPort_modPort]
    exact congrArg _ (s.modPort_congr rfl)
  · refine ⟨s.modPort port PortCtx.attentionDone, rfl, ?_, fun k => ?_⟩
    · refine s.modPort_congr ?_
      rw [State.modPort_port_self, PortCtx.attentionDone, reading]
    · rw [State.modPort_port_self, PortCtx.attentionDone, reading]
      exact AttnSet.has_readDone _ _ _ k
  · refine ⟨raised ||| AttnSet.single k, ?_, ?_, ?_⟩
    · simp only [PortCtx.raise, reading]
    · simp [AttnSet.has_or, AttnSet.has_single]
    · simp
  · have mask : (s.beginTransaction port).setAttentionMask port (a.toNat + 256 * b.toNat)
        = .ok ((s.beginTransaction port).modPort port
          (fun c => { c with mask := BitVec.ofNat 16 (a.toNat + 256 * b.toNat) })) := if_neg (by omega)
    show Host.Outcome.next (s.command port (some (leNat [a, b])) Role.any fun kinds t => t.setAttentionMask port kinds) = _
    rw [leNat_pair, s.command_taken _ port _ Role.any _ ready rfl mask]
    simp only [State.setResult, State.answered, State.beginTransaction, State.modPort_modPort]
  · have refused : (s.beginTransaction port).setAttentionMask port (a.toNat + 256 * b.toNat) = .error .argument :=
      if_pos (by omega)
    show Host.Outcome.next (s.command port (some (leNat [a, b])) Role.any fun kinds t => t.setAttentionMask port kinds) = _
    rw [leNat_pair, s.command_refused port _ Role.any _ _ ready rfl refused]

/-! ## The plain reads -/

theorem streamOfCode_val (i : StreamId) : streamOfCode i.val = some i := dif_pos i.isLt

theorem streamOfCode_eq_none {n : Nat} (above : 7 < n) : streamOfCode n = none := dif_neg (by omega)

/-- Settles O11: each read's block answers from the state as it stands, or refuses the index. -/
theorem plainReadsChangeNothing : Obligations.PlainReadsChangeNothing := by
  intro s port ready answer
  have read {α : Type} (a : α) (bytes : List Byte) (take : α → State → Except ResultCode Answer)
      (taken : take a (s.beginTransaction port) = (s.beginTransaction port).plainRead bytes) :
      Host.Outcome.next (s.readCommand port (some a) Role.any take) = answer bytes :=
    congrArg _ (s.readCommand_plain bytes port a Role.any take ready rfl taken)
  have refused {α : Type} (a : α) (take : α → State → Except ResultCode Answer)
      (refusal : take a (s.beginTransaction port) = .error .argument) :
      Host.Outcome.next (s.readCommand port (some a) Role.any take)
        = (.next (s.readRefused port .argument) : Host.Outcome State Fault Refusal) :=
    congrArg _ (s.readCommand_refused port a Role.any take _ ready rfl refusal)
  refine ⟨fun p b more named => ?_, fun b more above => ?_, fun i b more named => ?_, fun b more above => ?_, ?_, ?_, ?_⟩
  · refine read b.toNat _ (fun index t => t.readPath index) ?_
    rw [named]
    simp only [State.readPath, Path.ofIndex_idx]
    rfl
  · refine refused b.toNat (fun index t => t.readPath index) ?_
    simp only [State.readPath, Path.ofIndex_eq_none above]
  · refine read b.toNat _ (fun index t => t.readStream index) ?_
    rw [named]
    simp only [State.readStream, streamOfCode_val]
    rfl
  · refine refused b.toNat (fun index t => t.readStream index) ?_
    simp only [State.readStream, streamOfCode_eq_none above]
  · exact read () _ (fun _ t => t.plainRead t.selectionBytes) rfl
  · exact read () _ (fun _ t => t.plainRead t.time.bytes) rfl
  · exact read () _ (fun _ t => t.plainRead t.sounding.bytes) rfl

/-! ## READ CAPTURE -/

theorem Channel.ofCode_idx (k : Channel) : Channel.ofCode k.idx.val = some k := by cases k <;> rfl

theorem Channel.ofCode_eq_none {n : Nat} (above : 3 < n) : Channel.ofCode n = none := by
  match n, above with
  | _ + 4, _ => rfl

theorem Role.readsCapture_iff {r : Role} : r.readsCapture = true ↔ r ≠ .observer := by cases r <;> decide

theorem State.modChannel_channel (s : State) (c : Channel) (g : CaptureState → CaptureState) (k : Channel) :
    (s.modTime (fun t => t.modChannel c g)).channel k = if k = c then g (s.channel c) else s.channel k :=
  s.time.modChannel_channel c g k

/-- The response of READ CAPTURE, field by field (R33). -/
theorem CaptureState.readBytes_eq (c : CaptureState) : c.readBytes
    = BitVec.ofNat 8 (if c.lost then 3 else c.fifo.length)
        :: (match c.fifo with | [] => 0#8 | _ => 1#8)
        :: (match c.source with | .tod => 0#8 | .mono => 1#8)
        :: (match c.fifo with
          | [] => [0#8, 0#8, 0#8, 0#8, 0#8, 0#8, 0#8, 0#8]
          | .tod v :: _ => leBytes 4 v.sec.toNat ++ leBytes 4 v.ns
          | .mono v :: _ => leBytes 8 v) := by
  obtain ⟨edge, source, log, fifo, lost⟩ := c
  rcases fifo with _ | ⟨v, rest⟩
  · cases source <;> rfl
  · cases source <;> cases v <;> rfl

theorem exec_readCapture (port : Port) (b : Byte) (more : List Byte) (s : State) : exec (.readCapture port (b :: more)) s
    = .next (s.readCommand port (some b.toNat) Role.readsCapture (fun index t => t.readCapture index)) := rfl

/-- Settles O13: the role and the channel decide, and the pop is the whole change of the Time Unit. -/
theorem captureReadRemovesOldest : Obligations.CaptureReadRemovesOldest := by
  intro s port more ready
  refine ⟨fun observer b => ?_, fun other => ⟨fun b above => ?_, fun k b named => ?_⟩⟩
  · exact congrArg _ (s.readCommand_rights port b.toNat Role.readsCapture (fun index t => t.readCapture index) ready
      (by rw [observer]; rfl))
  · refine congrArg _ (s.readCommand_refused port b.toNat Role.readsCapture (fun index t => t.readCapture index) _ ready
      (Role.readsCapture_iff.mpr other) ?_)
    simp only [State.readCapture, Channel.ofCode_eq_none above]
  · have right := Role.readsCapture_iff.mpr other
    have taken : (s.beginTransaction port).readCapture b.toNat
        = .ok ⟨(s.beginTransaction port).modTime (fun t => t.modChannel k CaptureState.pop), (s.channel k).readBytes, .plain⟩ := by
      rw [named]
      simp only [State.readCapture, Channel.ofCode_idx]
      rfl
    have channel := s.modChannel_channel k CaptureState.pop
    have popped : (s.modTime fun t => t.modChannel k CaptureState.pop).channel k = (s.channel k).pop := by rw [channel, if_pos rfl]
    have run := exec_readCapture port b more s
    rw [s.readCommand_taken _ port b.toNat Role.readsCapture _ ready right taken] at run
    refine ⟨_, run, ?_, ?_, ?_, fun j hj => ?_, ?_, ?_, fun q hq => ?_, ?_⟩
    · exact (congrArg CaptureState.fifo popped).trans List.drop_one
    · exact congrArg CaptureState.lost popped
    · show (s.modTime fun t => t.modChannel k CaptureState.pop).channel k
        = { s.channel k with
          fifo := ((s.modTime fun t => t.modChannel k CaptureState.pop).channel k).fifo
          lost := ((s.modTime fun t => t.modChannel k CaptureState.pop).channel k).lost }
      rw [popped]
      rfl
    · exact (channel j).trans (if_neg hj)
    · simp only [State.modPort_port_self, State.modTime_port, State.beginTransaction_port]
    · simp only [State.modPort_port_self]
      exact (s.channel k).readBytes_eq
    · rw [State.modPort_port_ne _ _ _ hq]
      exact s.beginTransaction_port_ne port hq
    · rfl

end Sys2Proof.Machine

/-! Commands and rows of the Path Table that store values and form E: statistics, peer site, smoothing, base delay and the
loss score (O32, O35, O39). -/

namespace Sys2Proof.Machine

/-! ## Little-endian values -/

theorem leNat_leBytes (k v : Nat) : leNat (leBytes k v) = v % 256 ^ k := by
  induction k generalizing v with
  | zero => simp [leBytes, leNat, Nat.mod_one]
  | succ k ih =>
    simp only [leBytes, leNat, ih, BitVec.toNat_ofNat]
    rw [show 256 ^ (k + 1) = 256 * 256 ^ k from Nat.pow_succ']
    exact (Nat.mod_mul (x := v) (a := 256) (b := 256 ^ k)).symm

theorem leNat_leBytes_two {v : Nat} (range : v < 65536) : leNat (leBytes 2 v) = v := by
  rw [leNat_leBytes]
  exact Nat.mod_eq_of_lt range

theorem leNat_leBytes_four {v : Nat} (range : v < 4294967296) : leNat (leBytes 4 v) = v := by
  rw [leNat_leBytes]
  exact Nat.mod_eq_of_lt range

/-! ## A command that is taken, seen from the answered state -/

section Taken

variable {α : Type} {s : State} {port : Port} (ready : s.resetting = none) {a : α} {right : Role → Bool}
  (may : right (s.port port).role = true)
include ready may

/-- A taken command whose effect commutes with setting the result: its effect on the answered state. -/
theorem State.command_answered {take : α → State → Except ResultCode State} {g : State → State}
    (ok : take a (s.beginTransaction port) = .ok (g (s.beginTransaction port)))
    (commutes : ∀ u : State, (g u).setResult port .ok = g (u.setResult port .ok)) :
    s.command port (some a) right take = g (s.answered port .ok) := by
  rw [← State.beginTransaction_setResult, ← commutes]
  exact State.command_taken _ _ _ _ _ _ ready may ok

end Taken

theorem Role.supervises_iff {r : Role} : r.supervises = true ↔ r = .supervisor ∨ r = .operator := by cases r <;> decide
theorem Role.gates_iff {r : Role} : r.gates = true ↔ r = .gateway ∨ r = .operator := by cases r <;> decide

theorem Role.not_supervises {r : Role} (h : r = .gateway ∨ r = .observer) : r.supervises = false := by
  rcases h with rfl | rfl <;> rfl

/-! ## CLEAR PATH STATS and SET PEER SITE -/

section
variable {s : State}

theorem State.clearPathStats_idx {n : Nat} {p : Path} (named : n = p.idx.val) : s.clearPathStats n = .ok (s.clearStats p) := by
  have notAll : n ≠ 255 := by have := p.idx.isLt; omega
  rw [State.clearPathStats, if_neg notAll, named, Path.ofIndex_idx]

theorem State.clearPathStats_above {n : Nat} (above : 4 < n) (notAll : n < 255) : s.clearPathStats n = .error .argument := by
  rw [State.clearPathStats, if_neg (by omega), Path.ofIndex_eq_none above]

theorem State.clearStats_entry (p q : Path) : (s.clearStats p).entry q = if q = p then { s.entry p with stats := Stats.reset } else s.entry q :=
  s.modStats_entry p _ q

end

theorem State.foldl_clearStats_entry (l : List Path) (s : State) (q : Path) :
    (l.foldl State.clearStats s).entry q = if q ∈ l then { s.entry q with stats := Stats.reset } else s.entry q := by
  induction l generalizing s with
  | nil => simp
  | cons p rest ih =>
    rw [List.foldl_cons, ih, State.clearStats_entry]
    by_cases same : q = p
    · subst same
      simp
    · simp [same]

theorem State.foldl_clearStats_frame (l : List Path) (s : State) :
    l.foldl State.clearStats s = { s with paths := (l.foldl State.clearStats s).paths } :=
  foldl_keeps (fun u : State => u = { s with paths := u.paths }) _ _ (fun u p _ same => by rw [same]; rfl) rfl

theorem exec_clearPathStats (port : Port) (b : Byte) (s : State) : exec (.clearPathStats port [b]) s
    = .next (s.command port (some b.toNat) Role.supervises (fun index t => t.clearPathStats index)) := rfl

theorem exec_setPeerSite (port : Port) (b : Byte) (s : State) : exec (.setPeerSite port [b]) s
    = .next (s.command port (some b.toNat) Role.operates (fun site t => t.setPeerSite site)) := rfl

/-- Settles O32: one entry's statistics, those of all, or a refusal; and the three ranges of a site. -/
theorem pathStatsAndPeerSite : Obligations.PathStatsAndPeerSite := by
  intro s port ready zero
  simp only [exec_clearPathStats, exec_setPeerSite, Host.Outcome.next.injEq]
  refine ⟨fun lacking b => ?_, fun may => ⟨fun p b named => ?_, ?_, fun b above below => ?_⟩, fun operator => ⟨fun b low => ?_, ?_,
    fun b above below => ?_⟩⟩
  · exact s.command_rights port _ _ _ ready (Role.not_supervises lacking)
  · exact State.command_answered ready (Role.supervises_iff.mpr may) (g := fun u => u.clearStats p)
      (State.clearPathStats_idx named) fun _ => rfl
  · refine ⟨Path.all.foldl State.clearStats (s.answered port .ok), ?_, fun p => ?_, State.foldl_clearStats_frame _ _⟩
    · refine State.command_answered ready (Role.supervises_iff.mpr may) (g := Path.all.foldl State.clearStats) (if_pos rfl) fun u => ?_
      exact (List.foldl_hom (fun u : State => u.setResult port .ok) fun _ _ => rfl).symm
    · rw [State.foldl_clearStats_entry, if_pos (Path.mem_all p)]
      rfl
  · exact s.command_refused port _ _ _ _ ready (Role.supervises_iff.mpr may) (State.clearPathStats_above above below)
  · refine State.command_answered ready (Role.operates_iff.mpr operator)
      (g := fun u => { u with peerSite := some (BitVec.ofNat 4 b.toNat) }) ?_ fun _ => rfl
    simp only [State.setPeerSite]
    rw [if_neg (by omega), if_pos low]
  · exact State.command_answered ready (Role.operates_iff.mpr operator) (g := fun u => { u with peerSite := none }) (if_pos rfl) fun _ => rfl
  · refine s.command_refused port _ _ _ _ ready (Role.operates_iff.mpr operator) ?_
    simp only [State.setPeerSite]
    rw [if_neg (by omega), if_neg (by omega)]

/-! ## E formed anew -/

/-- An entry with its E formed anew (R72). -/
def PathEntry.formed (p : Path) (e : PathEntry) : PathEntry := { e with effDelay := e.formDelay p }

theorem State.recomputeDelay_entry (s : State) (p q : Path) :
    (s.recomputeDelay p).entry q = if q = p then (s.entry p).formed p else s.entry q := by
  unfold State.recomputeDelay
  dsimp only
  split
  · rename_i same
    split
    · rename_i named
      rw [named, PathEntry.formed, same]
    · rfl
  · rw [State.reEvaluate_entry, State.modEntry_entry]
    rfl

theorem State.modEntry_recomputeDelay_entry (s : State) (p : Path) (g : PathEntry → PathEntry) (q : Path) :
    ((s.modEntry p g).recomputeDelay p).entry q = if q = p then (g (s.entry p)).formed p else s.entry q := by
  rw [State.recomputeDelay_entry]
  split
  · rw [State.modEntry_entry_self]
  · rename_i other
    exact State.modEntry_entry_ne s p g other

theorem State.modScore_entry (s : State) (p : Path) (g : Nat → Nat) (q : Path) :
    (s.modScore p g).entry q = if q = p then { s.entry p with score := g (s.entry p).score }.formed p else s.entry q :=
  s.modEntry_recomputeDelay_entry p _ q

theorem State.modEntry_recomputeDelay_routed (s : State) (p : Path) (g : PathEntry → PathEntry) :
    s.routed ((s.modEntry p g).recomputeDelay p) := State.routed_trans (s.modEntry_routed p g) (State.recomputeDelay_routed _ p)

/-- What a taken command of the route leaves outside it, from its effect on the begun transaction. -/
theorem State.routed_of_begun {s u : State} {port : Port} (h : (s.beginTransaction port).routed u) (r : ResultCode) :
    s.sameParameters (u.setResult port r) ∧ s.routeOnly (u.setResult port r) := by
  obtain ⟨frame, parameters, -⟩ := h
  refine ⟨parameters, ?_⟩
  unfold State.routeOnly at frame ⊢
  rw [frame]
  rfl

theorem State.setResult_lastResult (s : State) (port : Port) (r : ResultCode) : ((s.setResult port r).port port).lastResult = r := by
  rw [State.setResult, State.modPort_port_self]

/-- A command that stores values in an entry and forms E anew. -/
theorem State.command_formed {α : Type} {s : State} {port : Port} {a : α} {take : α → State → Except ResultCode State}
    (ready : s.resetting = none) (operator : (s.port port).role = .operator) (p : Path) (g : PathEntry → PathEntry)
    (ok : take a (s.beginTransaction port) = .ok (((s.beginTransaction port).modEntry p g).recomputeDelay p)) :
    ∃ t, s.command port (some a) Role.operates take = t ∧ t.entry p = (g (s.entry p)).formed p ∧ (t.port port).lastResult = .ok
      ∧ s.entriesBut t p ∧ s.sameParameters t ∧ s.routeOnly t := by
  have entry := (s.beginTransaction port).modEntry_recomputeDelay_entry p g
  refine ⟨_, State.command_taken _ _ port _ _ _ ready (Role.operates_iff.mpr operator) ok, (entry p).trans (if_pos rfl),
    State.setResult_lastResult _ _ _, fun q other => (entry q).trans (if_neg other), State.routed_of_begun ?_ _⟩
  exact State.modEntry_recomputeDelay_routed _ p g

theorem exec_setSmoothing (port : Port) (b weight loss : Byte) {interval : Nat} (range : interval < 65536) (s : State) :
    exec (.setSmoothing port ([b, weight, loss] ++ leBytes 2 interval)) s
      = .next (s.command port (some (⟨b.toNat, weight.toNat, loss.toNat, interval⟩ : SmoothingArgs)) Role.operates
        (fun a t => t.setSmoothing a)) := by
  have value := leNat_leBytes_two range
  show Host.Outcome.next (s.command port (some (⟨b.toNat, weight.toNat, loss.toNat, leNat (leBytes 2 interval)⟩ : SmoothingArgs))
    Role.operates _) = _
  rw [value]

theorem exec_setBaseDelay (port : Port) (b : Byte) {value : Nat} (range : value < 4294967296) (s : State) :
    exec (.setBaseDelay port ([b] ++ leBytes 4 value)) s
      = .next (s.command port (some (b.toNat, value)) Role.operates (fun a t => t.setBaseDelay a.1 a.2)) := by
  have read := leNat_leBytes_four range
  show Host.Outcome.next (s.command port (some (b.toNat, leNat (leBytes 4 value))) Role.operates _) = _
  rw [read]

theorem State.heldBySweep_iff (s : State) (p : Path) :
    s.heldBySweep p = true ↔ s.sounding.state ≠ .idle ∧ s.sounding.current = some p := by
  simp [State.heldBySweep, Sounding.isActive]

/-- Settles O35: the values are stored where the path and the ranges allow it, and E is formed anew. -/
theorem smoothingAndBaseDelayStored : Obligations.SmoothingAndBaseDelayStored := by
  intro s port p b weight loss interval value ready operator intervalRange valueRange formed i j
  have may := Role.operates_iff.mpr operator
  simp only [i, j, exec_setSmoothing port b weight loss intervalRange, exec_setBaseDelay port b valueRange, Host.Outcome.next.injEq]
  refine ⟨fun wrong => ?_, fun named weightRange positive => ?_, fun wrong => ?_, fun named below active held => ?_,
    fun named below free => ?_⟩
  · refine s.command_refused port _ _ _ _ ready may ?_
    rcases Nat.lt_or_ge 4 b.toNat with above | within
    · simp only [State.setSmoothing, Path.ofIndex_eq_none above]
    · simp only [State.setSmoothing]
      split
      · rfl
      · exact if_neg (by omega)
  · obtain ⟨t, run, entry, rest⟩ := State.command_formed (take := fun a t => t.setSmoothing a)
      (a := (⟨b.toNat, weight.toNat, loss.toNat, interval⟩ : SmoothingArgs)) ready operator p
      (fun e => { e with weight := weight.toNat, lossWeight := loss.toNat, decayInterval := interval }) (by
        simp only [State.setSmoothing, named, Path.ofIndex_idx]
        exact if_pos ⟨weightRange, positive⟩)
    exact ⟨t, run, entry, rest⟩
  · refine s.command_refused port _ _ _ _ ready may ?_
    rcases Nat.lt_or_ge 4 b.toNat with above | within
    · simp only [State.setBaseDelay, Path.ofIndex_eq_none above]
    · simp only [State.setBaseDelay]
      split
      · rfl
      · exact if_pos (by simp only [maxDelay]; omega)
  · have inRange : ¬ maxDelay < value := Nat.not_lt.mpr below
    refine s.command_refused port _ _ _ _ ready may ?_
    simp only [State.setBaseDelay, named, Path.ofIndex_idx]
    rw [if_neg inRange]
    exact if_pos ((State.heldBySweep_iff _ p).mpr ⟨active, held⟩)
  · have inRange : ¬ maxDelay < value := Nat.not_lt.mpr below
    obtain ⟨t, run, entry, rest⟩ := State.command_formed (take := fun (a : Nat × Nat) t => t.setBaseDelay a.1 a.2) (a := (b.toNat, value))
      ready operator p (fun e => { e with delay := some value }) (by
        simp only [State.setBaseDelay, named, Path.ofIndex_idx]
        rw [if_neg inRange]
        refine if_neg fun held => ?_
        obtain ⟨active, current⟩ := (State.heldBySweep_iff _ p).mp held
        exact free.elim active (absurd current))
    exact ⟨t, run, entry, rest⟩

/-! ## The loss score -/

/-- E at another score; the decay deadline has no part in it. -/
theorem PathEntry.formDelay_of_score (p : Path) (e : PathEntry) (deadline score : Nat) :
    PathEntry.formDelay p { e with decayDeadline := deadline, score := score } = (match e.delay with
      | none => 16777215
      | some d => min 16777215 (d + e.rainPenalty p + score * e.lossWeight)) := rfl

/-- A path's entry after the report of its outcome in a retire (R56): the score takes a hit or a miss. -/
def PathEntry.retired (p : Path) (seen : Bool) (e : PathEntry) : PathEntry :=
  { e with score := (if seen then scoreHit else scoreMiss) e.score }.formed p

theorem State.retirePath_entry (mask seen : PathSet) (s : State) (p q : Path) : (State.retirePath mask seen s p).entry q
    = if q = p ∧ mask.has p = true ∧ (s.entry p).state ≠ .disabled then (s.entry p).retired p (seen.has p)
      else s.entry q := by
  unfold State.retirePath
  by_cases scored : mask.has p = true ∧ (s.entry p).state ≠ .disabled
  · rw [if_pos (by simpa using scored), State.modScore_entry]
    by_cases named : q = p
    · have whole : q = p ∧ mask.has p = true ∧ (s.entry p).state ≠ .disabled := ⟨named, scored⟩
      rw [if_pos named, if_pos whole, PathEntry.retired]
    · rw [if_neg named, if_neg (fun h => named h.1)]
  · rw [if_neg (by simpa using scored), if_neg (fun h => scored h.2)]

theorem State.retireReport_entry (s : State) (mask seen : PathSet) (q : Path) : (s.retireReport mask seen).entry q
    = if mask.has q = true ∧ (s.entry q).state ≠ .disabled then (s.entry q).retired q (seen.has q)
      else s.entry q := by
  cases q <;> simp [State.retireReport, Path.all, State.retirePath_entry]

/-- Settles O39: the decay and the retire report by the entry each leaves. -/
theorem scoresMove : Obligations.ScoresMove := by
  refine ⟨fun s p => ⟨fun before => ?_, fun due => ?_⟩, ?_⟩
  · show Host.Outcome.next (s.scoreDecay p) = _
    rw [State.scoreDecay, State.decayDue, State.reached_later before, if_neg Bool.false_ne_true]
  · have reached : s.decayDue p = true := State.reached_some due
    have entry (q : Path) : (s.scoreDecay p).entry q
        = if q = p then PathEntry.formed p { s.entry p with
            decayDeadline := (s.entry p).decayDeadline + (s.entry p).decayInterval * 1000000
            score := scoreDecayed (s.entry p).score }
          else s.entry q := by
      rw [State.scoreDecay, if_pos reached, State.modScore_entry, State.modEntry_entry_self, msToNs]
      split
      · rfl
      · rename_i other
        exact State.modEntry_entry_ne s p _ other
    have own := (entry p).trans (if_pos rfl)
    obtain ⟨frame, parameters, raised⟩ := s.scoreDecay_routed p
    refine ⟨s.scoreDecay p, rfl, ?_, ?_, ?_, fun q other => (entry q).trans (if_neg other), parameters, raised, frame⟩
    · rw [own]; rfl
    · rw [own]; exact PathEntry.formDelay_of_score p (s.entry p) _ _
    · rw [own]; rfl
  intro s mask seen p t
  refine ⟨fun untouched => ?_, fun listed inService => ?_, ?_⟩
  · rw [show t = s.retireReport mask seen from rfl, State.retireReport_entry, if_neg]
    rintro ⟨listed, inService⟩
    exact untouched.elim (by simp [listed]) inService
  · have own : t.entry p = _ := (s.retireReport_entry mask seen p).trans (if_pos ⟨listed, inService⟩)
    rw [own, PathEntry.retired]
    refine ⟨?_, rfl, rfl⟩
    cases seen.has p <;> rfl
  · obtain ⟨frame, parameters, raised⟩ := s.retireReport_routed mask seen
    exact ⟨parameters, raised, frame⟩

end Sys2Proof.Machine

/-! The reading contexts of the ports and the copies that are no first arrival (O14, O15, O46). -/

namespace Sys2Proof.Machine

/-! ## Sets of record kinds in two bytes -/

theorem word_eq_append (a b : Byte) : BitVec.ofNat 16 (a.toNat + 256 * b.toNat) = (b ++ a : BitVec 16) := by
  apply BitVec.eq_of_toNat_eq
  rw [BitVec.toNat_append, BitVec.toNat_ofNat, ← Nat.shiftLeft_add_eq_or_of_lt a.isLt, Nat.shiftLeft_eq]
  omega

theorem append_eq_zero (a b : Byte) : (b ++ a : BitVec 16) = 0#16 ↔ a = 0 ∧ b = 0 := by
  rw [← word_eq_append]
  constructor
  · intro zero
    constructor <;> bv_omega
  · rintro ⟨rfl, rfl⟩
    rfl

/-- The kinds 1 to 9 are bits 1 to 9 (R136, R173). -/
theorem kindSetOk_word (a b : Byte) : kindSetOk (a.toNat + 256 * b.toNat) = true ↔ a.toNat % 2 = 0 ∧ b.toNat < 4 := by
  have mask : ~~~ KindSet.allKinds = (0xFC#8 ++ 0x01#8 : BitVec 16) := by decide
  have low : a &&& 0x01#8 = 0 ↔ a.toNat % 2 = 0 := by revert a; decide
  have high : b &&& 0xFC#8 = 0 ↔ b.toNat < 4 := by revert b; decide
  rw [kindSetOk, word_eq_append, mask, beq_iff_eq, BitVec.and_append, ← low, ← high]
  exact append_eq_zero _ _

/-! ## The log condition -/

theorem State.checkLogCondition_port (s : State) (p q : Port) : (s.checkLogCondition p).port q
    = if q = p ∧ (s.reader p).watermark ≤ s.unread p then (s.port p).raise .log else s.port q := by
  unfold State.checkLogCondition State.logCondition State.raiseOn
  by_cases due : (s.reader p).watermark ≤ s.unread p
  · simp only [due, decide_true, if_true, and_true, State.modPort_port]
  · simp only [due, decide_false, if_false, and_false, Bool.false_eq_true]

theorem State.checkLogCondition_log (s : State) (p : Port) : (s.checkLogCondition p).log = s.log := by
  unfold State.checkLogCondition
  split <;> rfl

/-- What an update of a reading context with the check of its log condition leaves, in a taken transaction. -/
theorem State.reader_updated (s : State) (port : Port) (g : ReadCtx → ReadCtx) :
    let t := (((s.beginTransaction port).modReader port g).checkLogCondition port).setResult port .ok
    t.reader port = g (s.reader port) ∧ (∀ q, q ≠ port → t.reader q = s.reader q ∧ t.port q = s.port q)
      ∧ (t.port port).pending = (if (t.reader port).watermark ≤ t.unread port then (s.port port).pending ||| 1#16
          else (s.port port).pending)
      ∧ (t.port port).lastResult = .ok ∧ t = { s with log := { s.log with readers := t.log.readers }, ports := t.ports } := by
  intro t
  have frame : s.readersOnly t := by
    have begun : s.readersOnly (s.beginTransaction port) := rfl
    refine State.readersOnly_trans begun (State.readersOnly_trans (State.modReader_readersOnly _ port g) ?_)
    exact State.readersOnly_trans (State.checkLogCondition_readersOnly _ port) rfl
  have log : t.log = ((s.beginTransaction port).modReader port g).log := State.checkLogCondition_log _ port
  have reader (q : Port) : t.reader q = if q = port then g (s.reader port) else s.reader q := by
    refine (congrArg (fun l : Log => l.readers[q.idx]) log).trans ?_
    exact State.modReader_reader (s.beginTransaction port) port g q
  have unread : t.unread port = ((s.beginTransaction port).modReader port g).unread port := State.unread_congr log port
  have context (q : Port) : t.port q = if q = port then
      { (((s.beginTransaction port).modReader port g).checkLogCondition port).port port with lastResult := .ok }
      else (((s.beginTransaction port).modReader port g).checkLogCondition port).port q := State.modPort_port _ port _ q
  refine ⟨(reader port).trans (if_pos rfl), fun q other => ⟨(reader q).trans (if_neg other), ?_⟩, ?_, ?_, frame⟩
  · rw [context, if_neg other, State.checkLogCondition_port, if_neg (fun h => other h.1)]
    exact State.beginTransaction_port_ne s port other
  · rw [context, if_pos rfl, unread, reader, if_pos rfl]
    dsimp only
    rw [State.checkLogCondition_port]
    have watermark : (((s.beginTransaction port).modReader port g).reader port).watermark = (g (s.reader port)).watermark := by
      rw [State.modReader_reader_self]
      rfl
    rw [watermark]
    have pending : (((s.beginTransaction port).modReader port g).port port).pending = (s.port port).pending := by
      rw [State.modReader_port, State.beginTransaction_port]
    split
    · rename_i due
      rw [if_pos due.2, PortCtx.raise, pending]
      rfl
    · rename_i due
      rw [if_neg (fun h => due ⟨rfl, h⟩), pending]
  · rw [context, if_pos rfl]

theorem State.setLogFilter_ok (s : State) (port : Port) {kinds watermark : Nat} (known : kindSetOk kinds = true)
    (least : 1 ≤ watermark) (most : watermark ≤ 1024) : s.setLogFilter port kinds watermark
      = .ok ((s.modReader port (fun c => { c with filter := BitVec.ofNat 16 kinds, watermark := watermark })).checkLogCondition port) := by
  have range : 1 ≤ watermark ∧ watermark ≤ logPlaces := ⟨least, most⟩
  rw [State.setLogFilter, if_pos (by rw [known, decide_eq_true range]; rfl)]

theorem exec_setLogFilter (port : Port) (a b w0 w1 : Byte) (s : State) : exec (.setLogFilter port [a, b, w0, w1]) s
    = .next (s.command port (some (a.toNat + 256 * b.toNat, w0.toNat + 256 * w1.toNat)) Role.any
      (fun a t => t.setLogFilter port a.1 a.2)) := by
  rw [← leNat_pair, ← leNat_pair]
  rfl

theorem exec_seekLog (port : Port) (b : Byte) (s : State) : exec (.seekLog port [b]) s
    = .next (s.command port (some b.toNat) Role.any (fun target t => t.seekLog port target)) := rfl

/-- Settles O15: the reading context is updated, and the log condition checked on that port alone. -/
theorem logSettingsTaken : Obligations.LogSettingsTaken := by
  intro s port ready
  refine ⟨fun a b w0 w1 => ⟨fun ⟨low, high, least, most⟩ => ?_, fun wrong => ?_⟩, fun b above => ?_, fun b named => ?_⟩
  · have taken := (s.beginTransaction port).setLogFilter_ok port ((kindSetOk_word a b).mpr ⟨low, high⟩) least most
    obtain ⟨reader, others, pending, -, frame⟩ := s.reader_updated port
      (fun c => { c with filter := BitVec.ofNat 16 (a.toNat + 256 * b.toNat), watermark := w0.toNat + 256 * w1.toNat })
    rw [exec_setLogFilter, s.command_taken _ port _ Role.any _ ready rfl taken]
    exact ⟨_, rfl, reader, others, pending, frame⟩
  · rw [exec_setLogFilter, s.command_refused port _ Role.any _ .argument ready rfl]
    unfold State.setLogFilter
    refine if_neg fun fits => ?_
    obtain ⟨kinds, watermark⟩ := Bool.and_eq_true_iff.mp fits
    have bits := (kindSetOk_word a b).mp kinds
    have range := of_decide_eq_true watermark
    have places : logPlaces = 1024 := rfl
    omega
  · rw [exec_seekLog, s.command_refused port _ Role.any _ .argument ready rfl]
    unfold State.seekLog
    split
    · omega
    · omega
    · rfl
  · have seek : b.toNat = 0 ∨ b.toNat = 1 := by omega
    rcases seek with zero | one
    · rw [exec_seekLog, zero, s.command_taken _ port 0 Role.any (fun target t => t.seekLog port target) ready rfl rfl]
      exact ⟨_, rfl, s.reader_updated port (fun c => { c with cursor := s.log.oldest })⟩
    · rw [exec_seekLog, one, s.command_taken _ port 1 Role.any (fun target t => t.seekLog port target) ready rfl rfl]
      exact ⟨_, rfl, s.reader_updated port (fun c => { c with cursor := s.log.next })⟩

/-! ## READ LOG and PEEK LOG -/

theorem imageBytes_empty (next : Seq) (quality : Quality) (tod : Tod) : imageBytes next 0 quality tod []
    = leBytes 4 next.toNat ++ [BitVec.ofNat 8 (16 * quality.code)] ++ tod.bytes ++ List.replicate 19 0#8 := by
  simp [imageBytes]

/-- A reading state whose log and clock are those of `s` shows the image that is due from a position. -/
theorem State.imageChosen_of {s u : State} {port : Port} (records : u.log.records = s.log.records) (next : u.log.next = s.log.next)
    (time : u.time = s.time) (filter : (u.reader port).filter = (s.reader port).filter) (position : Seq) (reading : LogPhase → Reading) :
    s.imageChosen (u.modPort port (fun c =>
      { c with reading := some (reading (u.chooseImage port position).1), response := (u.chooseImage port position).2 }))
      port position reading := by
  have since : u.log.since position = s.log.since position := by simp only [Log.since, Log.oldest, records, next]
  have accepts : (fun r : LogRecord => (u.reader port).accepts r.body)
      = fun r => (s.reader port).filter.getLsbD r.body.kindCode := by
    funext r
    rw [ReadCtx.accepts, filter]
  simp only [State.imageChosen, State.modPort_port_self, State.chooseImage, since, accepts]
  refine ⟨fun r found => ?_, fun none => ?_⟩
  · rw [found]
    exact ⟨rfl, rfl⟩
  · rw [List.find?_eq_none.mpr (by simpa using none), next, time]
    exact ⟨rfl, imageBytes_empty _ _ _⟩

section
variable (s : State) (port : Port)

/-- An update of the port's own reading context that keeps its filter, and the next image of its READ LOG. -/
theorem State.nextLogImage_updated (g : ReadCtx → ReadCtx) (filter : (g (s.reader port)).filter = (s.reader port).filter) :
    let t := (s.modReader port g).nextLogImage port
    t.reader port = g (s.reader port) ∧ (∀ q, q ≠ port → t.reader q = s.reader q ∧ t.port q = s.port q)
      ∧ s.imageChosen t port (g (s.reader port)).cursor .log
      ∧ t = { s with log := { s.log with readers := t.log.readers }, ports := t.ports } := by
  intro t
  have reader (q : Port) : t.reader q = if q = port then g (s.reader port) else s.reader q := s.modReader_reader port g q
  refine ⟨(reader port).trans (if_pos rfl), fun q other => ⟨(reader q).trans (if_neg other), ?_⟩, ?_, rfl⟩
  · exact State.modPort_port_ne _ port _ other
  · have own : (s.modReader port g).reader port = g (s.reader port) := s.modReader_reader_self port g
    have chosen := State.imageChosen_of (s := s) (u := s.modReader port g) (port := port) rfl rfl rfl (by rw [own, filter])
      (g (s.reader port)).cursor .log
    rw [← own] at chosen ⊢
    exact chosen

theorem State.nextPeekImage_chosen (position : Seq) :
    s.nextPeekImage port position = { s with ports := (s.nextPeekImage port position).ports }
      ∧ s.imageChosen (s.nextPeekImage port position) port position (.peek position) :=
  ⟨rfl, State.imageChosen_of rfl rfl rfl rfl position (.peek position)⟩

end

theorem Log.moveTo_ahead {l : Log} {position serial : Seq} (ahead : (position - l.oldest).toNat < (serial - l.oldest).toNat)
    (retained : (serial - l.oldest).toNat ≤ l.records.length) : l.moveTo position serial = serial := if_pos ⟨ahead, retained⟩

theorem Log.moveTo_behind {l : Log} {position serial : Seq} (behind : (serial - l.oldest).toNat ≤ (position - l.oldest).toNat
    ∨ l.records.length < (serial - l.oldest).toNat) : l.moveTo position serial = position := by
  refine if_neg fun ⟨ahead, retained⟩ => ?_
  omega

/-- The completion of an image that leaves `serial` next to read: what the port's READ LOG and a PEEK LOG show then. -/
structure State.ImageDone (s t : State) (port : Port) (serial : Seq) : Prop where
  ahead : ((s.reader port).cursor - s.log.oldest).toNat < (serial - s.log.oldest).toNat →
    (serial - s.log.oldest).toNat ≤ s.log.records.length →
      t.reader port = { s.reader port with cursor := serial } ∧ (∀ q, q ≠ port → t.reader q = s.reader q ∧ t.port q = s.port q)
        ∧ s.imageChosen t port serial .log ∧ t = { s with log := { s.log with readers := t.log.readers }, ports := t.ports }
  behind : ((serial - s.log.oldest).toNat ≤ ((s.reader port).cursor - s.log.oldest).toNat
      ∨ s.log.records.length < (serial - s.log.oldest).toNat) →
    t.reader port = s.reader port ∧ s.imageChosen t port (s.reader port).cursor .log ∧ t = { s with ports := t.ports }

theorem State.modReader_same (s : State) (port : Port) {g : ReadCtx → ReadCtx} (same : g (s.reader port) = s.reader port) :
    s.modReader port g = s := by
  unfold State.modReader
  rw [same]
  simp [State.reader]

theorem State.imageDone (s : State) (port : Port) (serial : Seq) : s.ImageDone
    ((s.modReader port (fun c => { c with cursor := s.log.moveTo c.cursor serial })).nextLogImage port) port serial := by
  refine ⟨fun ahead retained => ?_, fun behind => ?_⟩
  · have updated := s.nextLogImage_updated port (fun c => { c with cursor := s.log.moveTo c.cursor serial }) rfl
    simpa only [Log.moveTo_ahead ahead retained] using updated
  · rw [s.modReader_same port (by rw [Log.moveTo_behind behind])]
    exact ⟨rfl, State.imageChosen_of rfl rfl rfl rfl (s.reader port).cursor .log, rfl⟩

theorem State.peekDone (s : State) (port : Port) (position serial : Seq) :
    let t := s.nextPeekImage port (s.log.moveTo position serial)
    t = { s with ports := t.ports }
      ∧ ((position - s.log.oldest).toNat < (serial - s.log.oldest).toNat →
          (serial - s.log.oldest).toNat ≤ s.log.records.length → s.imageChosen t port serial (.peek serial))
      ∧ (((serial - s.log.oldest).toNat ≤ (position - s.log.oldest).toNat
          ∨ s.log.records.length < (serial - s.log.oldest).toNat) → s.imageChosen t port position (.peek position)) := by
  refine ⟨rfl, fun ahead retained => ?_, fun behind => ?_⟩
  · rw [Log.moveTo_ahead ahead retained]
    exact (s.nextPeekImage_chosen port serial).2
  · rw [Log.moveTo_behind behind]
    exact (s.nextPeekImage_chosen port position).2

theorem State.logImageDone_log (s : State) {port : Port} {serial : Seq} (reading : (s.port port).reading = some (.log (.image serial))) :
    s.logImageDone port
      = (s.modReader port (fun c => { c with cursor := s.log.moveTo c.cursor (serial + 1) })).nextLogImage port := by
  rw [State.logImageDone, reading]

theorem State.emptyImageDone_log (s : State) {port : Port} {serial : Seq} (reading : (s.port port).reading = some (.log (.empty serial))) :
    s.emptyImageDone port
      = (s.modReader port (fun c => { c with cursor := s.log.moveTo c.cursor serial })).nextLogImage port := by
  rw [State.emptyImageDone, reading]

/-- Settles O14: the heads, and the images that follow the end of a head or of an image. -/
theorem logReadsMoveCursor : Obligations.LogReadsMoveCursor := by
  refine ⟨⟨?_, fun s port shown => ⟨fun reading => ?_, fun position reading => ?_⟩⟩,
    fun s port serial => ⟨fun reading ahead retained => ?_, fun reading behind => ?_, fun reading ahead retained => ?_,
      fun reading behind => ?_, fun position reading => ?_, fun position reading => ?_⟩⟩
  · intro s port ready head
    constructor
    · show Host.Outcome.next (s.readCommand port (some ()) Role.any fun _ t => .ok (t.readLog port)) = _
      rw [s.readCommand_taken _ port () Role.any _ ready rfl rfl]
      unfold State.readLog State.beginTransaction
      dsimp only
      rw [State.modPort_modPort]
      rfl
    · show Host.Outcome.next (s.readCommand port (some ()) Role.any fun _ t => .ok (t.peekLog port)) = _
      rw [s.readCommand_taken _ port () Role.any _ ready rfl rfl]
      unfold State.peekLog State.beginTransaction
      dsimp only
      rw [State.modPort_modPort]
      rfl
  · have done : s.logHeadDone port = (s.modReader port (fun c => { c with lost := c.lost - shown })).nextLogImage port := by
      rw [State.logHeadDone, reading]
    obtain ⟨reader, others, chosen, frame⟩ := s.nextLogImage_updated port (fun c => { c with lost := c.lost - shown }) rfl
    rw [← done] at reader others chosen frame
    refine ⟨_, rfl, by rw [reader], by rw [reader], others, chosen, frame⟩
  · have done : s.logHeadDone port = s.nextPeekImage port position := by rw [State.logHeadDone, reading]
    have peeked := s.nextPeekImage_chosen port position
    rw [← done] at peeked
    exact ⟨_, rfl, peeked⟩
  · have run : s.logImageDone port = _ := s.logImageDone_log reading
    exact ⟨_, congrArg Host.Outcome.next run, (s.imageDone port (serial + 1)).ahead ahead retained⟩
  · have run : s.logImageDone port = _ := s.logImageDone_log reading
    exact ⟨_, congrArg Host.Outcome.next run, (s.imageDone port (serial + 1)).behind behind⟩
  · have run : s.emptyImageDone port = _ := s.emptyImageDone_log reading
    exact ⟨_, congrArg Host.Outcome.next run, (s.imageDone port serial).ahead ahead retained⟩
  · have run : s.emptyImageDone port = _ := s.emptyImageDone_log reading
    exact ⟨_, congrArg Host.Outcome.next run, (s.imageDone port serial).behind behind⟩
  · have run : s.logImageDone port = s.nextPeekImage port (s.log.moveTo position (serial + 1)) := by rw [State.logImageDone, reading]
    exact ⟨_, congrArg Host.Outcome.next run, s.peekDone port position (serial + 1)⟩
  · have run : s.emptyImageDone port = s.nextPeekImage port (s.log.moveTo position serial) := by rw [State.emptyImageDone, reading]
    exact ⟨_, congrArg Host.Outcome.next run, s.peekDone port position serial⟩

/-! ## Copies that are no first arrival -/

theorem RxStream.Windowed.tracking {x : RxStream} (h : x.Windowed) (synced : x.synced = true) : x.Tracking :=
  ⟨h.1, h.2.1, synced, (h.2.2.2.1 synced).1, (h.2.2.2.1 synced).2⟩

section
variable {s : State} {d : DataArrival} (enabled : (s.rxStream d.copy.stream).enabled = true)
  (synced : (s.rxStream d.copy.stream).synced = true)
include enabled synced

theorem State.takeData_synced : s.takeData d = s.mergeCopy d.copy.stream d := by
  unfold State.takeData
  dsimp only
  rw [enabled, synced]
  rfl

theorem State.takeData_behind (behind : 2147483648 ≤ (s.rxStream d.copy.stream).distance d.copy.seq) :
    s.takeData d = s.lateCopy d.copy.stream d.path := by
  rw [State.takeData_synced enabled synced]
  exact if_pos behind

/-- A copy of a tracked sequence is judged by its slot. -/
theorem State.takeData_tracked (windowed : (s.rxStream d.copy.stream).Windowed) {slot : Slot}
    (found : (s.rxStream d.copy.stream).slots[(s.rxStream d.copy.stream).distance d.copy.seq]? = some slot) :
    s.takeData d = s.takeTracked d.copy.stream ((s.rxStream d.copy.stream).distance d.copy.seq) d := by
  have tracked : (s.rxStream d.copy.stream).distance d.copy.seq < (s.rxStream d.copy.stream).slots.length :=
    (List.getElem?_eq_some_iff.mp found).1
  have tracking := windowed.tracking synced
  have within := tracking.length_le
  rw [State.takeData_synced enabled synced]
  unfold State.mergeCopy
  dsimp only
  rw [if_neg (by omega), if_pos (by rwa [← tracking.tracked])]

end

theorem State.modRx_modStats (s : State) (i : StreamId) (f : RxStream → RxStream) (p : Path) (g : Stats → Stats) :
    (s.modRx i f).modStats p g = (s.modStats p g).modRx i f := rfl

theorem State.modRx_modRx (s : State) (i : StreamId) (f g : RxStream → RxStream) :
    (s.modRx i f).modRx i g = s.modRx i (fun x => g (f x)) := by
  simp only [State.modRx, State.rxStream]
  simp

/-- A duplicate's whole effect: the stream's count and slot, and the path's lag statistics (R111). -/
theorem State.duplicate_eq (s : State) (i : StreamId) (n : Nat) (slot : Slot) (first : Nat) (d : DataArrival) :
    s.duplicate i n slot first d = (s.modRx i (fun x =>
        { x with duplicates := inc32 x.duplicates, slots := x.slots.set n (slot.see d.path) })).modStats d.path
      (Stats.duplicate (lagOf d.stamp.mono first)) := by
  unfold State.duplicate State.setSlot
  rw [State.modRx_modStats, State.modRx_modRx, State.modRx_modStats]

/-- Settles O46: the stream's setting, the distance and the slot decide, and each outcome is two counts. -/
theorem copiesJudged : Obligations.CopiesJudged := by
  intro s d i x n late counted
  refine ⟨fun off => ?_, fun enabled synced behind => ?_, fun enabled synced windowed => ⟨fun skipped => ?_, fun info done => ?_,
    fun info f held => ?_⟩⟩
  · have disabled : (s.rxStream d.copy.stream).enabled = false := off
    unfold State.takeData
    dsimp only
    rw [disabled]
    rfl
  · exact State.takeData_behind enabled synced behind
  · have found : (s.rxStream d.copy.stream).slots[(s.rxStream d.copy.stream).distance d.copy.seq]? = some .skipped := skipped
    rw [State.takeData_tracked enabled synced windowed found, State.takeTracked, found]
    rfl
  · have found : (s.rxStream d.copy.stream).slots[(s.rxStream d.copy.stream).distance d.copy.seq]? = some (.done info) := done
    rw [State.takeData_tracked enabled synced windowed found, State.takeTracked, found]
    exact s.duplicate_eq _ _ _ _ _
  · have found : (s.rxStream d.copy.stream).slots[(s.rxStream d.copy.stream).distance d.copy.seq]? = some (.held info f) := held
    rw [State.takeData_tracked enabled synced windowed found, State.takeTracked, found]
    exact s.duplicate_eq _ _ _ _ _

end Sys2Proof.Machine

/-! SOFT RESET taken (O18). -/

namespace Sys2Proof.Machine

/-- The blocks at their soft reset values and the log emptied, before the RESET record is taken (R142, R170). -/
def State.cleared (s : State) : State :=
  { s with
    time := s.time.softReset
    paths := Vector.replicate 5 (PathEntry.reset (s.mono + softResetPeriod))
    receivers := s.receivers.map Receiver.softReset
    transmitters := s.transmitters.map Transmitter.softReset
    peerSite := none
    beaconInterval := 100
    selector := Selector.reset
    rxStreams := Vector.replicate 8 RxStream.reset
    txStreams := Vector.replicate 8 TxStream.reset
    localPort := s.localPort.softReset
    sounding := Sounding.reset
    log := ⟨[], s.log.next, Vector.replicate 3 (ReadCtx.reset s.log.next)⟩
    ports := s.ports.map PortCtx.softReset
    resetting := some (s.mono + softResetPeriod) }

section
variable (s : State)

theorem State.softReset_eq : s.softReset = s.cleared.logWrite .reset := rfl

theorem State.cleared_reader (q : Port) : s.cleared.reader q = ReadCtx.reset s.log.next := by
  simp [State.cleared, State.reader]

theorem State.cleared_port (q : Port) : s.cleared.port q = (s.port q).softReset := by simp [State.cleared, State.port]

theorem State.cleared_hasResetValues : s.cleared.hasResetValues (s.mono + softResetPeriod) :=
  State.hasResetValues_of rfl rfl rfl rfl rfl rfl rfl rfl rfl

theorem ReadCtx.reset_accepts_reset (cursor : Seq) : (ReadCtx.reset cursor).accepts .reset = true :=
  (by decide : KindSet.allKinds.getLsbD 9 = true)

theorem State.softReset_records :
    s.softReset.log.records = [⟨s.log.next, s.time.tod, s.time.quality, .reset⟩] := by
  rw [State.softReset_eq, State.logWrite_records]
  rfl

theorem State.softReset_next : s.softReset.log.next = s.log.next + 1 := by
  rw [State.softReset_eq, State.logWrite_next]
  rfl

theorem State.softReset_reader (q : Port) : s.softReset.reader q = ⟨s.log.next, 0x3FE#16, 1, 0⟩ := by
  rw [State.softReset_eq, State.logWrite_reader, if_neg (show ¬ 1024 ≤ s.cleared.log.records.length by simp [State.cleared]),
    State.cleared_reader]
  rfl

/-- The RESET record is unread on every port. -/
theorem State.softReset_unread (q : Port) : s.softReset.unread q = 1 := by
  have oldest : s.softReset.log.oldest = s.log.next := by
    rw [Log.oldest, State.softReset_records, State.softReset_next]
    simp
  have reader : s.softReset.reader q = ReadCtx.reset s.log.next := s.softReset_reader q
  have cursor : (ReadCtx.reset s.log.next).cursor = s.log.next := rfl
  simp [State.unread, Log.since, reader, State.softReset_records, oldest, ReadCtx.reset_accepts_reset, cursor]

theorem State.softReset_port (q : Port) : s.softReset.port q = ((s.port q).softReset).raise .log := by
  have unread := s.softReset_unread q
  rw [State.softReset_eq] at unread ⊢
  rw [State.logWrite_port, unread, if_neg (show ¬ 1024 ≤ s.cleared.log.records.length by simp [State.cleared]), State.cleared_reader,
    State.cleared_port, ReadCtx.reset_accepts_reset]
  rfl

theorem State.softReset_frame : s.softReset = { s.cleared with log := s.softReset.log, ports := s.softReset.ports } :=
  (s.cleared.logWrite_logOnly .reset).1

end

theorem AttnSet.single_log : AttnSet.single .log = 1#16 := by decide

/-- Settles O18: the blocks are cleared, the RESET record is taken, and the result is set on the issuing port. -/
theorem softResetTaken : Obligations.SoftResetTaken := by
  intro s port ready operator
  have run : exec (.softReset port []) s = .next ((s.beginTransaction port).softReset.setResult port .ok) :=
    congrArg Host.Outcome.next
      (s.command_taken _ port () Role.operates (fun _ t => .ok t.softReset) ready (Role.operates_iff.mpr operator) rfl)
  have frame := (s.beginTransaction port).softReset_frame
  have context (q : Port) : ((s.beginTransaction port).softReset.setResult port .ok).port q =
      { role := (s.port q).role, lastResult := .ok, mask := 0, pending := 1#16, framingErrors := 0
        unknownCommands := 0, reading := if q = port then none else (s.port q).reading.map (fun _ => .interrupted)
        statusOut := if q = port then s.statusByte port else (s.port q).statusOut, response := [] } := by
    rw [State.setResult, State.modPort_port]
    split
    · rename_i own
      rw [own, State.softReset_port, State.beginTransaction_port]
      simp [PortCtx.softReset, PortCtx.raise, PortCtx.reset, AttnSet.single_log]
    · rename_i other
      rw [State.softReset_port, State.beginTransaction_port_ne _ _ other]
      cases reading : (s.port q).reading <;> simp [PortCtx.softReset, PortCtx.raise, PortCtx.reset, AttnSet.single_log, reading]
  refine ⟨_, run, by rw [frame]; rfl, context, fun q other some => ?_, State.softReset_records _, State.softReset_next _,
    State.softReset_reader _, ?_, fun k => ?_, fun o => ?_, ?_, fun p => ⟨?_, ?_⟩, ?_, ?_, ?_⟩
  · rw [context]
    obtain ⟨reading, found⟩ := Option.ne_none_iff_exists'.mp some
    simp [other, found]
  all_goals rw [frame]
  · rfl
  · simp [State.channel, State.setResult, State.cleared, TimeUnit.softReset]
    exact ⟨rfl, rfl, rfl⟩
  · simp [State.marker, State.setResult, State.cleared, TimeUnit.softReset, Marker.reset]
  · exact (s.beginTransaction port).cleared_hasResetValues
  · simp [State.receiver, State.setResult, State.cleared, Receiver.softReset]
    rfl
  · simp [State.transmitter, State.setResult, State.cleared, Transmitter.softReset]
    rfl
  · rfl
  · rfl
  · rfl

end Sys2Proof.Machine

/-! The bytes and the bits of a transaction (O21). -/

namespace Sys2Proof.Machine

/-- A code that is no command code spells an unknown command, whatever the port and the bytes after it (R161). -/
theorem decodeTransaction_unknown {code : Byte} (unknown : isCommandCode code = false) (port : Port) (args : List Byte) :
    decodeTransaction port (code :: args) = some (.unknownCommand port code args) := by
  unfold isCommandCode decodeTransaction at unknown
  unfold decodeTransaction
  split at unknown
  · rename_i spelled
    dsimp only at spelled ⊢
    split at spelled <;> simp_all
  · cases unknown

/-- The command code of each row of R173 is one. -/
theorem encode_decode {i : Instr} {port : Port} {bytes : List Byte} (known : i.wellFormed = true)
    (sent : encodeTransaction i = some (port, bytes)) : decodeTransaction port bytes = some i := by
  cases i with
  | unknownCommand q code args =>
    cases sent
    exact decodeTransaction_unknown (by simpa [Instr.wellFormed] using known) _ args
  | _ => cases sent <;> rfl

/-- The row's own bytes begin the transaction: its code and the argument bytes that count. -/
theorem sent_prefix {code own : Byte} {sent args : List Byte} (spelled : code.toNat = own.toNat) (counted : sent <+: args) :
    own :: sent <+: code :: args := List.cons_prefix_cons.mpr ⟨BitVec.eq_of_toNat_eq spelled.symm, counted⟩

theorem decode_encode {port : Port} {bytes : List Byte} {i : Instr} (spelled : decodeTransaction port bytes = some i) :
    i.wellFormed = true ∧ ∃ sent, encodeTransaction i = some (port, sent) ∧ sent <+: bytes := by
  cases bytes with
  | nil => cases spelled
  | cons code args =>
    rcases known : isCommandCode code with _ | _
    · rw [decodeTransaction_unknown known] at spelled
      cases spelled
      exact ⟨by simp [Instr.wellFormed, known], _, rfl, List.prefix_rfl⟩
    · unfold decodeTransaction at spelled
      dsimp only at spelled
      split at spelled
      case h_47 =>
        unfold isCommandCode decodeTransaction at known
        simp_all
      all_goals
        rename_i named
        cases spelled
        exact ⟨rfl, _, rfl, sent_prefix named (by simp)⟩

/-! ## Bits -/

theorem serialBytes_byte (b : Byte) (rest : List Bool) : serialBytes ([b.getLsbD 7, b.getLsbD 6, b.getLsbD 5, b.getLsbD 4,
    b.getLsbD 3, b.getLsbD 2, b.getLsbD 1, b.getLsbD 0] ++ rest) = b :: serialBytes rest := by
  have value : BitVec.ofNat 8 (bitsValue [b.getLsbD 7, b.getLsbD 6, b.getLsbD 5, b.getLsbD 4, b.getLsbD 3, b.getLsbD 2,
      b.getLsbD 1, b.getLsbD 0]) = b := by
    revert b
    decide
  exact congrArg (· :: serialBytes rest) value

theorem serialBytes_incomplete {rest : List Bool} (short : rest.length < 8) : serialBytes rest = [] := by
  unfold serialBytes
  split
  · simp at short
    omega
  · rfl

theorem serialBytes_spelled (bytes : List Byte) {rest : List Bool} (short : rest.length < 8) :
    serialBytes (bytes.flatMap (fun b => [b.getLsbD 7, b.getLsbD 6, b.getLsbD 5, b.getLsbD 4, b.getLsbD 3, b.getLsbD 2,
      b.getLsbD 1, b.getLsbD 0]) ++ rest) = bytes := by
  induction bytes with
  | nil => exact serialBytes_incomplete short
  | cons b more ih => rw [List.flatMap_cons, List.append_assoc, serialBytes_byte, ih]

/-- Settles O21: the code of each row, its bytes, and their bits. -/
theorem transactionRoundTrip : Obligations.TransactionRoundTrip :=
  ⟨fun _ _ _ => encode_decode, fun _ _ _ => decode_encode, fun port bytes _ short =>
    congrArg (decodeTransaction port) (serialBytes_spelled bytes short)⟩

end Sys2Proof.Machine

/-! Frames read back as they were sent (O20). -/

namespace Sys2Proof.Machine

/-! ## Fields of bytes -/

theorem leBytes_length (k v : Nat) : (leBytes k v).length = k := by
  induction k generalizing v with
  | zero => rfl
  | succ k ih => simp [leBytes, ih]

theorem leNat_leBytes_word (x : BitVec 32) : leNat (leBytes 4 x.toNat) = x.toNat := leNat_leBytes_four x.isLt

theorem leNat_leBytes_one {v : Nat} (range : v < 256) : leNat (leBytes 1 v) = v := by
  rw [leNat_leBytes]
  exact Nat.mod_eq_of_lt range

/-! ## The check sequence -/

theorem withCrc_length (body : List Byte) : (withCrc body).length = body.length + 4 := by
  rw [withCrc, List.length_append, leBytes_length]

theorem withCrc_take (body : List Byte) : (withCrc body).take body.length = body := by simp [withCrc]
theorem withCrc_drop (body : List Byte) : (withCrc body).drop body.length = leBytes 4 (crc body).toNat := by simp [withCrc]

/-- A frame closed with its CRC passes the check (R4). -/
theorem checkCrc_withCrc (body : List Byte) : checkCrc (withCrc body) = some body := by
  have length : (withCrc body).length - 4 = body.length := by rw [withCrc_length]; rfl
  unfold checkCrc
  dsimp only
  rw [length, withCrc_take, withCrc_drop, leNat_leBytes_word, if_neg (by rw [withCrc_length]; omega), if_pos rfl]

/-! ## Path frames -/

theorem PathSet.toNat_lt (m : PathSet) : m.toNat < 256 := m.isLt.trans (by decide)

theorem parseData_bytes (c : DataCopy) (ns : c.origin.ns < 1000000000) (mask : c.mask ≠ 0) (least : 1 ≤ c.payload.length)
    (most : c.payload.length ≤ 1408) : parseData c.stream.val (FrameBody.data c).bytes = some (.data c) := by
  have lengthField : leNat (((FrameBody.data c).bytes.drop 13).take 2) = c.payload.length :=
    leNat_leBytes_two (v := c.payload.length) (by omega)
  have nsField : leNat (((FrameBody.data c).bytes.drop 8).take 4) = c.origin.ns := leNat_leBytes_four (v := c.origin.ns) (by omega)
  have secField : leNat (((FrameBody.data c).bytes.drop 4).take 4) = c.origin.sec.toNat := leNat_leBytes_word c.origin.sec
  have seqField : leNat ((FrameBody.data c).bytes.take 4) = c.seq.toNat := leNat_leBytes_word c.seq
  have maskField : leNat (((FrameBody.data c).bytes.drop 12).take 1) = c.mask.toNat := leNat_leBytes_one (PathSet.toNat_lt c.mask)
  have payload : (FrameBody.data c).bytes.drop 15 = c.payload := rfl
  have length : 15 ≤ (FrameBody.data c).bytes.length := by
    simp only [FrameBody.bytes, Tod.bytes, List.length_append, leBytes_length]
    omega
  unfold parseData
  rw [streamOfCode_val]
  dsimp only
  rw [lengthField, nsField, secField, seqField, maskField, payload, BitVec.ofNat_toNat, BitVec.ofNat_toNat, BitVec.ofNat_toNat,
    BitVec.setWidth_eq, BitVec.setWidth_eq, BitVec.setWidth_eq, if_pos ⟨length, least, most, rfl, mask, ns⟩]

/-- The ranges that a frame's fields lie in (R2, R3, R6). -/
def FrameBody.InRange : FrameBody → Prop
  | .data c => c.origin.ns < 1000000000 ∧ c.mask ≠ 0 ∧ 1 ≤ c.payload.length ∧ c.payload.length ≤ 1408
  | .beacon t => t.ns < 1000000000
  | .probe _ index => index ≤ 15
  | .echo _ index residence => index ≤ 15 ∧ residence ≤ 4294967295

theorem parseBody_bytes (body : FrameBody) (range : body.InRange) :
    parseBody body.kindCode body.streamCode body.bytes = some body := by
  cases body with
  | data c =>
    obtain ⟨ns, mask, least, most⟩ := range
    exact parseData_bytes c ns mask least most
  | beacon t =>
    have ns : t.ns < 1000000000 := range
    have nsField : leNat (((FrameBody.beacon t).bytes.drop 4).take 4) = t.ns := leNat_leBytes_four (v := t.ns) (by omega)
    have secField : leNat ((FrameBody.beacon t).bytes.take 4) = t.sec.toNat := leNat_leBytes_word t.sec
    unfold parseBody
    dsimp only [FrameBody.kindCode]
    rw [nsField, secField, BitVec.ofNat_toNat, BitVec.setWidth_eq, if_pos ⟨rfl, ns⟩]
    rfl
  | probe tag index =>
    have within : index ≤ 15 := range
    have field : (BitVec.ofNat 8 index).toNat = index := by rw [BitVec.toNat_ofNat]; omega
    show (if (BitVec.ofNat 8 index).toNat ≤ 15 then some (FrameBody.probe tag (BitVec.ofNat 8 index).toNat) else none) = _
    rw [field, if_pos within]
  | echo tag index residence =>
    obtain ⟨within, saturated⟩ := range
    have field : (BitVec.ofNat 8 index).toNat = index := by rw [BitVec.toNat_ofNat]; omega
    have residenceField := leNat_leBytes_four (v := residence) (by omega)
    show (if (BitVec.ofNat 8 index).toNat ≤ 15 then
      some (FrameBody.echo tag (BitVec.ofNat 8 index).toNat (leNat (leBytes 4 residence))) else none) = _
    rw [field, residenceField, if_pos within]

theorem FrameBody.kindCode_lt (b : FrameBody) : b.kindCode < 256 := by cases b <;> exact Nat.le_of_ble_eq_true rfl

theorem FrameBody.streamCode_lt (b : FrameBody) : b.streamCode < 256 := by
  cases b with
  | data c => exact c.stream.isLt.trans (by decide)
  | _ => exact Nat.zero_lt_succ _

/-- The sender's byte gives the state and the quality back (R2). -/
theorem sender_codes (state : LocalState) (quality : Quality) :
    LocalState.ofCode ((BitVec.ofNat 8 (state.code + 16 * quality.code)).toNat % 16) = some state
      ∧ Quality.ofCode ((BitVec.ofNat 8 (state.code + 16 * quality.code)).toNat / 16) = some quality := by
  cases state <;> cases quality <;> decide

/-- The ids' byte gives the site and the path id back (R1). -/
theorem id_nibbles (site pathId : BitVec 4) :
    BitVec.ofNat 4 ((BitVec.ofNat 8 (site.toNat + 16 * pathId.toNat)).toNat % 16) = site
      ∧ BitVec.ofNat 4 ((BitVec.ofNat 8 (site.toNat + 16 * pathId.toNat)).toNat / 16) = pathId := by
  constructor <;> bv_omega

theorem parsePlain_plainBytes (f : PathFrame) (range : f.body.InRange) : parsePlain f.plainBytes = some f := by
  obtain ⟨site, pathId, state, quality, body⟩ := f
  have kind : (BitVec.ofNat 8 body.kindCode).toNat = body.kindCode := Nat.mod_eq_of_lt body.kindCode_lt
  have stream : (BitVec.ofNat 8 body.streamCode).toNat = body.streamCode := Nat.mod_eq_of_lt body.streamCode_lt
  obtain ⟨stateField, qualityField⟩ := sender_codes state quality
  obtain ⟨siteField, pathField⟩ := id_nibbles site pathId
  unfold PathFrame.plainBytes
  simp only [parsePlain, List.cons_append, List.nil_append, kind, stream, stateField, qualityField, siteField, pathField,
    parseBody_bytes body range]

theorem parsePathFrame_bytes (f : PathFrame) (range : f.body.InRange) : parsePathFrame f.bytes = some f := by
  rw [parsePathFrame, PathFrame.bytes, checkCrc_withCrc]
  exact parsePlain_plainBytes f range

theorem PathFrame.bytes_length (f : PathFrame) : f.bytes.length = 8 + f.body.bytes.length := by
  rw [PathFrame.bytes, withCrc_length, PathFrame.plainBytes, List.length_append]
  simp only [List.length_cons, List.length_nil]
  omega

/-! ## Local frames -/

theorem parseLocalFrame_bytes (i : StreamId) (payload : List Byte) (range : payload.length < 65536) :
    parseLocalFrame (localFrameBytes i payload)
      = if 1 ≤ payload.length ∧ payload.length ≤ 1408 then some (i, payload) else none := by
  have stream : (BitVec.ofNat 8 i.val).toNat = i.val := Nat.mod_eq_of_lt (i.isLt.trans (by decide))
  have length : leNat [BitVec.ofNat 8 payload.length, BitVec.ofNat 8 (payload.length / 256)] = payload.length := leNat_leBytes_two range
  unfold parseLocalFrame localFrameBytes
  rw [checkCrc_withCrc]
  simp only [leBytes, List.cons_append, List.nil_append, stream, length, streamOfCode_val, and_true]

/-! ## Delivered frames -/

/-- A delivered frame before its CRC: the header, the payload and the trailer (R17). -/
def DeliveredFrame.plainBytes (f : DeliveredFrame) : List Byte :=
  leBytes 1 f.stream.val ++ leBytes 2 f.payload.length ++ f.payload ++ leBytes 4 f.seq.toNat ++ leBytes 1 f.path.code
    ++ f.arrival.bytes

/-- What follows the payload of a delivered frame. -/
def DeliveredFrame.trailer (f : DeliveredFrame) : List Byte :=
  leBytes 4 f.seq.toNat ++ leBytes 1 f.path.code ++ leBytes 4 f.arrival.sec.toNat ++ leBytes 4 f.arrival.ns
    ++ leBytes 4 (crc f.plainBytes).toNat

section
variable (f : DeliveredFrame)

theorem DeliveredFrame.plainBytes_length : f.plainBytes.length = 16 + f.payload.length := by
  simp only [DeliveredFrame.plainBytes, Tod.bytes, List.length_append, leBytes_length]
  omega

theorem DeliveredFrame.bytes_eq :
    f.bytes = (leBytes 1 f.stream.val ++ leBytes 2 f.payload.length) ++ (f.payload ++ f.trailer) := by
  show f.plainBytes ++ leBytes 4 (crc f.plainBytes).toNat = _
  rw [DeliveredFrame.trailer, DeliveredFrame.plainBytes]
  simp only [Tod.bytes, List.append_assoc]

theorem DeliveredFrame.bytes_drop_header : f.bytes.drop 3 = f.payload ++ f.trailer := by
  rw [f.bytes_eq]
  rfl

/-- The trailer's fields stand behind the payload, wherever it ends. -/
theorem DeliveredFrame.bytes_drop_trailer (k : Nat) : f.bytes.drop (3 + k + f.payload.length) = f.trailer.drop k := by
  rw [show 3 + k + f.payload.length = 3 + (f.payload.length + k) by omega, ← List.drop_drop, f.bytes_drop_header, ← List.drop_drop,
    List.drop_left]

end

theorem Path.code_lt (p : Path) : p.code < 256 := p.idx.isLt.trans (by decide)

/-- Settles O20: the fields are read back where the layouts put them, and the CRC is that of the bytes before it. -/
theorem framesRoundTrip : Obligations.FramesRoundTrip := by
  refine ⟨fun f range => ⟨parsePathFrame_bytes f ?_, ?_⟩, fun i payload range => ⟨parseLocalFrame_bytes i payload range, ?_⟩, ?_⟩
  · unfold FrameBody.InRange
    exact range
  · rw [f.bytes_length]
    cases f.body with
    | probe => rfl
    | echo => rfl
    | beacon => rfl
    | data => simp only [FrameBody.bytes, Tod.bytes, List.length_append, leBytes_length]; omega
  · simp only [localFrameBytes, withCrc_length, List.length_append, leBytes_length]
    omega
  · intro f range ns n
    have whole : f.bytes = withCrc f.plainBytes := rfl
    refine ⟨?_, ?_, ?_, ?_, ?_, ?_, ?_, ?_⟩
    · rw [whole, withCrc_length, f.plainBytes_length]
      omega
    · rw [f.bytes_eq]
      rfl
    · rw [f.bytes_drop_header]
      exact List.take_left
    · rw [f.bytes_drop_trailer 0]
      exact leNat_leBytes_word f.seq
    · rw [f.bytes_drop_trailer 4]
      exact leNat_leBytes_one (Path.code_lt f.path)
    · rw [f.bytes_drop_trailer 5]
      exact leNat_leBytes_word f.arrival.sec
    · rw [f.bytes_drop_trailer 9]
      exact leNat_leBytes_four ns
    · rw [whole, show 16 + n = f.plainBytes.length from f.plainBytes_length.symm, withCrc_drop, withCrc_take, leNat_leBytes_word]

end Sys2Proof.Machine

/-! A relation between states that holds of every primitive update holds of every row and every block's action: one walk
through the machine's operations, for facts that speak of entries and of port contexts (O8, O30). -/

namespace Sys2Proof.Machine

/-- An update of an entry that leaves a locked entry its configuration (R53, R54). -/
def PathEntry.calm (e e' : PathEntry) : Prop := e.locked = true → e.configurationKept e'

theorem PathEntry.configurationKept_refl (e : PathEntry) : e.configurationKept e :=
  ⟨rfl, rfl, rfl, rfl, rfl, rfl, rfl, rfl, rfl, rfl, rfl, rfl, rfl, Iff.rfl⟩

/-- A relation that holds of every primitive update a row makes: of the tables other than the entries and the port contexts,
of attention, of the place of a read, and of an entry where C allows it. -/
structure State.Footprint (C : PathEntry → PathEntry → Prop) (R : State → State → Prop) : Prop where
  refl : ∀ s, R s s
  trans : ∀ {s t u}, R s t → R t u → R s u
  tables : ∀ {s t : State}, t.paths = s.paths → t.ports = s.ports → R s t
  raise : ∀ (s : State) (q : Port) (k : AttnKind), R s (s.raiseOn q k)
  moved : ∀ (s : State) (q : Port) (f : Reading → Reading), R s (s.modPort q (fun c => { c with reading := c.reading.map f }))
  entry : ∀ (s : State) (p : Path) (g : PathEntry → PathEntry), C (s.entry p) (g (s.entry p)) → R s (s.modEntry p g)
  calm : ∀ {e e' : PathEntry}, e.calm e' → C e e'

namespace State.Footprint
variable {C : PathEntry → PathEntry → Prop} {R : State → State → Prop} (f : State.Footprint C R)
include f

theorem foldl {β : Type} (g : State → β → State) (l : List β) (keep : ∀ (u : State) (b : β), R u (g u b)) (s : State) :
    R s (l.foldl g s) := foldl_rel R f.refl f.trans g l (fun u b _ => keep u b) s

/-- An update of other tables, then more. -/
theorem after {s t u : State} (h : R t u) (paths : t.paths = s.paths) (ports : t.ports = s.ports) : R s u :=
  f.trans (f.tables paths ports) h

theorem before {s t u : State} (h : R s t) (paths : u.paths = t.paths) (ports : u.ports = t.ports) : R s u :=
  f.trans h (f.tables paths ports)

theorem modTransmitter {s t : State} (h : R s t) (p : Path) (g : Transmitter → Transmitter) : R s (t.modTransmitter p g) :=
  f.before h rfl rfl

theorem modReceiver {s t : State} (h : R s t) (p : Path) (g : Receiver → Receiver) : R s (t.modReceiver p g) := f.before h rfl rfl

/-! ## The log, attention and the time block -/

theorem raiseAll (s : State) (k : AttnKind) : R s (s.raiseAll k) :=
  f.foldl (fun u q => u.raiseOn q k) Port.all (fun u q => f.raise u q k) s

theorem checkLogCondition (s : State) (q : Port) : R s (s.checkLogCondition q) := by
  unfold State.checkLogCondition
  split
  · exact f.raise s q .log
  · exact f.refl s

theorem recordCheck (body : RecordBody) (s : State) (q : Port) : R s (s.recordCheck body q) := by
  unfold State.recordCheck
  split
  · exact f.checkLogCondition s q
  · exact f.refl s

theorem overwriteCheck (serial : Seq) (s : State) (q : Port) : R s (s.overwriteCheck serial q) := by
  have shifted := f.moved s q (Reading.overwritten serial)
  unfold State.overwriteCheck
  dsimp only
  split
  · exact f.trans shifted (f.after (f.raise _ q .lost) rfl rfl)
  · exact shifted

theorem logWrite (s : State) (body : RecordBody) : R s (s.logWrite body) := by
  unfold State.logWrite
  refine f.trans ?_ (f.foldl _ _ (f.recordCheck body) _)
  split
  · exact f.after (f.foldl _ _ (f.overwriteCheck _) _) rfl rfl
  · exact f.tables rfl rfl

theorem noteQuality (s : State) (old : Quality) (offset : Int) : R s (s.noteQuality old offset) := by
  unfold State.noteQuality
  split
  · exact f.refl s
  · exact f.trans (f.logWrite s _) (f.raiseAll _ _)

theorem noteStep (s : State) (old : Quality) (offset qualityOffset : Int) : R s (s.noteStep old offset qualityOffset) :=
  f.trans (f.trans (f.logWrite s _) (f.raiseAll _ _)) (f.noteQuality _ _ _)

theorem chooseActive (s : State) : R s s.chooseActive := by
  rcases s.chooseActive_cases with ⟨-, same⟩ | ⟨-, switched⟩
  · rw [same]
    exact f.refl s
  · rw [switched]
    exact f.after (f.trans (f.trans (f.logWrite _ _) (f.raiseAll _ _)) (f.noteQuality _ _ _)) rfl rfl

theorem applyPulse (s : State) (ns : Nat) : R s (s.applyPulse ns) := by
  unfold State.applyPulse
  dsimp only
  split
  · split
    · exact f.after (f.noteStep _ _ _ _) rfl rfl
    · exact f.after (f.noteQuality _ _ _) rfl rfl
  · exact f.refl s

theorem capture (s : State) (c : Channel) (t : Stamp) : R s (s.capture c t) := by
  have pushed : R s (s.modTime (fun u => u.modChannel c (fun x => x.push ((s.channel c).stamp t)))) := f.tables rfl rfl
  have raised (u : State) (fits : Prop) [Decidable fits] (h : R s u) : R s (if fits then u.raiseAll .capture else u) := by
    split
    · exact f.trans h (f.raiseAll _ _)
    · exact h
  unfold State.capture
  dsimp only
  split
  · exact f.trans (raised _ _ pushed) (f.logWrite _ _)
  · exact raised _ _ pushed

theorem refPulse (s : State) (r : Ref) (dir : EdgeDir) : R s (s.refPulse r dir) := by
  have chosen : R s (s.modTime (fun u => u.modRef r (RefState.pulse s.stamp.mono))).chooseActive :=
    f.after (f.chooseActive _) rfl rfl
  have captured (u : State) (h : R s u) : R s (if u.resetting.isSome then u else u.capture r.channel s.stamp) := by
    split
    · exact h
    · exact f.trans h (f.capture _ _ _)
  have applied (u : State) (h : R s u) : R s (if u.time.active = some r then u.applyPulse s.stamp.tod.ns else u) := by
    split
    · exact f.trans h (f.applyPulse _ _)
    · exact h
  unfold State.refPulse
  split
  · exact applied _ (captured _ chosen)
  · exact f.refl s

theorem refTimeout (s : State) (r : Ref) : R s (s.refTimeout r) := by
  unfold State.refTimeout
  split
  · exact f.after (f.chooseActive _) rfl rfl
  · exact f.refl s

theorem markEdge (s : State) (m : Mark) (dir : EdgeDir) : R s (s.markEdge m dir) := by
  unfold State.markEdge
  split
  · exact f.capture s _ _
  · exact f.refl s

theorem storeCapture (s : State) (c : Channel) (edge : EdgeSetting) (source : Source) (log : Bool) :
    R s (s.storeCapture c edge source log) := by
  unfold State.storeCapture
  dsimp only
  split
  · split
    · exact f.tables rfl rfl
    · exact f.after (f.chooseActive _) rfl rfl
  · exact f.tables rfl rfl

/-! ## Transmitters and the selection -/

theorem startReport (s : State) (body : FrameBody) : R s (s.startReport body) := by
  unfold State.startReport
  split
  · exact f.tables rfl rfl
  · exact f.refl s

theorem arbitrate (s : State) (p : Path) : R s (s.arbitrate p) := by
  unfold State.arbitrate
  dsimp only
  split
  · exact f.refl s
  · split
    · exact f.after (f.startReport _ _) rfl rfl
    · exact f.refl s

theorem beaconWaitEnd (s : State) (p : Path) : R s (s.beaconWaitEnd p) := by
  unfold State.beaconWaitEnd
  split
  · exact f.after (f.arbitrate _ p) rfl rfl
  · exact f.refl s

theorem echoService (s : State) (p : Path) (tag : Byte) (index arrival : Nat) : R s (s.echoService p tag index arrival) :=
  f.after (f.arbitrate _ p) rfl rfl

theorem modStats (s : State) (p : Path) (g : Stats → Stats) : R s (s.modStats p g) :=
  f.entry s p _ (f.calm fun _ => PathEntry.configurationKept_refl _)

theorem flush (s : State) (p : Path) : R s (s.flush p) := by
  unfold State.flush
  dsimp only
  exact f.modTransmitter (f.modStats s p _) p _

theorem transmitterReport (s : State) (p : Path) (new : LocalState) : R s (s.transmitterReport p new) := by
  unfold State.transmitterReport
  split
  · exact f.before (f.flush s p) rfl rfl
  · exact f.flush s p
  · exact f.refl s

theorem abandonProbe (s : State) : R s s.abandonProbe := by
  unfold State.abandonProbe
  dsimp only
  split <;> exact f.tables rfl rfl

theorem fallbackReport (s : State) : R s s.fallbackReport := by
  unfold State.fallbackReport
  dsimp only
  split
  · exact f.refl s
  · split
    · exact f.before (f.abandonProbe s) rfl rfl
    · exact f.tables rfl rfl
    · exact f.refl s

theorem changePrimary (s : State) (new : Option Path) (kind : ChangeKind) : R s (s.changePrimary new kind) := by
  have noted (body : RecordBody) : R s (((s.modSelector (fun x =>
      { x with primary := new, guard := s.guardAfter s.selector.primary new })).logWrite body).raiseAll .primary) :=
    f.after (f.trans (f.logWrite _ body) (f.raiseAll _ _)) rfl rfl
  unfold State.changePrimary
  dsimp only
  split
  · exact f.trans (noted _) (f.fallbackReport _)
  · exact f.trans (noted _) (f.fallbackReport _)
  · exact noted _

theorem modSelector {s t : State} (h : R s t) (g : Selector → Selector) : R s (t.modSelector g) := f.before h rfl rfl

theorem reEvaluate (s : State) : R s s.reEvaluate := by
  unfold State.reEvaluate
  dsimp only
  refine f.modSelector ?_ _
  split
  · exact f.after (f.changePrimary _ _ _) rfl rfl
  · exact f.tables rfl rfl

/-! ## Delays, scores and the sweep -/

theorem recomputeDelay (s : State) (p : Path) : R s (s.recomputeDelay p) := by
  unfold State.recomputeDelay
  dsimp only
  split
  · exact f.refl s
  · exact f.trans (f.entry s p _ (f.calm fun _ => PathEntry.configurationKept_refl _)) (f.reEvaluate _)

theorem modScore (s : State) (p : Path) (g : Nat → Nat) : R s (s.modScore p g) :=
  f.trans (f.entry s p _ (f.calm fun _ => PathEntry.configurationKept_refl _))
    (f.recomputeDelay _ p)

theorem retirePath (mask seen : PathSet) (s : State) (p : Path) : R s (s.retirePath mask seen p) := by
  unfold State.retirePath
  split
  · exact f.modScore s p _
  · exact f.refl s

theorem retireReport (s : State) (mask seen : PathSet) : R s (s.retireReport mask seen) :=
  f.foldl _ _ (f.retirePath mask seen) s

/-- A burst's sample moves the D of an unlocked path alone (R65). -/
theorem burstReport (s : State) (p : Path) (result : BurstResult) (sample : Nat) : R s (s.burstReport p result sample).1 := by
  cases result with
  | ok =>
    refine f.trans (f.entry s p _ (f.calm fun held => ?_)) (f.recomputeDelay _ p)
    exact ⟨rfl, rfl, rfl, rfl, rfl, rfl, rfl, rfl, rfl, rfl, rfl, if_pos held, rfl, Iff.rfl⟩
  | failed => exact f.modScore s p _
  | aborted => exact f.refl s
  | skipped => exact f.refl s

theorem scoreDecay (s : State) (p : Path) : R s (s.scoreDecay p) := by
  unfold State.scoreDecay
  split
  · exact f.trans (f.entry s p _ (f.calm fun _ => ⟨rfl, rfl, rfl, rfl, rfl, rfl, rfl, rfl, rfl, rfl, rfl, rfl, rfl, Iff.rfl⟩))
      (f.modScore _ p _)
  · exact f.refl s

theorem issueProbe (s : State) (p : Path) : R s (s.issueProbe p) := f.after (f.arbitrate _ p) rfl rfl

theorem endSweep (s : State) : R s s.endSweep := f.after (f.raiseAll _ _) rfl rfl

theorem beginBurst (s : State) (p : Path) : R s (s.beginBurst p) := f.after (f.issueProbe _ p) rfl rfl

theorem pathTurn (fuel : Nat) (s : State) : R s (State.pathTurn fuel s) := by
  induction fuel generalizing s with
  | zero => exact f.refl s
  | succ fuel ih =>
    unfold State.pathTurn
    split
    · exact f.endSweep s
    · dsimp only
      split
      · exact f.after (f.trans (f.logWrite _ _) (ih _)) rfl rfl
      · exact f.after (f.trans (f.logWrite _ _) (ih _)) rfl rfl
      · exact f.after (f.beginBurst _ _) rfl rfl

theorem endBurst (s : State) (p : Path) (result : BurstResult) : R s (s.endBurst p result) := by
  have closed (body : RecordBody) : R s (((s.burstReport p result (s.sounding.minimum.getD 0)).1.logWrite body).modSounding
      (fun x => { x with current := none })) :=
    f.trans (f.burstReport s p result _) (f.before (f.logWrite _ _) rfl rfl)
  unfold State.endBurst
  dsimp only
  split
  · exact f.trans (closed _) (f.endSweep _)
  · split
    · exact f.trans (closed _) (f.pathTurn _ _)
    · exact closed _

theorem continueBurst (s : State) : R s s.continueBurst := by
  unfold State.continueBurst
  split
  · exact f.refl s
  · split
    · exact f.endBurst s _ _
    · split
      · exact f.issueProbe s _
      · exact f.refl s

theorem probeIssue (s : State) : R s s.probeIssue := by
  unfold State.probeIssue
  split
  · exact f.continueBurst s
  · exact f.refl s

theorem probeTimeout (s : State) : R s s.probeTimeout := by
  unfold State.probeTimeout
  split
  · split
    · exact f.after (f.trans (f.modStats _ _ _) (f.continueBurst _)) rfl rfl
    · exact f.refl s
  · exact f.refl s

theorem judgeEcho (s : State) (p : Path) (round residence : Nat) : R s (s.judgeEcho p round residence) := by
  unfold State.judgeEcho
  split
  · exact f.after (f.trans (f.modStats _ _ _) (f.continueBurst _)) rfl rfl
  · exact f.after (f.trans (f.modStats _ _ _) (f.continueBurst _)) rfl rfl

theorem takeEcho (s : State) (p : Path) (tag : Byte) (index residence t4 : Nat) : R s (s.takeEcho p tag index residence t4) := by
  unfold State.takeEcho
  split
  · split
    · exact f.judgeEcho s _ _ _
    · exact f.tables rfl rfl
  · exact f.tables rfl rfl

theorem soundingReport (s : State) (p : Path) (new : LocalState) : R s (s.soundingReport p new) := by
  unfold State.soundingReport
  split
  · split
    · exact f.trans (f.abandonProbe s) (f.endBurst _ _ _)
    · exact f.trans (f.abandonProbe s) (f.endBurst _ _ _)
    · exact f.refl s
  · exact f.refl s

theorem resume (s : State) : R s s.resume := by
  unfold State.resume
  dsimp only
  split
  · exact f.after (f.continueBurst _) rfl rfl
  · exact f.after (f.pathTurn _ _) rfl rfl

theorem suspendSweep (s : State) : R s s.suspendSweep := by
  unfold State.suspendSweep
  split
  · exact f.before (f.abandonProbe s) rfl rfl
  · exact f.refl s

theorem cancelSweep (s : State) : R s s.cancelSweep := by
  unfold State.cancelSweep
  dsimp only
  split
  · exact f.refl s
  · split
    · exact f.trans (f.trans (f.abandonProbe s) (f.logWrite _ _)) (f.after (f.endSweep _) rfl rfl)
    · exact f.after (f.endSweep _) rfl rfl

/-! ## Path states -/

theorem setLocalState (s : State) (p : Path) (new : LocalState) (reason : Reason)
    (may : ∀ (r : Reason) (since : Nat) (hold : Option Nat),
      C (s.entry p) { s.entry p with state := new, reason := r, entered := since, holdDeadline := hold }) : R s (s.setLocalState p new reason) := by
  unfold State.setLocalState
  exact f.trans (f.trans (f.trans (f.trans (f.trans (f.entry s p _ (may _ _ _)) (f.logWrite _ _)) (f.raiseAll _ _))
    (f.reEvaluate _)) (f.transmitterReport _ p new)) (f.soundingReport _ p new)

omit f in
/-- An evaluation neither takes a path out of service nor back into it (R42). -/
theorem transition_inService {s : State} {p : Path} {new : LocalState} {reason : Reason}
    (moves : s.transition p = some (new, reason)) : (s.entry p).state ≠ .disabled ∧ new ≠ .disabled := by
  unfold State.transition at moves
  dsimp only at moves
  split at moves
  · cases moves
  all_goals
    rename_i here
    rw [here]
    split_ifs at moves <;> cases moves <;> exact ⟨by decide, by decide⟩

theorem evaluateUpTo (n : Nat) (s : State) (p : Path) : R s (State.evaluateUpTo n s p) := by
  induction n generalizing s with
  | zero => exact f.refl s
  | succ n ih =>
    unfold State.evaluateUpTo
    split
    · rename_i moves
      obtain ⟨before, after⟩ := transition_inService moves
      refine f.trans (f.setLocalState s p _ _ fun _ _ _ => f.calm fun _ => ?_) (ih _)
      exact ⟨rfl, rfl, rfl, rfl, rfl, rfl, rfl, rfl, rfl, rfl, rfl, rfl, rfl, iff_of_false after before⟩
    · exact f.refl s

theorem evaluate (s : State) (p : Path) : R s (s.evaluate p) := f.evaluateUpTo 3 s p

theorem setFar (s : State) (p : Path) (state : Option LocalState) (quality : Option Quality) : R s (s.setFar p state quality) := by
  have set := f.entry s p (fun e => { e with farState := state, farQuality := quality })
    (f.calm fun _ => PathEntry.configurationKept_refl _)
  unfold State.setFar
  dsimp only
  split
  · exact set
  · exact f.trans set (f.reEvaluate _)

theorem validFrame (s : State) (p : Path) (arrival : Nat) (state : LocalState) (quality : Quality) :
    R s (s.validFrame p arrival state quality) :=
  f.after (f.trans (f.modStats _ p _) (f.trans (f.setFar _ p _ _) (f.evaluate _ p))) rfl rfl

theorem checkError (s : State) (p : Path) : R s (s.checkError p) := by
  unfold State.checkError
  dsimp only
  split
  · exact f.modStats s p _
  · exact f.trans (f.modStats s p _) (f.trans (f.entry _ p _
      (f.calm fun _ => PathEntry.configurationKept_refl _)) (f.evaluate _ p))

theorem applyMargin (s : State) (p : Path) (margin : Int) : R s (s.applyMargin p margin) := by
  unfold State.applyMargin
  exact f.trans (f.entry s p _ (f.calm fun _ => PathEntry.configurationKept_refl _))
    (f.trans (f.recomputeDelay _ p) (f.evaluate _ p))

theorem applyMargins (l : List (Path × Int)) (s : State) : R s (s.applyMargins l) := by
  induction l generalizing s with
  | nil => exact f.refl s
  | cons e rest ih => exact f.trans (f.applyMargin s e.1 e.2) (ih _)

theorem enable (s : State) (p : Path)
    (may : ∀ (r : Reason) (since : Nat) (hold : Option Nat),
      C (s.entry p) { s.entry p with state := .failed, reason := r, entered := since, holdDeadline := hold }) : R s (s.enable p) := by
  have running (e : PathEntry) : C e { e with window := some ⟨s.time.mono, s.time.mono + msToNs e.windowLength, 0⟩ } :=
    f.calm fun _ => PathEntry.configurationKept_refl _
  unfold State.enable
  exact f.trans (f.modTransmitter (f.modReceiver (f.trans (f.setLocalState s p _ _ may) (f.entry _ p _ (running _))) p _) p _)
    (f.arbitrate _ p)

theorem disable (s : State) (p : Path)
    (may : ∀ (r : Reason) (since : Nat) (hold : Option Nat),
      C (s.entry p) { s.entry p with state := .disabled, reason := r, entered := since, holdDeadline := hold }) : R s (s.disable p) := by
  have stopped (e : PathEntry) : C e { e with window := none } :=
    f.calm fun _ => PathEntry.configurationKept_refl _
  unfold State.disable
  exact f.trans (f.modReceiver (f.trans (f.setLocalState s p _ _ may) (f.setFar _ p none none)) p _) (f.entry _ p _ (stopped _))

end State.Footprint
end Sys2Proof.Machine

/-! The walk through the Merge Unit's and the intake's operations. -/

namespace Sys2Proof.Machine
namespace State.Footprint
variable {C : PathEntry → PathEntry → Prop} {R : State → State → Prop} (f : State.Footprint C R)
include f

theorem modRx {s t : State} (h : R s t) (i : StreamId) (g : RxStream → RxStream) : R s (t.modRx i g) := f.before h rfl rfl
theorem modTx {s t : State} (h : R s t) (i : StreamId) (g : TxStream → TxStream) : R s (t.modTx i g) := f.before h rfl rfl
theorem modLocal {s t : State} (h : R s t) (g : LocalPort → LocalPort) : R s (t.modLocal g) := f.before h rfl rfl

theorem queueDelivery (s : State) (i : StreamId) (d : DeliveredFrame) : R s (s.queueDelivery i d) := by
  unfold State.queueDelivery
  split
  · exact f.trans (f.modRx (f.refl s) i _) (f.raiseAll _ _)
  · exact f.modLocal (f.refl s) _

theorem deliver (s : State) (i : StreamId) (d : Delivery) : R s (s.deliver i d) := by
  unfold State.deliver
  dsimp only
  split
  · exact f.trans (f.queueDelivery s i _) (f.logWrite _ _)
  · exact f.queueDelivery s i _

theorem setSlot {s t : State} (h : R s t) (i : StreamId) (n : Nat) (slot : Slot) : R s (t.setSlot i n slot) := f.modRx h i _

theorem releaseSlot (s : State) (i : StreamId) (n : Nat) : R s (s.releaseSlot i n) := by
  unfold State.releaseSlot
  split
  · exact f.trans (f.setSlot (f.refl s) i n _) (f.deliver _ i _)
  · exact f.refl s

theorem releaseFirst (s : State) (i : StreamId) (n : Nat) : R s (s.releaseFirst i n) := f.foldl _ _ (fun u k => f.releaseSlot u i k) s

theorem walk (fuel : Nat) (s : State) (i : StreamId) : R s (State.walk fuel s i) := by
  induction fuel generalizing s with
  | zero => exact f.refl s
  | succ fuel ih =>
    unfold State.walk
    dsimp only
    split
    · exact f.trans (f.modRx (f.releaseSlot s i _) i _) (ih _)
    · exact f.refl s

theorem gapRun (s : State) (i : StreamId) (first : Seq) (count : Nat) (cause : GapCause) : R s (s.gapRun i first count cause) := by
  unfold State.gapRun
  split
  · exact f.refl s
  · exact f.modRx (f.logWrite s _) i _

theorem expireOnce (s : State) (i : StreamId) : R s (s.expireOnce i) := by
  unfold State.expireOnce
  dsimp only
  split
  · exact f.modRx (f.refl s) i _
  · exact f.modRx (f.trans (f.modRx (f.trans (f.modRx (f.refl s) i _) (f.gapRun _ i _ _ _)) i _) (f.walk _ _ i)) i _

theorem expireUpTo (fuel : Nat) (s : State) (i : StreamId) : R s (State.expireUpTo fuel s i) := by
  induction fuel generalizing s with
  | zero => exact f.refl s
  | succ fuel ih =>
    unfold State.expireUpTo
    split
    · exact f.trans (f.expireOnce s i) (ih _)
    · exact f.refl s

theorem expireAll (s : State) (i : StreamId) : R s (s.expireAll i) := f.expireUpTo _ s i

theorem settleHold (s : State) (i : StreamId) : R s (s.settleHold i) := f.trans (f.modRx (f.refl s) i _) (f.expireAll _ i)

theorem resync (s : State) (i : StreamId) (cause : ResyncCause) (newSeq : Option Seq) : R s (s.resync i cause newSeq) := by
  have emptied (u : State) (h : R s u) (body : RecordBody) (g g' : RxStream → RxStream) :
      R s (((u.modRx i g).logWrite body).modRx i g') := f.modRx (f.trans (f.modRx h i g) (f.logWrite _ body)) i g'
  unfold State.resync
  refine emptied _ ?_ _ _ _
  split
  · exact f.releaseFirst s i _
  · exact f.refl s

theorem holdArrival (s : State) (i : StreamId) (d : DataArrival) (eligible : Bool) : R s (s.holdArrival i d eligible) := by
  have held (slot : Slot) (g : RxStream → RxStream) : R s ((s.setSlot i ((s.rxStream i).distance d.copy.seq) slot).modRx i g) :=
    f.modRx (f.setSlot (f.refl s) i _ slot) i g
  unfold State.holdArrival
  dsimp only
  split
  · exact f.trans (held _ _) (f.expireAll _ i)
  · exact held _ _

theorem deliverArrival (s : State) (i : StreamId) (d : DataArrival) (eligible ordered : Bool) :
    R s (s.deliverArrival i d eligible ordered) := f.trans (f.setSlot (f.refl s) i _ _) (f.deliver _ i _)

theorem firstArrival (s : State) (i : StreamId) (d : DataArrival) : R s (s.firstArrival i d) := by
  have counted (g : RxStream → RxStream) (k : Stats → Stats) : R s ((s.modRx i g).modStats d.path k) :=
    f.trans (f.modRx (f.refl s) i g) (f.modStats _ _ k)
  unfold State.firstArrival
  dsimp only
  split
  · split
    · exact f.trans (counted _ _) (f.trans (f.trans (f.modRx (f.deliverArrival _ i d _ _) i _) (f.walk _ _ i)) (f.settleHold _ i))
    · exact f.trans (counted _ _) (f.holdArrival _ i d _)
  · exact f.trans (counted _ _) (f.deliverArrival _ i d _ _)

theorem lateCopy (s : State) (i : StreamId) (p : Path) : R s (s.lateCopy i p) :=
  f.trans (f.modRx (f.refl s) i _) (f.modStats _ p _)

theorem duplicate (s : State) (i : StreamId) (n : Nat) (slot : Slot) (first : Nat) (d : DataArrival) :
    R s (s.duplicate i n slot first d) := f.modRx (f.trans (f.setSlot (f.refl s) i n _) (f.modStats _ d.path _)) i _

theorem takeTracked (s : State) (i : StreamId) (n : Nat) (d : DataArrival) : R s (s.takeTracked i n d) := by
  unfold State.takeTracked
  split
  · exact f.firstArrival s i d
  · exact f.duplicate s i n _ _ d
  · exact f.duplicate s i n _ _ d
  · exact f.lateCopy s i _
  · exact f.refl s

theorem retire (i : StreamId) (untracked : Nat) (l : List Slot) (q : Seq) (run : Nat) (s : State) :
    R s (State.retire i untracked l q run s) := by
  induction l generalizing q run s with
  | nil => exact f.gapRun s i _ _ _
  | cons x l ih =>
    cases x with
    | empty => exact ih _ _ _
    | held | done => exact f.trans (f.trans (f.gapRun s i _ _ _) (f.retireReport _ _ _)) (ih _ _ _)
    | skipped => exact f.trans (f.gapRun s i _ _ _) (ih _ _ _)

theorem advance (s : State) (i : StreamId) (d : DataArrival) : R s (s.advance i d) := by
  have freed (n : Nat) : R s (if (s.rxStream i).ordered then s.releaseFirst i n else s) := by
    split
    · exact f.releaseFirst s i n
    · exact f.refl s
  have walked (b : Bool) (u : State) : R u (if b then u.releaseWalk i else u) := by
    split
    · exact f.walk _ u i
    · exact f.refl u
  have settled (b : Bool) (u : State) : R u (if b then u.settleHold i else u) := by
    split
    · exact f.settleHold u i
    · exact f.refl u
  unfold State.advance
  exact f.trans (f.trans (f.trans (f.modRx (f.trans (freed _) (f.retire i _ _ _ _ _)) i _) (walked _ _)) (f.firstArrival _ i d))
    (settled _ _)

theorem synchronize (s : State) (i : StreamId) (d : DataArrival) : R s (s.synchronize i d) :=
  f.trans (f.modRx (f.refl s) i _) (f.firstArrival _ i d)

theorem takeData (s : State) (d : DataArrival) : R s (s.takeData d) := by
  unfold State.takeData State.mergeCopy
  dsimp only
  split
  · exact f.modRx (f.refl s) _ _
  · split
    · split
      · exact f.lateCopy s _ _
      · split
        · exact f.takeTracked s _ _ d
        · split
          · exact f.trans (f.modRx (f.refl s) _ _) (f.firstArrival _ _ d)
          · split
            · exact f.advance s _ d
            · exact f.trans (f.resync s _ _ _) (f.synchronize _ _ d)
    · exact f.synchronize s _ d

theorem passOnward (s : State) (p : Path) (a : Stamp) (frame : PathFrame) : R s (s.passOnward p a frame) := by
  unfold State.passOnward
  split
  · exact f.takeData s _
  · exact f.refl s
  · exact f.echoService s p _ _ _
  · exact f.takeEcho s p _ _ _ _

theorem judgeFrame (s : State) (p : Path) (a : Stamp) (frame : PathFrame) : R s (s.judgeFrame p a frame) := by
  unfold State.judgeFrame
  split
  · exact f.modStats s p _
  · split
    · exact f.modStats s p _
    · split
      · exact f.trans (f.validFrame s p _ _ _) (f.passOnward _ p _ _)
      · exact f.modStats s p _

theorem pathFrameEnd (s : State) (p : Path) (bytes : List Byte) : R s (s.pathFrameEnd p bytes) := by
  have ended (u : State) (h : R (s.modReceiver p (fun r => { r with arriving := none })) u) : R s u :=
    f.trans (f.modReceiver (f.refl s) p _) h
  unfold State.pathFrameEnd
  split
  · exact f.refl s
  · refine ended _ ?_
    dsimp only
    split
    · exact f.refl _
    · split
      · exact f.checkError _ p
      · exact f.judgeFrame _ p _ _

/-! ## Intake -/

theorem placeCopy (copy : DataCopy) (s : State) (p : Path) : R s (s.placeCopy copy p) := by
  unfold State.placeCopy
  split
  · exact f.modTransmitter (f.refl s) p _
  · exact f.refl s

theorem dispatch (s : State) (i : StreamId) (origin : Tod) (mask : PathSet) (payload : List Byte) :
    R s (s.dispatch i origin mask payload) := by
  have started (u : State) (p : Path) : R u (if mask.has p then u.arbitrate p else u) := by
    split
    · exact f.arbitrate u p
    · exact f.refl u
  exact f.trans (f.trans (f.modTx (f.refl s) i _) (f.foldl _ _ (f.placeCopy _) _)) (f.foldl _ _ started _)

theorem countTxDrop (set : PathSet) (s : State) (p : Path) : R s (s.countTxDrop set p) := by
  unfold State.countTxDrop
  split
  · exact f.modStats s p _
  · exact f.refl s

theorem intake (s : State) (i : StreamId) (origin : Tod) (payload : List Byte) : R s (s.intake i origin payload) := by
  have counted := f.foldl _ Path.all (f.countTxDrop s.selector.dispatchSet) s
  unfold State.intake
  dsimp only
  split_ifs
  · exact f.modTx (f.refl s) i _
  · exact f.trans (f.modTx (f.refl s) i _) (f.raiseAll _ _)
  · exact f.trans (f.modTx counted i _) (f.raiseAll _ _)
  · exact f.trans counted (f.dispatch _ i origin _ payload)

theorem localFrameIntake (s : State) (bytes : List Byte) : R s (s.localFrameIntake bytes) := by
  unfold State.localFrameIntake
  split
  · exact f.refl s
  · dsimp only
    split
    · exact f.modLocal (f.refl s) _
    · split
      · exact f.modLocal (f.modLocal (f.refl s) _) _
      · exact f.trans (f.modLocal (f.refl s) _) (f.intake _ _ _ _)

theorem frameTransmitEnd (s : State) (p : Path) : R s (s.frameTransmitEnd p) := by
  unfold State.frameTransmitEnd
  split
  · exact f.refl s
  · dsimp only
    refine f.trans (f.modTransmitter ?_ p _) (f.arbitrate _ p)
    split
    · exact f.refl s
    · exact f.modStats s p _

end State.Footprint
end Sys2Proof.Machine

/-! What a transaction shows on data out (O8), and what a lock keeps (O30). -/

namespace Sys2Proof.Machine

/-! ## No action begins a read -/

/-- A port on which no read is in progress has none after. -/
def State.Hushed (s t : State) : Prop := ∀ p, (s.port p).reading = none → (t.port p).reading = none

theorem State.Hushed.of_modPort {s : State} {q : Port} {g : PortCtx → PortCtx}
    (idle : ∀ c : PortCtx, c.reading = none → (g c).reading = none) : s.Hushed (s.modPort q g) := by
  intro p none
  rw [State.modPort_port]
  split
  · rename_i same
    exact idle _ (same ▸ none)
  · exact none

theorem State.hushed_footprint : State.Footprint (fun _ _ => True) State.Hushed where
  refl _ := fun _ none => none
  trans h h' := fun p none => h' p (h p none)
  tables _ ports := fun p none => by
    unfold State.port at none ⊢
    rw [ports]
    exact none
  raise _ _ k := .of_modPort fun _ => PortCtx.raise_reading k
  moved _ _ f := .of_modPort fun _ none => by rw [none]; rfl
  entry _ _ _ _ := fun _ none => none
  calm _ := trivial

theorem State.hushed_softReset (s : State) : s.Hushed s.softReset := by
  unfold State.softReset State.resetLog
  refine State.hushed_footprint.after (State.hushed_footprint.trans ?_ (State.hushed_footprint.logWrite _ .reset)) rfl rfl
  intro p none
  simp only [State.port, State.modLog] at none ⊢
  simp only [Vector.getElem_map, Fin.getElem_fin, PortCtx.softReset, Option.map_eq_none_iff]
  exact none

open State in
theorem State.hushed_of_acts {s t : State} {role : Role} {port : Port} (run : s.Acts role port t) : s.Hushed t := by
  have f := hushed_footprint
  cases run with
  | nothing => exact f.refl s
  | softReset => exact s.hushed_softReset
  | attentionMask => exact .of_modPort fun _ none => none
  | enable p => exact f.enable s p fun _ _ _ => trivial
  | disable p => exact f.disable s p fun _ _ _ => trivial
  | timers p => exact f.trans (f.entry s p _ trivial) (f.evaluate _ p)
  | idleBank p => exact f.entry s p _ trivial
  | activeBank p | selectBank p => exact f.trans (f.entry s p _ trivial) (f.trans (f.recomputeDelay _ p) (f.evaluate _ p))
  | baseDelay p | smoothing p => exact f.trans (f.entry s p _ trivial) (f.recomputeDelay _ p)
  | margins l => exact f.applyMargins l s
  | lock p => exact f.entry s p _ trivial
  | lockAll => exact f.foldl _ _ (fun u p => f.entry u p _ trivial) s
  | clearStats p => exact f.modStats s p _
  | clearAllStats => exact f.foldl _ _ (fun u p => f.modStats u p _) s
  | peerSite => exact f.tables rfl rfl
  | selection | pin => exact f.trans (f.modSelector (f.refl s) _) (f.reEvaluate _)
  | stream i => exact f.modTx (f.modRx (f.refl s) i _) i _
  | reshape i => exact f.modTx (f.modRx (f.resync s i _ _) i _) i _
  | resync i => exact f.resync s i _ _
  | txSequence i => exact f.modTx (f.refl s) i _
  | loadTime | stepTime => exact f.after (f.noteStep _ _ _ _) rfl rfl
  | frequency | readCapture | marker => exact f.tables rfl rfl
  | discipline => exact f.after (f.noteQuality _ _ _) rfl rfl
  | capture c => exact f.storeCapture s c _ _ _
  | startSweep => exact f.after (f.pathTurn _ _) rfl rfl
  | suspendSweep => exact f.suspendSweep s
  | resume => exact f.resume s
  | cancelSweep => exact f.cancelSweep s
  | filter | seekOldest | seekNext => exact f.after (f.checkLogCondition _ port) rfl rfl
  | link us => exact f.after (f.foldl _ _ (fun u p => f.beaconWaitEnd u p) _) rfl rfl

/-- A transaction that is no read leaves none in progress on its port. -/
theorem State.reading_of_transacted {s t : State} {port : Port} (run : s.Transacted false t port) :
    (t.port port).reading = none := by
  obtain ⟨u, g, takes, concludes, rfl⟩ := run
  have begun : ((s.beginTransaction port).port port).reading = none := by rw [State.beginTransaction_port]
  rw [State.modPort_port, if_pos rfl]
  exact concludes.idle rfl _ (State.hushed_of_acts takes.acts port begun)

theorem PortCtx.dataOut_eq_none {c : PortCtx} : c.dataOut = none ↔ c.reading = none := by
  unfold PortCtx.dataOut PortCtx.selected
  cases c.reading <;> simp

/-- A read leaves one in progress exactly when its bytes were framed. -/
theorem State.readCommand_reading {α : Type} (s : State) (port : Port) (args : Option α) (right : Role → Bool)
    (take : α → State → Except ResultCode Answer) :
    ((s.readCommand port args right take).port port).reading = none ↔ args.isSome = false := by
  cases args with
  | none =>
    rw [State.readCommand_framing, State.modPort_port]
    simp
  | some a =>
    unfold State.readCommand State.checked State.concludeRead State.refuseRead
    dsimp only
    split_ifs
    · simp
    · split <;> simp
    · simp

theorem ResultCode.code_lt (r : ResultCode) : r.code < 16 := by cases r <;> decide

/-- The bits of the status byte (R165). -/
theorem State.statusByte_bits (s : State) (p : Port) :
    (s.statusByte p).toNat % 16 = (s.port p).lastResult.code ∧ (s.statusByte p).getLsbD 4 = (s.port p).output
      ∧ (s.statusByte p).getLsbD 5 = s.resetting.isSome ∧ (s.statusByte p).getLsbD 6 = s.sounding.isActive
      ∧ (s.statusByte p).getLsbD 7 = false := by
  have low := (s.port p).lastResult.code_lt
  unfold State.statusByte
  generalize (s.port p).lastResult.code = r at low
  generalize (s.port p).output = a
  generalize s.resetting.isSome = b
  generalize s.sounding.isActive = c
  interval_cases r <;> revert a b c <;> decide

/-- A code that is no command code is no code of a read. -/
theorem isRead_unknownCommand {port : Port} {code : Byte} {args : List Byte} (unknown : isCommandCode code = false) :
    Instr.isRead (.unknownCommand port code args) = false := by
  by_contra reads
  have commands : ∀ c ∈ [0x01#8, 0x02#8, 0x03#8, 0x10#8, 0x20#8, 0x30#8, 0x40#8, 0x46#8, 0x54#8, 0x61#8, 0x62#8],
      isCommandCode c = true := by decide
  rw [commands code (List.contains_iff_mem.mp (Bool.eq_true_of_not_eq_false reads))] at unknown
  cases unknown

theorem Instr.framing_of_isRead {i : Instr} (known : i.wellFormed = true) (reads : i.isRead = true) : i.framing ≠ none := by
  intro none
  cases i with
  | unknownCommand port code args =>
    have unknown : isCommandCode code = false := by simpa [Instr.wellFormed] using known
    rw [isRead_unknownCommand unknown] at reads
    cases reads
  | _ => contradiction

/-- Settles O8: the byte is that of the state before; only a framed read leaves the port clocking out. -/
theorem statusByteShown : Obligations.StatusByteShown := by
  intro i port args s t known command run
  have transacted := exec_transacted command known run
  have shown : (t.port port).statusOut = s.statusByte port := by
    rw [(State.steady_of_transacted transacted).statusOut, State.beginTransaction_port]
  have output : (s.port port).output = decide ((s.port port).pending &&& (s.port port).mask ≠ 0) := by
    simp [PortCtx.output, bne, BEq.beq]
  have active : s.sounding.isActive = decide (s.sounding.state ≠ .idle) := by
    unfold Sounding.isActive
    cases s.sounding.state <;> rfl
  obtain ⟨code, attention, resetting, sweep, zero⟩ := s.statusByte_bits port
  rw [shown, ← output, ← active, PortCtx.dataOut_eq_none]
  refine ⟨code, attention, resetting, sweep, zero, ?_⟩
  cases reads : i.isRead with
  | false =>
    rw [reads] at transacted
    exact iff_of_true (State.reading_of_transacted transacted) (by simp)
  | true =>
    obtain ⟨u, ran, judged⟩ := exec_judged s command (Instr.framing_of_isRead known reads)
    obtain rfl : u = t := Host.Outcome.next.inj (ran.symm.trans run)
    cases judged with
    | command _ _ _ _ writes => rw [reads] at writes; cases writes
    | read args right take framed => simp [State.readCommand_reading, framed]
    | identity named bytes => simp [named, Instr.framing]

end Sys2Proof.Machine

/-! What a lock keeps (O30). -/

namespace Sys2Proof.Machine

theorem PathEntry.configurationKept.trans {e e' e'' : PathEntry} (h : e.configurationKept e') (h' : e'.configurationKept e'') :
    e.configurationKept e'' := by
  unfold PathEntry.configurationKept at *
  grind

/-- Every locked entry keeps its configuration. -/
def State.LocksHold (s t : State) : Prop := ∀ p, (s.entry p).calm (t.entry p)

theorem State.locksHold_of_paths {s t : State} (paths : t.paths = s.paths) : s.LocksHold t := fun p _ => by
  unfold State.entry
  rw [paths]
  exact PathEntry.configurationKept_refl _

theorem State.locksHold_footprint : State.Footprint PathEntry.calm State.LocksHold where
  refl _ := State.locksHold_of_paths rfl
  trans {s t u} h h' := fun p locked => by
    have kept := h p locked
    have still : (t.entry p).locked = true := by
      obtain ⟨-, -, -, -, -, -, -, -, -, -, -, -, same, -⟩ := kept
      rw [same, locked]
    exact kept.trans (h' p still)
  tables paths _ := State.locksHold_of_paths paths
  raise _ _ _ := State.locksHold_of_paths rfl
  moved _ _ _ := State.locksHold_of_paths rfl
  entry s p g may := fun q => by
    rw [State.modEntry_entry]
    split
    · rename_i same
      rw [same]
      exact may
    · exact fun _ => PathEntry.configurationKept_refl _
  calm := id

theorem PathEntry.calm_of_unlocked {e e' : PathEntry} (unlocked : e.locked = false) : e.calm e' := fun locked => by
  rw [unlocked] at locked
  cases locked

/-- A lock binds a SUPERVISOR. -/
theorem State.unlocked_of_supervises {s : State} {role : Role} {p : Path} (right : role.supervises = true) (other : role ≠ .operator)
    (free : s.lockBinds role p = false) : (s.entry p).locked = false := by
  unfold State.lockBinds at free
  cases role with
  | operator => exact absurd rfl other
  | supervisor => simpa using free
  | _ => cases right

open State in
theorem State.locksHold_of_acts {s t : State} {role : Role} {port : Port} (run : s.Acts role port t) (other : role ≠ .operator) :
    s.LocksHold t := by
  have f := locksHold_footprint
  cases run with
  | nothing => exact f.refl s
  | enable p right free => exact f.enable s p fun _ _ _ => PathEntry.calm_of_unlocked (unlocked_of_supervises right other free)
  | disable p right free => exact f.disable s p fun _ _ _ => PathEntry.calm_of_unlocked (unlocked_of_supervises right other free)
  | selectBank p _ right free =>
    exact f.trans (f.entry s p _ (PathEntry.calm_of_unlocked (unlocked_of_supervises right other free)))
      (f.trans (f.recomputeDelay _ p) (f.evaluate _ p))
  | margins l => exact f.applyMargins l s
  | clearStats p => exact f.modStats s p _
  | clearAllStats => exact f.foldl _ _ (fun u p => f.modStats u p _) s
  | attentionMask | txSequence | readCapture | marker => exact locksHold_of_paths rfl
  | stream i => exact locksHold_of_paths rfl
  | reshape i => exact f.modTx (f.modRx (f.resync s i _ _) i _) i _
  | resync i => exact f.resync s i _ _
  | capture c => exact f.storeCapture s c _ _ _
  | startSweep => exact f.after (f.pathTurn _ _) rfl rfl
  | suspendSweep => exact f.suspendSweep s
  | resume => exact f.resume s
  | cancelSweep => exact f.cancelSweep s
  | filter | seekOldest | seekNext => exact f.after (f.checkLogCondition _ port) rfl rfl
  | _ => contradiction

open State in
theorem State.locksHold_of_occurs {s t : State} (run : s.Occurs t) : s.LocksHold t := by
  have f := locksHold_footprint
  have windowed (p : Path) : (s.entry p).calm { s.entry p with
      window := (s.entry p).window.map (fun w => ⟨w.endAt, w.endAt + msToNs (s.entry p).windowLength, 0⟩) } :=
    fun _ => ⟨rfl, rfl, rfl, rfl, rfl, rfl, rfl, rfl, rfl, rfl, rfl, rfl, rfl, Iff.rfl⟩
  have reported (p : Path) : (s.entry p).calm { s.entry p with stale := true, reportDeadline := none } :=
    fun _ => ⟨rfl, rfl, rfl, rfl, rfl, rfl, rfl, rfl, rfl, rfl, rfl, rfl, rfl, Iff.rfl⟩
  cases run with
  | nothing => exact f.refl s
  | softResetPeriodEnd =>
    unfold State.softResetPeriodEnd
    split <;> exact locksHold_of_paths rfl
  | pathFrameStart | localFrameStart | attentionDone => exact locksHold_of_paths rfl
  | pathFrameEnd p bytes => exact f.pathFrameEnd s p bytes
  | silenceExpiry p =>
    unfold State.silenceExpiry
    split
    · exact f.after (f.trans (f.setFar _ p none none) (f.evaluate _ p)) rfl rfl
    · exact f.refl s
  | windowEnd p =>
    unfold State.windowEnd
    split
    · exact f.trans (f.entry s p _ (windowed p)) (f.evaluate _ p)
    · exact f.refl s
  | recoverHoldExpiry p =>
    unfold State.recoverHoldExpiry
    split
    · exact f.evaluate s p
    · exact f.refl s
  | reportExpiry p =>
    unfold State.reportExpiry
    split
    · exact f.trans (f.entry s p _ (reported p)) (f.raiseAll _ _)
    · exact f.refl s
  | scoreDecay p => exact f.scoreDecay s p
  | guardExpiry =>
    unfold State.guardExpiry
    split
    · exact f.trans (f.modSelector (f.refl s) _) (f.reEvaluate _)
    · exact f.refl s
  | frameTransmitEnd p => exact f.frameTransmitEnd s p
  | beaconWaitEnd p => exact f.beaconWaitEnd s p
  | localFrameIntake bytes => exact f.localFrameIntake s bytes
  | localTransmitEnd =>
    unfold State.localTransmitEnd
    split <;> exact locksHold_of_paths rfl
  | holdExpiry i => exact f.expireAll s i
  | probeIssue => exact f.probeIssue s
  | probeTimeout => exact f.probeTimeout s
  | settleDeadline =>
    unfold State.settleDeadline
    split
    · exact f.resume s
    · exact f.refl s
  | refPulse r dir => exact f.refPulse s r dir
  | refTimeout r => exact f.refTimeout s r
  | markEdge m dir => exact f.markEdge s m dir
  | markerMatch o =>
    unfold State.markerMatch
    split <;> exact locksHold_of_paths rfl
  | markerPulseEnd o =>
    unfold State.markerPulseEnd
    split <;> exact locksHold_of_paths rfl
  | logHeadDone port => exact locksHold_of_paths (by rw [s.logHeadDone_readersOnly port])
  | logImageDone port => exact locksHold_of_paths (by rw [s.logImageDone_readersOnly port])
  | emptyImageDone port => exact locksHold_of_paths (by rw [s.emptyImageDone_readersOnly port])
  | interruptedRise port => exact locksHold_of_paths (by rw [s.interruptedRise_readersOnly port])

theorem radioPath_idx {n : Nat} {p : Path} (named : n = p.idx.val) (radio : p ≠ .f) : radioPath n = some p := by
  rw [radioPath, named, Path.ofIndex_idx]
  cases p with
  | f => exact absurd rfl radio
  | _ => rfl

theorem flagOfCode_le {n : Nat} (low : n ≤ 1) : ∃ b, flagOfCode n = some b := by
  interval_cases n
  · exact ⟨false, rfl⟩
  · exact ⟨true, rfl⟩

theorem State.lockBinds_supervisor {s : State} {p : Path} (locked : (s.entry p).locked = true) :
    s.lockBinds .supervisor p = true := by
  rw [State.lockBinds, locked]
  rfl

/-- Settles O30: the three refusals; and by `State.LocksHold`, which every row and every action without the OPERATOR's right
keeps. -/
theorem locksBindSupervisor : Obligations.LocksBindSupervisor := by
  refine ⟨fun s port p b bank ready role locked named => ?_, fun i s t p locked run noReset other => ?_⟩
  · have right : Role.supervises (s.port port).role = true := by rw [role]; rfl
    have bound : (s.beginTransaction port).lockBinds .supervisor p = true := State.lockBinds_supervisor locked
    have here : Path.ofIndex b.toNat = some p := by rw [named, Path.ofIndex_idx]
    have refused {α : Type} (a : α) (take : α → State → Except ResultCode State)
        (answer : take a (s.beginTransaction port) = .error .locked) :
        (.next (s.command port (some a) Role.supervises take) : Host.Outcome State Fault Refusal)
          = .next (s.answered port .locked) := congrArg _ (s.command_refused port a _ take .locked ready right answer)
    refine ⟨refused b.toNat (fun index t => t.enablePath (t.port port).role index) ?_,
      refused b.toNat (fun index t => t.disablePath (t.port port).role index) ?_, fun radio low =>
      refused (b.toNat, bank.toNat) (fun a t => t.selectBank (t.port port).role a.1 a.2) ?_⟩
    · simp [State.enablePath, role, here, bound]
    · simp [State.disablePath, role, here, bound]
    · obtain ⟨bankOne, code⟩ := flagOfCode_le low
      simp [State.selectBank, role, radioPath_idx named radio, code, bound]
  · rcases exec_cases_noPinReset noReset run with ⟨-, occurs⟩ | ⟨port, args, command, u, g, takes, -, rfl⟩
    · exact State.locksHold_of_occurs occurs p locked
    · exact State.locksHold_of_acts takes.acts (other port args command) p locked

end Sys2Proof.Machine

/-! Where the fields of the read responses and of the record images stand (O12). A response is a list of little-endian fields
of fixed widths, so a field at an offset computes; what is left of each statement is how one field is written. -/

namespace Sys2Proof.Machine

/-! ## One field -/

theorem flag_eq (b : Bool) : flag b = [if b then 1 else 0] := by cases b <;> rfl

theorem flag_isSome {α : Type} (v : Option α) [Decidable (v = none)] : flag v.isSome = [if v = none then 0 else 1] := by
  cases v <;> simp [flag_eq]

theorem leBytesOpt_eight (v : Option Nat) :
    leBytesOpt 8 v = match v with | none => List.replicate 8 0xFF#8 | some n => leBytes 8 n := by
  cases v <;> rfl

theorem leBytesOpt_four (v : Option Nat) :
    leBytesOpt 4 v = match v with | none => List.replicate 4 0xFF#8 | some n => leBytes 4 n := by
  cases v <;> rfl

theorem leBytesOpt_one (v : Option Nat) :
    leBytesOpt 1 v = match v with | none => List.replicate 1 0xFF#8 | some n => leBytes 1 n := by
  cases v <;> rfl

theorem stateByte_eq (v : Option LocalState) :
    byte ((v.map LocalState.code).getD 7) = match v with | none => [7#8] | some x => [BitVec.ofNat 8 x.code] := by
  cases v <;> rfl

theorem qualityByte_eq (v : Option Quality) :
    byte ((v.map Quality.code).getD 7) = match v with | none => [7#8] | some x => [BitVec.ofNat 8 x.code] := by
  cases v <;> rfl

theorem leBytesInt_one (v : Int) : leBytesInt 1 v = [BitVec.ofInt 8 v] := by
  have same : BitVec.ofNat 8 (v % 256).toNat = BitVec.ofInt 8 v := by
    apply BitVec.eq_of_toNat_eq
    rw [BitVec.toNat_ofNat, BitVec.toNat_ofInt]
    omega
  exact congrArg (fun b => [b]) same

theorem leNat_leBytesInt (k : Nat) (v : Int) : leNat (leBytesInt k v) = (v % (256 ^ k : Nat)).toNat := by
  rw [leBytesInt, leNat_leBytes, Nat.mod_eq_of_lt]
  have := Int.emod_lt_of_pos v (b := ((256 ^ k : Nat) : Int)) (by positivity)
  have := Int.emod_nonneg v (b := ((256 ^ k : Nat) : Int)) (by positivity)
  omega

theorem toInt_leBytesInt_one {v : Int} (low : -128 ≤ v) (high : v ≤ 127) : (BitVec.ofNat 8 (leNat (leBytesInt 1 v))).toInt = v := by
  rw [leNat_leBytesInt, BitVec.toInt_eq_toNat_cond, BitVec.toNat_ofNat]
  split <;> omega

theorem toInt_leBytesInt_four {v : Int} (low : -2147483648 ≤ v) (high : v ≤ 2147483647) :
    (BitVec.ofNat 32 (leNat (leBytesInt 4 v))).toInt = v := by
  rw [leNat_leBytesInt, BitVec.toInt_eq_toNat_cond, BitVec.toNat_ofNat]
  split <;> omega

theorem marginBytes_eq (m : Option Int) :
    marginBytes m = match m with | none => [0#8, 0#8] | some v => [BitVec.ofInt 8 v, 1#8] := by
  cases m with
  | none => rfl
  | some v =>
    rw [marginBytes, Option.getD_some, leBytesInt_one]
    rfl

theorem silenceBytes_eq (x : SilenceTimer) :
    byte x.code ++ leBytesOpt 8 x.deadline = match x with
      | .stopped => 0 :: List.replicate 8 0xFF#8
      | .expired => 1 :: List.replicate 8 0xFF#8
      | .running d => 2 :: leBytes 8 d := by
  cases x <;> rfl

theorem kindByte_eq (p : Path) : byte (Path.kindCode p) = [if p = .f then 1 else 0] := by cases p <;> rfl

theorem byte_length (n : Nat) : (byte n).length = 1 := leBytes_length 1 n
theorem flag_length (b : Bool) : (flag b).length = 1 := leBytes_length 1 _
theorem leBytesInt_length (k : Nat) (v : Int) : (leBytesInt k v).length = k := leBytes_length k _
theorem leBytesOpt_length (k : Nat) (v : Option Nat) : (leBytesOpt k v).length = k := leBytes_length k _
theorem marginBytes_length (m : Option Int) : (marginBytes m).length = 2 := by
  rw [marginBytes, List.length_append, leBytesInt_length, flag_length]

/-! ## Fields in a row -/

/-- A field of a row of fields, at the sum of the widths before it. -/
theorem field_at {fields : List (List Byte)} {widths : List Nat} (sized : fields.map List.length = widths) (k : Nat)
    {offset width : Nat} {field : List Byte} (here : fields[k]? = some field := by rfl)
    (place : (widths.take k).sum = offset := by rfl) (wide : widths[k]? = some width := by rfl) :
    (fields.flatten.drop offset).take width = field := by
  induction fields generalizing widths k offset with
  | nil => cases here
  | cons first rest ih =>
    subst sized
    cases k with
    | zero =>
      obtain rfl : 0 = offset := place
      obtain rfl : first = field := Option.some.inj here
      obtain rfl : first.length = width := Option.some.inj wide
      exact List.take_left
    | succ k =>
      obtain rfl : first.length + ((rest.map List.length).take k).sum = offset := place
      rw [List.flatten_cons, ← List.drop_drop, List.drop_left]
      exact ih rfl k here rfl wide

theorem flatten_length {fields : List (List Byte)} {widths : List Nat} (sized : fields.map List.length = widths) :
    fields.flatten.length = widths.sum := by
  rw [List.length_flatten, sized]

/-- The last field is what stands from its offset on. -/
theorem last_field {fields : List (List Byte)} {widths : List Nat} (sized : fields.map List.length = widths) (k : Nat)
    {offset width : Nat} {field : List Byte} (here : fields[k]? = some field := by rfl)
    (place : (widths.take k).sum = offset := by rfl) (wide : widths[k]? = some width := by rfl)
    (last : widths.sum = offset + width := by rfl) : fields.flatten.drop offset = field := by
  have length : (fields.flatten.drop offset).length = width := by
    rw [List.length_drop, flatten_length sized, last]
    omega
  rw [← field_at sized k here place wide, List.take_of_length_le length.le]

/-! ## READ PATH -/

/-- The fields of READ PATH, one list of bytes each. -/
def State.pathFields (s : State) (p : Path) : List (List Byte) :=
  let e := s.entry p
  [byte (Path.kindCode p) ++ byte e.state.code ++ byte e.reason.code, leBytes 8 e.entered,
   byte ((e.farState.map LocalState.code).getD 7), byte ((e.farQuality.map Quality.code).getD 7), marginBytes (e.marginOf p),
   leBytes 8 e.reportTime, flag e.stale,
   leBytesInt 1 e.bank0.k, leBytesInt 1 e.bank0.wn, leBytesInt 1 e.bank0.fl, leBytesInt 1 e.bank0.rc, byte e.bank0.s,
   leBytes 2 e.bank0.pmax,
   leBytesInt 1 e.bank1.k, leBytesInt 1 e.bank1.wn, leBytesInt 1 e.bank1.fl, leBytesInt 1 e.bank1.rc, byte e.bank1.s,
   leBytes 2 e.bank1.pmax,
   flag e.bankOne, leBytes 4 e.silenceTimeout, leBytes 2 e.windowLength, leBytes 2 e.errorLimit, leBytes 2 e.recoverHold,
   leBytes 2 e.reportTimeout, leBytesOpt 8 (e.window.map ErrorWindow.start), leBytesOpt 4 (e.window.map ErrorWindow.count),
   leBytesOpt 8 e.holdDeadline, leBytesOpt 4 e.delay, byte e.weight, byte e.lossWeight, leBytes 2 e.decayInterval,
   leBytes 8 e.decayDeadline, leBytes 4 e.score, leBytes 4 e.effDelay, flag e.locked,
   leBytes 4 e.stats.rxValid, leBytes 4 e.stats.checkErrors, leBytes 4 e.stats.crossed, leBytes 4 e.stats.discardedDisabled,
   leBytes 4 e.stats.wins, leBytes 4 e.stats.copies, leBytes 4 e.stats.lagMin, leBytes 4 e.stats.lagMax, leBytes 4 e.stats.late,
   leBytes 4 e.stats.txFrames, leBytes 4 e.stats.txDrops, leBytes 4 e.stats.flushDrops, leBytes 4 e.stats.probesSent,
   leBytes 4 e.stats.probesValid, leBytes 4 e.stats.probesLost, leBytes 4 e.stats.probesInvalid,
   byte (s.receiver p).silence.code ++ leBytesOpt 8 (s.receiver p).silence.deadline, leBytesOpt 8 e.reportDeadline,
   flag (s.eligible p) ++ flag (s.promotable p), leBytes 4 (s.transmitter p).queue.length]

def pathWidths : List Nat :=
  [3, 8, 1, 1, 2, 8, 1, 1, 1, 1, 1, 1, 2, 1, 1, 1, 1, 1, 2, 1, 4, 2, 2, 2, 2, 8, 4, 8, 4, 1, 1, 2, 8, 4, 4, 1, 4, 4, 4, 4, 4, 4, 4,
   4, 4, 4, 4, 4, 4, 4, 4, 4, 9, 8, 2, 4]

theorem State.pathBytes_fields (s : State) (p : Path) : s.pathBytes p = (s.pathFields p).flatten := by
  unfold State.pathBytes PathEntry.bytes State.pathFields
  dsimp only
  generalize s.entry p = e
  simp only [Bank.bytes, Stats.bytes, List.flatMap_cons, List.flatMap_nil,
    List.flatten_cons, List.flatten_nil, List.append_assoc, List.append_nil]

theorem State.pathFields_sized (s : State) (p : Path) : (s.pathFields p).map List.length = pathWidths := by
  simp only [State.pathFields, List.map_cons, List.map_nil, List.length_append, leBytes_length, byte_length, flag_length,
    leBytesInt_length, leBytesOpt_length, marginBytes_length]
  rfl

/-! ## READ STREAM -/

/-- The fields of READ STREAM. -/
def streamFields (x : RxStream) (y : TxStream) (malformed : Nat) : List (List Byte) :=
  [flag x.enabled, byte x.windowCode, leBytes 4 x.window, flag x.ordered, leBytes 2 x.holdTime, byte x.resyncCode,
   leBytes 4 x.resyncDistance, flag x.records ++ flag x.synced, leBytes 4 x.base.toNat, leBytes 4 x.front.toNat,
   leBytes 4 x.release.toNat, leBytesOpt 8 x.holdDeadline, leBytes 4 (x.slots.countP Slot.isEmpty),
   leBytes 4 (x.slots.countP Slot.isHeld), leBytes 4 (x.slots.countP Slot.isDone), leBytes 4 (x.slots.countP Slot.isSkipped),
   leBytes 4 x.accepted, leBytes 4 x.duplicates, leBytes 4 x.late, leBytes 4 x.gaps, leBytes 4 x.resyncs, leBytes 4 x.rejected,
   leBytes 4 x.overflow, flag y.enabled, leBytes 4 y.next.toNat, leBytes 4 y.dispatched, leBytes 4 y.rejected,
   leBytes 4 (satAdd max32 y.dropsNoPath y.dropsFull), leBytes 4 y.dropsNoPath, leBytes 4 y.dropsFull, leBytes 4 malformed]

def streamWidths : List Nat :=
  [1, 1, 4, 1, 2, 1, 4, 2, 4, 4, 4, 8, 4, 4, 4, 4, 4, 4, 4, 4, 4, 4, 4, 1, 4, 4, 4, 4, 4, 4, 4]

theorem streamBytes_fields (x : RxStream) (y : TxStream) (malformed : Nat) :
    x.bytes ++ y.bytes malformed = (streamFields x y malformed).flatten := by
  unfold streamFields RxStream.bytes TxStream.bytes
  simp only [List.flatMap_cons, List.flatMap_nil, List.flatten_cons, List.flatten_nil, List.append_assoc, List.append_nil]

theorem streamFields_sized (x : RxStream) (y : TxStream) (malformed : Nat) :
    (streamFields x y malformed).map List.length = streamWidths := by
  simp only [streamFields, List.map_cons, List.map_nil, List.length_append, leBytes_length, byte_length, flag_length,
    leBytesOpt_length]
  rfl

/-! ## READ TIME -/

/-- The fields of a marker output. -/
def Marker.fields (m : Marker) : List (List Byte) :=
  [byte m.action.code ++ flag m.armed, m.matchAt.bytes, leBytes 4 m.period, leBytes 2 m.width, flag m.late, leBytes 4 m.skipped]

/-- The fields of READ TIME. -/
def TimeUnit.fields (t : TimeUnit) : List (List Byte) :=
  [leBytes 8 t.mono ++ t.tod.bytes, byte t.quality.code ++ byte t.lockCount, leBytesInt 4 t.f, leBytesInt 4 t.ph,
   leBytesInt 4 t.rate, flag t.discipline, leBytes 4 t.ts, leBytes 2 t.tl, byte t.ki, leBytesOpt 1 (t.active.map Ref.code)]
  ++ [t.refs[0].bytes, t.refs[1].bytes, t.channels[0].configBytes, t.channels[1].configBytes, t.channels[2].configBytes,
    t.channels[3].configBytes] ++ t.markers[0].fields ++ t.markers[1].fields

def timeWidths : List Nat := [16, 2, 4, 4, 4, 1, 4, 2, 1, 1, 2, 2, 4, 4, 4, 4, 2, 8, 4, 2, 1, 4, 2, 8, 4, 2, 1, 4]

theorem Vector.toList_two {α : Type} (v : Vector α 2) : v.toList = [v[0], v[1]] := by
  obtain ⟨⟨l⟩, size⟩ := v
  match l, size with
  | [_, _], _ => rfl

theorem Vector.toList_four {α : Type} (v : Vector α 4) : v.toList = [v[0], v[1], v[2], v[3]] := by
  obtain ⟨⟨l⟩, size⟩ := v
  match l, size with
  | [_, _, _, _], _ => rfl

theorem TimeUnit.bytes_fields (t : TimeUnit) : t.bytes = t.fields.flatten := by
  unfold TimeUnit.bytes TimeUnit.fields Marker.bytes Marker.fields
  simp only [Vector.toList_two, Vector.toList_four, List.flatMap_cons, List.flatMap_nil,
    List.flatten_append, List.flatten_cons, List.flatten_nil, List.append_assoc, List.append_nil]

theorem TimeUnit.fields_sized (t : TimeUnit) : t.fields.map List.length = timeWidths := by
  simp only [TimeUnit.fields, Marker.fields, RefState.bytes, CaptureState.configBytes, Tod.bytes,
    List.map_append, List.map_cons, List.map_nil, List.length_append, leBytes_length, byte_length,
    flag_length, leBytesInt_length, leBytesOpt_length]
  rfl

/-! ## READ SWEEP -/

/-- The fields of READ SWEEP. -/
def Sounding.fields (x : Sounding) : List (List Byte) :=
  [byte x.state.code ++ leBytesOpt 1 (x.reason.map SuspendReason.code), leBytesOpt 8 x.settleDeadline, [x.tag],
   byte x.pathSet.toNat, byte x.remaining.toNat, byte x.countCode, leBytes 2 x.spacing, leBytes 2 x.timeout, leBytes 2 x.settle,
   byte (pathCode x.current), byte x.probeIndex, flag x.pendingProbe.isSome,
   leBytesOpt 1 (x.outstanding.map Outstanding.index), leBytesOpt 8 (x.outstanding.map Outstanding.t1),
   leBytesOpt 8 (x.outstanding.map Outstanding.deadline), leBytesOpt 4 x.minimum, leBytes 4 x.valid, leBytes 4 x.lost,
   leBytesOpt 8 x.lastT1, leBytes 4 x.stale]

def sweepWidths : List Nat := [2, 8, 1, 1, 1, 1, 2, 2, 2, 1, 1, 1, 1, 8, 8, 4, 4, 4, 8, 4]

theorem Sounding.bytes_fields (x : Sounding) : x.bytes = x.fields.flatten := by
  unfold Sounding.bytes Sounding.fields
  simp only [List.flatten_cons, List.flatten_nil, List.append_assoc, List.append_nil]

theorem Sounding.fields_sized (x : Sounding) : x.fields.map List.length = sweepWidths := by
  simp only [Sounding.fields, List.map_cons, List.map_nil, List.length_append, leBytes_length, byte_length, flag_length,
    leBytesOpt_length, List.length_cons, List.length_nil]
  rfl

/-! ## READ SELECTION -/

/-- The fields of READ SELECTION. -/
def State.selectionFields (s : State) : List (List Byte) :=
  let x := s.selector
  [byte (pathCode x.primary) ++ byte x.dispatchSet.toNat ++ byte (pathCode (x.guard.map Guard.path)),
   leBytesOpt 8 (x.guard.map Guard.deadline),
   byte (pathCode x.pin) ++ leBytes 2 x.hysteresis ++ byte x.widthCode ++ flag x.shadow ++ leBytes 2 x.guardTime,
   x.rank.flatMap (fun p => byte p.code),
   byte (pathCode (s.bestPromotable x.rank)) ++ byte (pathCode (s.bestEligible x.rank))]

theorem State.selectionBytes_fields (s : State) : s.selectionBytes = s.selectionFields.flatten := by
  unfold State.selectionBytes State.selectionFields
  simp only [List.flatten_cons, List.flatten_nil, List.append_assoc, List.append_nil]

theorem State.selectionFields_sized (s : State) (five : s.selector.rank.length = 5) :
    s.selectionFields.map List.length = [3, 8, 7, 5, 2] := by
  simp only [State.selectionFields, List.map_cons, List.map_nil, List.length_append, leBytes_length, byte_length, flag_length,
    leBytesOpt_length, List.length_flatMap, List.map_const', List.sum_replicate, five]
  rfl

end Sys2Proof.Machine

/-! The record images, and the fields of every response at their places (O12). -/

namespace Sys2Proof.Machine

/-! ## Record images (R174) -/

theorem Quality.code_le (q : Quality) : q.code ≤ 4 := by cases q <;> decide
theorem RecordBody.kindCode_le (b : RecordBody) : b.kindCode ≤ 9 := by cases b <;> simp [RecordBody.kindCode]

/-- An image is its header, the fields of its kind, and the zero bytes that fill it. -/
def LogRecord.imageFields (r : LogRecord) (fields : List (List Byte)) : List (List Byte) :=
  [leBytes 4 r.serial.toNat, leBytes 1 (r.body.kindCode + 16 * r.quality.code), leBytes 4 r.tod.sec.toNat, leBytes 4 r.tod.ns]
    ++ fields ++ [List.replicate (19 - fields.flatten.length) 0#8]

section
variable {r : LogRecord} {fields : List (List Byte)} {widths : List Nat}

theorem LogRecord.image_eq (written : r.body.bytes = fields.flatten) : r.image = (r.imageFields fields).flatten := by
  unfold LogRecord.image imageBytes LogRecord.imageFields Tod.bytes
  rw [written]
  simp only [List.flatten_append, List.flatten_cons, List.flatten_nil, List.append_assoc, List.append_nil]
  rfl

theorem LogRecord.imageFields_sized (sized : fields.map List.length = widths) :
    (r.imageFields fields).map List.length = [4, 1, 4, 4] ++ widths ++ [19 - widths.sum] := by
  subst sized
  simp [LogRecord.imageFields, leBytes_length]

/-- A field of an image. -/
theorem LogRecord.image_at (written : r.body.bytes = fields.flatten) (sized : fields.map List.length = widths) (k : Nat)
    {offset width : Nat} {field : List Byte} (here : (r.imageFields fields)[k]? = some field := by rfl)
    (place : (([4, 1, 4, 4] ++ widths ++ [19 - widths.sum]).take k).sum = offset := by rfl)
    (wide : ([4, 1, 4, 4] ++ widths ++ [19 - widths.sum])[k]? = some width := by rfl) :
    (r.image.drop offset).take width = field := by
  rw [LogRecord.image_eq written]
  exact field_at (LogRecord.imageFields_sized sized) k here place wide

end

/-- The fields of a record's kind. -/
def RecordBody.fields : RecordBody → List (List Byte)
  | .delivery r =>
    [leBytes 1 (r.stream.val + 16 * r.path.code),
     leBytes 1 (bit01 r.held + 2 * bit01 r.dropped + 4 * bit01 r.fromIneligible + 8 * bit01 r.oneWay.isSome
       + 16 * bit01 r.holdDelay.isSome + 32 * r.arrivalQuality.code),
     leBytes 4 r.seq.toNat, (match r.arrivalOffset with | some d => leBytesInt 1 d | none => [0x80#8]),
     leBytes 4 r.arrivalNs, leBytesInt 4 (r.oneWay.getD 0), leBytes 4 (r.holdDelay.getD 0)]
  | .gap stream first count cause => [leBytes 1 stream.val, leBytes 1 cause.code, leBytes 4 first.toNat, leBytes 4 count]
  | .resync stream oldFront cause newSeq =>
    [leBytes 1 stream.val, leBytes 1 cause.code, leBytes 1 (bit01 newSeq.isSome), leBytes 4 oldFront.toNat,
     leBytes 4 (newSeq.getD 0).toNat]
  | .state path old new reason margin =>
    [leBytes 1 path.code, leBytes 1 old.code, leBytes 1 new.code, leBytes 1 reason.code, leBytesInt 1 (margin.getD 0),
     leBytes 1 (bit01 margin.isSome)]
  | .primary old new kind eOld eNew =>
    [leBytes 1 (pathCode old), leBytes 1 (pathCode new), leBytes 1 kind.code, leBytesOpt 4 eOld, leBytesOpt 4 eNew]
  | .sound path result valid lost minimum delay held =>
    [leBytes 1 path.code, leBytes 1 result.code, leBytes 1 valid, leBytes 1 lost, leBytes 1 (bit01 held), leBytesOpt 4 minimum,
     leBytesOpt 4 delay]
  | .time event offset => [leBytes 1 event.code, leBytesInt 4 offset]
  | .mark channel value =>
    leBytes 1 channel.code :: leBytes 1 value.source.code
      :: match value with | .tod t => [leBytes 4 t.sec.toNat, leBytes 4 t.ns] | .mono n => [leBytes 8 n]
  | .reset => []

theorem RecordBody.bytes_fields (b : RecordBody) : b.bytes = b.fields.flatten := by
  cases b with
  | delivery d =>
    simp only [RecordBody.bytes, RecordBody.fields, List.flatten_cons, List.flatten_nil, List.append_assoc, List.append_nil]
    rfl
  | mark c v =>
    cases v <;> simp only [RecordBody.bytes, RecordBody.fields, CaptureStamp.bytes, Tod.bytes, List.flatten_cons,
      List.flatten_nil, List.append_assoc, List.append_nil]
  | _ => simp only [RecordBody.bytes, RecordBody.fields, List.flatten_cons, List.flatten_nil, List.append_assoc, List.append_nil]

/-- The value of a field of an image, of a record of a known kind. -/
theorem LogRecord.read_at {r : LogRecord} {b : RecordBody} {widths : List Nat} (kind : r.body = b)
    (sized : b.fields.map List.length = widths) (k : Nat) {offset width : Nat} {field : List Byte}
    (here : (r.imageFields b.fields)[k]? = some field := by rfl)
    (place : (([4, 1, 4, 4] ++ widths ++ [19 - widths.sum]).take k).sum = offset := by rfl)
    (wide : ([4, 1, 4, 4] ++ widths ++ [19 - widths.sum])[k]? = some width := by rfl) :
    leNat ((r.image.drop offset).take width) = leNat field :=
  congrArg leNat (LogRecord.image_at (by rw [kind, b.bytes_fields]) sized k here place wide)

theorem leNat_one {n m : Nat} (same : n = m) (range : m < 256) : leNat (leBytes 1 n) = m := by
  rw [same, leNat_leBytes_one range]

theorem leNat_eight {v : Nat} (range : v < 18446744073709551616) : leNat (leBytes 8 v) = v := by
  rw [leNat_leBytes]
  exact Nat.mod_eq_of_lt range

theorem leNat_leBytesOpt_four {v : Option Nat} (range : v.getD 4294967295 ≤ 4294967295) :
    leNat (leBytesOpt 4 v) = v.getD 4294967295 := leNat_leBytes_four (Nat.lt_succ_of_le range)

theorem mul_bit01 (k : Nat) (b : Bool) : k * bit01 b = if b then k else 0 := by cases b <;> simp [bit01]

theorem mul_bit01_isSome {α : Type} (k : Nat) (v : Option α) [Decidable (v = none)] :
    k * bit01 v.isSome = if v = none then 0 else k := by
  cases v <;> simp [bit01]

theorem bit01_le (b : Bool) : bit01 b ≤ 1 := by cases b <;> decide
theorem Path.code_le (p : Path) : p.code ≤ 4 := Nat.le_of_lt_succ p.idx.isLt
theorem pathCode_le (p : Option Path) : pathCode p ≤ 7 := by
  cases p with
  | none => exact le_rfl
  | some p => exact (Path.code_le p).trans (by decide)
theorem pathCode_eq (p : Option Path) : pathCode p = match p with | none => 7 | some q => q.idx.val := by cases p <;> rfl

/-! ## The kinds of image -/

/-- The value of the bytes of an image at an offset. -/
def LogRecord.valueAt (r : LogRecord) (offset width : Nat) : Nat := leNat ((r.image.drop offset).take width)

section
variable {r : LogRecord}

theorem LogRecord.image_header (r : LogRecord) : r.image.length = 32 ∧ r.valueAt 0 4 = r.serial.toNat
    ∧ r.valueAt 5 4 = r.tod.sec.toNat ∧ (r.tod.ns < 4294967296 → r.valueAt 9 4 = r.tod.ns)
    ∧ r.valueAt 4 1 = r.body.kindCode + 16 * r.quality.code := by
  have kind := r.body.kindCode_le
  have quality := r.quality.code_le
  have body : ∀ b : RecordBody, (b.fields.map List.length).sum ≤ 19 := by
    intro b
    cases b with
    | delivery d =>
      simp only [RecordBody.fields, List.map_cons, List.map_nil, leBytes_length, leBytesInt_length]
      cases d.arrivalOffset <;> exact Nat.le_of_ble_eq_true rfl
    | mark c v => cases v <;> exact Nat.le_of_ble_eq_true rfl
    | _ => exact Nat.le_of_ble_eq_true rfl
  have room := body r.body
  refine ⟨?_, (LogRecord.read_at rfl rfl 0).trans (leNat_leBytes_word _), (LogRecord.read_at rfl rfl 2).trans (leNat_leBytes_word _),
    fun range => (LogRecord.read_at rfl rfl 3).trans (leNat_leBytes_four range),
    (LogRecord.read_at rfl rfl 1).trans (leNat_one rfl (by omega))⟩
  rw [LogRecord.image_eq r.body.bytes_fields, flatten_length (LogRecord.imageFields_sized rfl)]
  simp only [List.sum_append, List.sum_cons, List.sum_nil]
  omega

theorem LogRecord.delivery_placed {d : DeliveryRecord} (kind : r.body = .delivery d) :
    r.valueAt 13 1 = d.stream.val + 16 * d.path.idx.val
      ∧ r.valueAt 14 1 = (if d.held then 1 else 0) + (if d.dropped then 2 else 0) + (if d.fromIneligible then 4 else 0)
          + (if d.oneWay = none then 0 else 8) + (if d.holdDelay = none then 0 else 16) + 32 * d.arrivalQuality.code
      ∧ r.valueAt 15 4 = d.seq.toNat
      ∧ r.valueAt 19 1 = leNat (match d.arrivalOffset with | some d => leBytesInt 1 d | none => [0x80#8])
      ∧ (d.arrivalNs < 4294967296 → r.valueAt 20 4 = d.arrivalNs) ∧ r.valueAt 24 4 = leNat (leBytesInt 4 (d.oneWay.getD 0))
      ∧ r.valueAt 28 4 = leNat (leBytes 4 (d.holdDelay.getD 0)) := by
  have sized : (RecordBody.delivery d).fields.map List.length = [1, 1, 4, 1, 4, 4, 4] := by
    simp only [RecordBody.fields, List.map_cons, List.map_nil, leBytes_length, leBytesInt_length]
    cases d.arrivalOffset <;> rfl
  have flags : bit01 d.held + 2 * bit01 d.dropped + 4 * bit01 d.fromIneligible + 8 * bit01 d.oneWay.isSome
      + 16 * bit01 d.holdDelay.isSome + 32 * d.arrivalQuality.code = (if d.held then 1 else 0) + (if d.dropped then 2 else 0)
        + (if d.fromIneligible then 4 else 0) + (if d.oneWay = none then 0 else 8) + (if d.holdDelay = none then 0 else 16)
        + 32 * d.arrivalQuality.code := by
    rw [mul_bit01 2, mul_bit01 4, mul_bit01_isSome 8, mul_bit01_isSome 16]
    rfl
  have stream := d.stream.isLt
  have path := Path.code_le d.path
  have quality := d.arrivalQuality.code_le
  have held := bit01_le d.held
  have dropped := bit01_le d.dropped
  have ineligible := bit01_le d.fromIneligible
  have timed := bit01_le d.oneWay.isSome
  have waited := bit01_le d.holdDelay.isSome
  have first : d.stream.val + 16 * d.path.code < 256 := by omega
  exact ⟨(LogRecord.read_at kind sized 4).trans (leNat_one rfl first),
    (LogRecord.read_at kind sized 5).trans (leNat_one flags (by omega)), (LogRecord.read_at kind sized 6).trans (leNat_leBytes_word _),
    LogRecord.read_at kind sized 7, fun range => (LogRecord.read_at kind sized 8).trans (leNat_leBytes_four range),
    LogRecord.read_at kind sized 9, LogRecord.read_at kind sized 10⟩

theorem LogRecord.gap_placed {i : StreamId} {first : Seq} {n : Nat} {cause : GapCause} (kind : r.body = .gap i first n cause) :
    r.valueAt 13 1 = i.val ∧ r.valueAt 14 1 = cause.code ∧ r.valueAt 15 4 = first.toNat
      ∧ (n < 4294967296 → r.valueAt 19 4 = n) :=
  ⟨(LogRecord.read_at kind rfl 4).trans (leNat_leBytes_one (i.isLt.trans (by decide))),
    (LogRecord.read_at kind rfl 5).trans (leNat_leBytes_one (by cases cause <;> decide)),
    (LogRecord.read_at kind rfl 6).trans (leNat_leBytes_word _),
    fun range => (LogRecord.read_at kind rfl 7).trans (leNat_leBytes_four range)⟩

theorem LogRecord.resync_placed {i : StreamId} {front : Seq} {cause : ResyncCause} {new : Option Seq}
    (kind : r.body = .resync i front cause new) : r.valueAt 13 1 = i.val ∧ r.valueAt 14 1 = cause.code
      ∧ r.valueAt 15 1 = (if new = none then 0 else 1) ∧ r.valueAt 16 4 = front.toNat ∧ r.valueAt 20 4 = (new.getD 0).toNat :=
  ⟨(LogRecord.read_at kind rfl 4).trans (leNat_leBytes_one (i.isLt.trans (by decide))),
    (LogRecord.read_at kind rfl 5).trans (leNat_leBytes_one (by cases cause <;> decide)),
    (LogRecord.read_at kind rfl 6).trans (leNat_one ((Nat.one_mul _).symm.trans (mul_bit01_isSome 1 new)) (by split <;> decide)),
    (LogRecord.read_at kind rfl 7).trans (leNat_leBytes_word _), (LogRecord.read_at kind rfl 8).trans (leNat_leBytes_word _)⟩

theorem LogRecord.state_placed {p : Path} {old new : LocalState} {reason : Reason} {m : Option Int}
    (kind : r.body = .state p old new reason m) : r.valueAt 13 1 = p.idx.val ∧ r.valueAt 14 1 = old.code
      ∧ r.valueAt 15 1 = new.code ∧ r.valueAt 16 1 = reason.code ∧ (m = none → r.valueAt 17 2 = 0)
      ∧ (∀ v, m = some v → -128 ≤ v → v ≤ 127 → (BitVec.ofNat 8 (r.valueAt 17 1)).toInt = v ∧ r.valueAt 18 1 = 1) := by
  refine ⟨(LogRecord.read_at kind rfl 4).trans (leNat_leBytes_one (Path.code_lt p)),
    (LogRecord.read_at kind rfl 5).trans (leNat_leBytes_one (by cases old <;> decide)),
    (LogRecord.read_at kind rfl 6).trans (leNat_leBytes_one (by cases new <;> decide)),
    (LogRecord.read_at kind rfl 7).trans (leNat_leBytes_one (by cases reason <;> decide)), fun none => ?_, fun v some low high => ?_⟩
  · subst none
    exact congrArg leNat (LogRecord.image_at (r := r) (fields := [leBytes 1 p.code, leBytes 1 old.code, leBytes 1 new.code,
      leBytes 1 reason.code, [0#8, 0#8]]) (by rw [kind]; rfl) rfl 8)
  · subst some
    exact ⟨(congrArg (fun n => (BitVec.ofNat 8 n).toInt) (LogRecord.read_at kind rfl 8)).trans (toInt_leBytesInt_one low high),
      (LogRecord.read_at kind rfl 9).trans (leNat_leBytes_one (v := 1) (by decide))⟩

theorem LogRecord.primary_placed {old new : Option Path} {change : ChangeKind} {eOld eNew : Option Nat}
    (kind : r.body = .primary old new change eOld eNew) : r.valueAt 13 1 = pathCode old ∧ r.valueAt 14 1 = pathCode new
      ∧ r.valueAt 15 1 = change.code ∧ (eOld.getD 4294967295 ≤ 4294967295 → r.valueAt 16 4 = eOld.getD 4294967295)
      ∧ (eNew.getD 4294967295 ≤ 4294967295 → r.valueAt 20 4 = eNew.getD 4294967295) :=
  ⟨(LogRecord.read_at kind rfl 4).trans (leNat_leBytes_one ((pathCode_le old).trans_lt (by decide))),
    (LogRecord.read_at kind rfl 5).trans (leNat_leBytes_one ((pathCode_le new).trans_lt (by decide))),
    (LogRecord.read_at kind rfl 6).trans (leNat_leBytes_one (by cases change <;> decide)),
    fun range => (LogRecord.read_at kind rfl 7).trans (leNat_leBytesOpt_four range),
    fun range => (LogRecord.read_at kind rfl 8).trans (leNat_leBytesOpt_four range)⟩

theorem LogRecord.sound_placed {p : Path} {result : BurstResult} {valid lost : Nat} {minimum delay : Option Nat} {held : Bool}
    (kind : r.body = .sound p result valid lost minimum delay held) : r.valueAt 13 1 = p.idx.val ∧ r.valueAt 14 1 = result.code
      ∧ (valid < 256 → r.valueAt 15 1 = valid) ∧ (lost < 256 → r.valueAt 16 1 = lost)
      ∧ r.valueAt 17 1 = (if held then 1 else 0)
      ∧ (minimum.getD 4294967295 ≤ 4294967295 → r.valueAt 18 4 = minimum.getD 4294967295)
      ∧ (delay.getD 4294967295 ≤ 4294967295 → r.valueAt 22 4 = delay.getD 4294967295) :=
  ⟨(LogRecord.read_at kind rfl 4).trans (leNat_leBytes_one (Path.code_lt p)),
    (LogRecord.read_at kind rfl 5).trans (leNat_leBytes_one (by cases result <;> decide)),
    fun range => (LogRecord.read_at kind rfl 6).trans (leNat_leBytes_one range),
    fun range => (LogRecord.read_at kind rfl 7).trans (leNat_leBytes_one range),
    (LogRecord.read_at kind rfl 8).trans (leNat_leBytes_one ((bit01_le held).trans_lt (by decide))),
    fun range => (LogRecord.read_at kind rfl 9).trans (leNat_leBytesOpt_four range),
    fun range => (LogRecord.read_at kind rfl 10).trans (leNat_leBytesOpt_four range)⟩

theorem LogRecord.time_placed {event : TimeEvent} {offset : Int} (kind : r.body = .time event offset) :
    r.valueAt 13 1 = event.code ∧ r.valueAt 14 4 = leNat (leBytesInt 4 offset) :=
  ⟨(LogRecord.read_at kind rfl 4).trans (leNat_leBytes_one (by cases event <;> decide)), LogRecord.read_at kind rfl 5⟩

theorem LogRecord.markTod_placed {k : Channel} {time : Tod} (kind : r.body = .mark k (.tod time)) : r.valueAt 13 1 = k.idx.val
    ∧ r.valueAt 14 1 = 0 ∧ r.valueAt 15 4 = time.sec.toNat ∧ (time.ns < 4294967296 → r.valueAt 19 4 = time.ns) :=
  ⟨(LogRecord.read_at kind rfl 4).trans (leNat_leBytes_one (k.idx.isLt.trans (by decide))),
    (LogRecord.read_at kind rfl 5).trans (leNat_leBytes_one (v := 0) (by decide)),
    (LogRecord.read_at kind rfl 6).trans (leNat_leBytes_word _),
    fun range => (LogRecord.read_at kind rfl 7).trans (leNat_leBytes_four range)⟩

theorem LogRecord.markMono_placed {k : Channel} {n : Nat} (kind : r.body = .mark k (.mono n)) : r.valueAt 13 1 = k.idx.val
    ∧ r.valueAt 14 1 = 1 ∧ (n < 18446744073709551616 → r.valueAt 15 8 = n) :=
  ⟨(LogRecord.read_at kind rfl 4).trans (leNat_leBytes_one (k.idx.isLt.trans (by decide))),
    (LogRecord.read_at kind rfl 5).trans (leNat_leBytes_one (v := 1) (by decide)),
    fun range => (LogRecord.read_at kind rfl 6).trans (leNat_eight range)⟩

theorem LogRecord.reset_placed (kind : r.body = .reset) : r.image.drop 13 = List.replicate 19 0#8 := by
  rw [LogRecord.image_eq (fields := []) (by rw [kind]; rfl)]
  exact last_field (LogRecord.imageFields_sized rfl) 4

end
theorem activeByte_eq (r : Option Ref) :
    leBytesOpt 1 (r.map Ref.code) = [match r with | none => 0xFF#8 | some .ref0 => 0 | some .ref1 => 1] := by
  cases r with
  | none => rfl
  | some r => cases r <;> rfl

theorem pathByte_eq (p : Option Path) : BitVec.ofNat 8 (pathCode p) = match p with | none => 7 | some q => BitVec.ofNat 8 q.idx.val := by
  cases p <;> rfl

theorem currentByte_eq (p : Option Path) : byte (pathCode p) = [BitVec.ofNat 8 (match p with | none => 7 | some q => q.idx.val)] := by
  cases p <;> rfl

theorem sweepStateBytes_eq (state : SweepState) (reason : Option SuspendReason) :
    byte state.code ++ leBytesOpt 1 (reason.map SuspendReason.code) = [BitVec.ofNat 8 state.code,
      match reason with | none => 0xFF#8 | some .command => 0 | some .fallback => 1] := by
  cases reason with
  | none => rfl
  | some reason => cases reason <;> rfl

theorem configBytes_eq (c : CaptureState) : c.configBytes = [BitVec.ofNat 8 c.edge.code] ++ [BitVec.ofNat 8 c.source.code]
    ++ [if c.log then 1 else 0] ++ [BitVec.ofNat 8 (if c.lost then 3 else c.fifo.length)] := by
  unfold CaptureState.configBytes
  rw [flag_eq]
  rfl

theorem State.bestEligible_eq (s : State) (rank : List Path) :
    s.bestEligible rank = match rank with | q :: _ => if s.eligible q then some q else none | [] => none := by
  cases rank <;> rfl

/-- Settles O12: each response is its fields in a row (`field_at`), and each record image its header and its kind's fields. -/
theorem responseFieldsPlaced : Obligations.ResponseFieldsPlaced := by
  intro s p i
  have path := s.pathFields_sized p
  have stream := streamFields_sized (s.rxStream i) (s.txStream i) s.localPort.malformed
  have time := s.time.fields_sized
  have sweep := s.sounding.fields_sized
  dsimp only
  rw [s.pathBytes_fields p, streamBytes_fields, s.time.bytes_fields, s.sounding.bytes_fields]
  refine ⟨flatten_length path, ?_, field_at path 34, last_field path 55, flatten_length stream, ?_, flatten_length time,
    field_at time 0, flatten_length sweep, last_field sweep 19, ?_, ?_, ?_, ?_, ?_, ?_⟩
  · refine (field_at path 0).trans ?_
    cases p <;> rfl
  · have counted (slots : Slot → Bool) :
        leBytes 4 ((s.rxStream i).slots.countP slots) = leBytes 4 ((s.rxStream i).slots.filter slots).length := by
      rw [List.countP_eq_length_filter]
    exact ⟨(field_at stream 0).trans (flag_eq _), field_at stream 1, field_at stream 2, (field_at stream 3).trans (flag_eq _),
      field_at stream 4, field_at stream 5, field_at stream 6,
      (field_at stream 7).trans (congrArg₂ (· ++ ·) (flag_eq _) (flag_eq _)), field_at stream 8, field_at stream 9,
      field_at stream 10, (field_at stream 11).trans (leBytesOpt_eight _), (field_at stream 12).trans (counted _),
      (field_at stream 13).trans (counted _), (field_at stream 14).trans (counted _), (field_at stream 15).trans (counted _),
      field_at stream 16, field_at stream 17, field_at stream 18, field_at stream 19, field_at stream 20, field_at stream 21,
      field_at stream 22, (field_at stream 23).trans (flag_eq _), field_at stream 24, field_at stream 25, field_at stream 26,
      field_at stream 27, field_at stream 28, field_at stream 29, last_field stream 30⟩
  · exact (field_at sweep 0).trans (sweepStateBytes_eq _ _)
  · exact ⟨field_at path 1, (field_at path 2).trans (stateByte_eq _), (field_at path 3).trans (qualityByte_eq _),
      (field_at path 4).trans (marginBytes_eq _), field_at path 5, (field_at path 6).trans (flag_eq _),
      ⟨field_at path 7, field_at path 8, field_at path 9, field_at path 10, field_at path 11, field_at path 12⟩,
      ⟨field_at path 13, field_at path 14, field_at path 15, field_at path 16, field_at path 17, field_at path 18⟩,
      (field_at path 19).trans (flag_eq _), field_at path 20, field_at path 21, field_at path 22, field_at path 23,
      field_at path 24, (field_at path 25).trans (leBytesOpt_eight _), (field_at path 26).trans (leBytesOpt_four _),
      (field_at path 27).trans (leBytesOpt_eight _), (field_at path 28).trans (leBytesOpt_four _), field_at path 29,
      field_at path 30, field_at path 31, field_at path 32, field_at path 33, (field_at path 35).trans (flag_eq _),
      field_at path 36, field_at path 37, field_at path 38, field_at path 39, field_at path 40, field_at path 41,
      field_at path 42, field_at path 43, field_at path 44, field_at path 45, field_at path 46, field_at path 47,
      field_at path 48, field_at path 49, field_at path 50, field_at path 51, (field_at path 52).trans (silenceBytes_eq _),
      (field_at path 53).trans (leBytesOpt_eight _), (field_at path 54).trans (congrArg₂ (· ++ ·) (flag_eq _) (flag_eq _))⟩
  · refine ⟨field_at time 1, field_at time 2, field_at time 3, field_at time 4, (field_at time 5).trans (flag_eq _),
      field_at time 6, field_at time 7, field_at time 8, (field_at time 9).trans (activeByte_eq _), fun r => ?_, fun k => ?_,
      fun o => ?_⟩
    · cases r with
      | ref0 => exact (field_at time 10).trans (congrArg (· ++ _) (flag_eq _))
      | ref1 => exact (field_at time 11).trans (congrArg (· ++ _) (flag_eq _))
    · cases k with
      | ref0 => exact (field_at time 12).trans (configBytes_eq _)
      | ref1 => exact (field_at time 13).trans (configBytes_eq _)
      | mark0 => exact (field_at time 14).trans (configBytes_eq _)
      | mark1 => exact (field_at time 15).trans (configBytes_eq _)
    · cases o with
      | out0 =>
        exact ⟨(field_at time 16).trans (congrArg (_ ++ ·) (flag_eq _)), field_at time 17, field_at time 18, field_at time 19,
          (field_at time 20).trans (flag_eq _), field_at time 21⟩
      | out1 =>
        exact ⟨(field_at time 22).trans (congrArg (_ ++ ·) (flag_eq _)), field_at time 23, field_at time 24, field_at time 25,
          (field_at time 26).trans (flag_eq _), field_at time 27⟩
  · exact ⟨(field_at sweep 1).trans (leBytesOpt_eight _), field_at sweep 2, field_at sweep 3, field_at sweep 4,
      field_at sweep 5, field_at sweep 6, field_at sweep 7, field_at sweep 8, (field_at sweep 9).trans (currentByte_eq _),
      field_at sweep 10, (field_at sweep 11).trans (flag_isSome _), (field_at sweep 12).trans (leBytesOpt_one _),
      (field_at sweep 13).trans (leBytesOpt_eight _), (field_at sweep 14).trans (leBytesOpt_eight _),
      (field_at sweep 15).trans (leBytesOpt_four _), field_at sweep 16, field_at sweep 17,
      (field_at sweep 18).trans (leBytesOpt_eight _)⟩
  · intro five
    have selection := s.selectionFields_sized five
    rw [s.selectionBytes_fields]
    refine ⟨flatten_length selection, (field_at selection 0).trans ?_, (field_at selection 1).trans ?_,
      (field_at selection 2).trans ?_, (field_at selection 3).trans ?_, (last_field selection 4).trans ?_⟩
    · exact congrArg₂ (fun a b => [a, BitVec.ofNat 8 s.selector.dispatchSet.toNat, b]) (pathByte_eq _) (pathByte_eq _)
    · rw [leBytesOpt_eight]
      cases s.selector.guard <;> rfl
    · rw [flag_eq]
      exact congrArg (fun a => [a] ++ leBytes 2 s.selector.hysteresis ++ _ ++ _ ++ leBytes 2 s.selector.guardTime) (pathByte_eq _)
    · exact List.map_eq_flatMap.symm
    · exact congrArg₂ (fun a b => [a, b]) (pathByte_eq _)
        ((congrArg (fun q => BitVec.ofNat 8 (pathCode q)) (s.bestEligible_eq _)).trans (pathByte_eq _))
  · intro r
    obtain ⟨length, serial, sec, ns, kind⟩ := r.image_header
    have quality := r.quality.code_le
    have kinds := r.body.kindCode_le
    have low : r.valueAt 4 1 / 16 = r.quality.code := by omega
    have high : r.valueAt 4 1 % 16 = r.body.kindCode := by omega
    refine ⟨length, serial, sec, ns, low, high.trans ?_, fun d kind => ?_, fun i first n cause kind => ?_, fun i front cause new kind => ?_,
      fun p old new reason m kind => LogRecord.state_placed kind, fun old new change eOld eNew kind => ?_,
      fun p result valid lost minimum delay held kind => LogRecord.sound_placed kind, fun event offset kind => ?_,
      fun k time kind => LogRecord.markTod_placed kind, fun k n kind => LogRecord.markMono_placed kind, LogRecord.reset_placed⟩
    · cases r.body <;> rfl
    · obtain ⟨stream, flags, seq, offset, arrival, oneWay, hold⟩ := LogRecord.delivery_placed kind
      refine ⟨stream, flags, seq, fun none => ?_, fun v some low high => ?_, arrival, fun none => ?_, fun v some low high => ?_,
        fun none => ?_, fun v some range => ?_⟩
      · rw [none] at offset
        exact offset
      · rw [some] at offset
        exact (congrArg (fun n => (BitVec.ofNat 8 n).toInt) offset).trans (toInt_leBytesInt_one (v := v) (by omega) high)
      · rw [none] at oneWay
        exact oneWay
      · rw [some] at oneWay
        exact (congrArg (fun n => (BitVec.ofNat 32 n).toInt) oneWay).trans (toInt_leBytesInt_four (v := v) (by omega) high)
      · rw [none] at hold
        exact hold
      · rw [some] at hold
        exact hold.trans (leNat_leBytes_four (Nat.lt_succ_of_le range))
    · obtain ⟨stream, code, first, count⟩ := LogRecord.gap_placed kind
      exact ⟨stream, code.trans (by cases cause <;> rfl), first, count⟩
    · obtain ⟨stream, code, rest⟩ := LogRecord.resync_placed kind
      exact ⟨stream, code.trans (by cases cause <;> rfl), rest⟩
    · obtain ⟨before, after, rest⟩ := LogRecord.primary_placed kind
      exact ⟨before.trans (pathCode_eq _), after.trans (pathCode_eq _), rest⟩
    · obtain ⟨code, value⟩ := LogRecord.time_placed kind
      refine ⟨code.trans (by cases event <;> rfl), fun low high => ?_⟩
      exact (congrArg (fun n => (BitVec.ofNat 32 n).toInt) value).trans (toInt_leBytesInt_four low high)

end Sys2Proof.Machine

/-! Rules of the records and the attention of the Time Unit, and the edges at the marker inputs (O51). -/

namespace Sys2Proof.Machine

/-! ## The record written last -/

theorem State.logWrite_last (s : State) (body : RecordBody) :
    (s.logWrite body).log.records.getLast? = some ⟨s.log.next, s.time.tod, s.time.quality, body⟩ := by
  rw [State.logWrite_records, List.getLast?_append]
  rfl

/-- A record raises no kind but LOG and LOST. -/
theorem State.logWrite_has_other (s : State) (body : RecordBody) (p : Port) {k : AttnKind} (log : k ≠ .log) (lost : k ≠ .lost) :
    AttnSet.has ((s.logWrite body).port p).pending k = AttnSet.has (s.port p).pending k := by
  rw [State.logWrite_has]
  simp [log, lost]

/-! ## Captures (R32) -/

/-- A channel with a new stamp. -/
def State.pushed (s : State) (c : Channel) (t : Stamp) : State :=
  s.modTime (fun u => u.modChannel c (fun x => x.push ((s.channel c).stamp t)))

/-- The channel with its stamp, and CAPTURE raised when it then holds two. -/
def State.captured (s : State) (c : Channel) (t : Stamp) : State :=
  if ((s.pushed c t).channel c).fifo.length = 2 then (s.pushed c t).raiseAll .capture else s.pushed c t

theorem State.capture_eq (s : State) (c : Channel) (t : Stamp) : s.capture c t
    = if (s.channel c).log then (s.captured c t).logWrite (.mark c ((s.channel c).stamp t)) else s.captured c t := rfl

theorem State.captured_pushed (s : State) (c : Channel) (t : Stamp) : (s.pushed c t).logOnly (s.captured c t) := by
  unfold State.captured
  split
  · exact State.raiseAll_logOnly _ _
  · exact State.logOnly_refl _

theorem State.captured_log (s : State) (c : Channel) (t : Stamp) : (s.captured c t).log = s.log := by
  unfold State.captured
  split <;> rfl

/-- Attention and the MARK record are all that a capture does besides the stamp (R32). -/
theorem State.capture_pushed (s : State) (c : Channel) (t : Stamp) : (s.pushed c t).logOnly (s.capture c t) := by
  rw [State.capture_eq]
  split
  · exact State.logOnly_trans (s.captured_pushed c t) (State.logWrite_logOnly _ _)
  · exact s.captured_pushed c t

theorem State.capture_channel (s : State) (c : Channel) (t : Stamp) (k : Channel) :
    (s.capture c t).channel k = if k = c then (s.channel c).push ((s.channel c).stamp t) else s.channel k := by
  rw [(s.capture_pushed c t).1]
  exact s.modChannel_channel c _ k

theorem CaptureState.push_fifo_length {c : CaptureState} (v : CaptureStamp) (short : c.fifo.length ≤ 2) :
    (c.push v).fifo.length = 2 ↔ 1 ≤ c.fifo.length := by
  unfold CaptureState.push
  split <;> simp <;> omega

theorem State.captured_has (s : State) (c : Channel) (t : Stamp) (q : Port) (short : (s.channel c).fifo.length ≤ 2) :
    AttnSet.has ((s.captured c t).port q).pending .capture
      = (AttnSet.has (s.port q).pending .capture || decide (1 ≤ (s.channel c).fifo.length)) := by
  have full := CaptureState.push_fifo_length ((s.channel c).stamp t) short
  have there : (s.pushed c t).channel c = (s.channel c).push ((s.channel c).stamp t) :=
    (s.modChannel_channel c _ c).trans (if_pos rfl)
  unfold State.captured
  rw [there]
  by_cases two : 1 ≤ (s.channel c).fifo.length
  · rw [if_pos (full.mpr two), State.raiseAll_port, PortCtx.raise_has, decide_eq_true two]
    simp
  · rw [if_neg (mt full.mp two), decide_eq_false two, Bool.or_false]
    rfl

/-- CAPTURE is raised exactly when the FIFO then holds two stamps (R32). -/
theorem State.capture_has (s : State) (c : Channel) (t : Stamp) (q : Port) (short : (s.channel c).fifo.length ≤ 2) :
    AttnSet.has ((s.capture c t).port q).pending .capture
      = (AttnSet.has (s.port q).pending .capture || decide (1 ≤ (s.channel c).fifo.length)) := by
  rw [← s.captured_has c t q short, State.capture_eq]
  split
  · exact State.logWrite_has_other _ _ q (by decide) (by decide)
  · rfl

/-- The MARK record of log mode (R32). -/
theorem State.capture_record (s : State) (c : Channel) (t : Stamp) (on : (s.channel c).log = true) :
    (s.capture c t).log.records.getLast? = some ⟨s.log.next, s.time.tod, s.time.quality, .mark c ((s.channel c).stamp t)⟩
      ∧ (s.capture c t).log.next = s.log.next + 1 := by
  rw [State.capture_eq, if_pos on, State.logWrite_last, State.logWrite_next, State.captured_log, (s.captured_pushed c t).1]
  exact ⟨rfl, rfl⟩

theorem State.capture_log (s : State) (c : Channel) (t : Stamp) (off : (s.channel c).log = false) :
    (s.capture c t).log = s.log := by
  rw [State.capture_eq, off]
  exact s.captured_log c t

theorem EdgeSetting.selects_iff (e : EdgeSetting) (dir : EdgeDir) : e.selects dir = true
    ↔ e = .both ∨ (e = .rising ∧ dir = .rising) ∨ (e = .falling ∧ dir = .falling) := by
  cases e <;> cases dir <;> decide

theorem CaptureState.push_eq {c : CaptureState} (v : CaptureStamp) (short : c.fifo.length ≤ 2) :
    c.push v = { c with
      fifo := (if c.fifo.length < 2 then c.fifo else c.fifo.tail) ++ [v], lost := c.lost || decide (c.fifo.length = 2) } := by
  unfold CaptureState.push
  split
  · rename_i room
    simp [room.ne]
  · have two : c.fifo.length = 2 := by omega
    simp [two]

/-- Settles O51: an edge that is selected, outside a soft reset period, is a capture of the moment's stamp. -/
theorem markEdgesCaptured : Obligations.MarkEdgesCaptured := by
  intro s m dir c taken stamp
  have run : exec (.markEdge m dir) s = .next (s.markEdge m dir) := rfl
  have selects : c.edge.selects dir = true ↔ taken := c.edge.selects_iff dir
  refine ⟨fun idle => ?_, fun take ready short => ⟨s.capture m.channel s.stamp, ?_, ?_, fun k other => ?_,
    fun q => s.capture_has _ _ q short, s.capture_record _ _, s.capture_log _ _, ?_, ?_⟩⟩
  · rw [run, State.markEdge, if_neg]
    simp only [Bool.and_eq_true, Bool.not_eq_true', Option.isSome_eq_false_iff, Option.isNone_iff_eq_none]
    rintro ⟨edge, ready⟩
    exact idle.elim (fun not => not (selects.mp edge)) (fun not => not ready)
  · rw [run, State.markEdge, if_pos]
    simp [show (s.channel m.channel).edge.selects dir = true from selects.mpr take, ready]
  · rw [s.capture_channel, if_pos rfl]
    exact CaptureState.push_eq _ short
  · rw [s.capture_channel, if_neg other]
  · exact State.portsRaised_trans (State.portsRaised_of_ports rfl) (s.capture_pushed _ _).2
  · rw [(s.capture_pushed _ _).1]
    rfl

end Sys2Proof.Machine

/-! The marker outputs (O52). -/

namespace Sys2Proof.Machine

theorem State.modMarker_congr (s : State) (o : Out) {g g' : TimeUnit → Marker → Marker}
    (same : g s.time (s.marker o) = g' s.time (s.marker o)) :
    s.modTime (fun t => t.modMarker o (g t)) = s.modTime (fun t => t.modMarker o (g' t)) := by
  have there : g s.time s.time.markers[o.idx] = g' s.time s.time.markers[o.idx] := same
  simp only [State.modTime, TimeUnit.modMarker, there]

theorem State.modMarker_eq (s : State) (o : Out) (g : TimeUnit → Marker → Marker) :
    s.modTime (fun t => t.modMarker o (g t)) = { s with time := s.time.modMarker o (fun _ => g s.time (s.marker o)) } := rfl

theorem State.matchDue_iff (s : State) (o : Out) : s.time.matchDue o = true
    ↔ (s.marker o).armed = true ∧ 0 ≤ todDiff s.time.tod (s.marker o).matchAt := by
  unfold TimeUnit.matchDue Marker.since State.marker
  simp

/-! ## SET MARKER (R34) -/

theorem markerArgs_bytes (o a : Byte) {sec ns period width : Nat} (secs : sec < 4294967296) (nanos : ns < 4294967296)
    (periods : period < 4294967296) (widths : width < 65536) :
    markerArgs ([o, a] ++ leBytes 4 sec ++ leBytes 4 ns ++ leBytes 4 period ++ leBytes 2 width)
      = some ⟨o.toNat, a.toNat, sec, ns, period, width⟩ := by
  have read : markerArgs ([o, a] ++ leBytes 4 sec ++ leBytes 4 ns ++ leBytes 4 period ++ leBytes 2 width)
      = some ⟨o.toNat, a.toNat, leNat (leBytes 4 sec), leNat (leBytes 4 ns), leNat (leBytes 4 period), leNat (leBytes 2 width)⟩ :=
    rfl
  rw [read, leNat_leBytes_four secs, leNat_leBytes_four nanos, leNat_leBytes_four periods, leNat_leBytes_two widths]

theorem Out.ofCode_idx (o : Out) : Out.ofCode o.idx.val = some o := by cases o <;> rfl

theorem Out.ofCode_eq_none {n : Nat} (above : 1 < n) : Out.ofCode n = none := by
  match n, above with
  | _ + 2, _ => rfl

theorem MarkerAction.ofCode_code (a : MarkerAction) : MarkerAction.ofCode a.code = some a := by cases a <;> rfl

theorem MarkerAction.ofCode_eq_none {n : Nat} (above : 3 < n) : MarkerAction.ofCode n = none := by
  match n, above with
  | _ + 4, _ => rfl

theorem MarkerAction.pulses_iff (a : MarkerAction) : a.pulses = true ↔ 2 ≤ a.code := by cases a <;> decide

theorem MarkerAction.code_of_ofCode {n : Nat} {a : MarkerAction} (named : MarkerAction.ofCode n = some a) : a.code = n := by
  unfold MarkerAction.ofCode at named
  split at named <;> cases named <;> rfl

theorem MarkerArgs.pulseOk_iff (a : MarkerArgs) : a.pulseOk = true
    ↔ a.ns < 1000000000 ∧ (a.period = 0 ∨ (1000 ≤ a.period ∧ a.width * 100 < a.period)) ∧ 1 ≤ a.width := by
  unfold MarkerArgs.pulseOk
  simp only [Bool.and_eq_true, Bool.or_eq_true, beq_iff_eq, decide_eq_true_eq]
  omega

theorem State.setMarker_refused (s : State) {a : MarkerArgs}
    (bad : 1 < a.out ∨ 3 < a.action ∨ (2 ≤ a.action ∧ a.pulseOk = false)) : s.setMarker a = .error .argument := by
  unfold State.setMarker
  split
  · rename_i o action out code
    rcases bad with above | above | ⟨pulse, off⟩
    · rw [Out.ofCode_eq_none above] at out
      cases out
    · rw [MarkerAction.ofCode_eq_none above] at code
      cases code
    · rw [if_pos]
      rw [(action.pulses_iff).mpr ((MarkerAction.code_of_ofCode code).symm ▸ pulse), off]
      rfl
  · rfl

theorem State.setMarker_taken (s : State) {a : MarkerArgs} {o : Out} {action : MarkerAction} (out : a.out = o.idx.val)
    (code : a.action = action.code) (fits : a.action < 2 ∨ a.pulseOk = true) :
    s.setMarker a = .ok (s.modTime (fun t => t.modMarker o (fun _ => Marker.settle t.mono t.tod (a.program action)))) := by
  unfold State.setMarker
  rw [out, code, Out.ofCode_idx, MarkerAction.ofCode_code]
  dsimp only
  rw [if_neg]
  rw [Bool.and_eq_true, action.pulses_iff]
  rintro ⟨pulse, off⟩
  rcases fits with low | ok
  · omega
  · rw [ok] at off
    cases off

/-- What a newly programmed output is settled to (R34). -/
theorem Marker.settle_forced {mono : Nat} {tod : Tod} {m : Marker} (unarmed : m.armed = false) : m.settle mono tod = m := by
  unfold Marker.settle
  rw [unarmed]
  rfl

theorem Marker.settle_reached {mono : Nat} {tod : Tod} {m : Marker} (armed : m.armed = true) (reached : 0 ≤ m.since tod) :
    m.settle mono tod = m.fireLate mono (matchesReached m.period (m.since tod)) (matchesReached m.period (m.since tod)) := by
  have some : 1 ≤ matchesReached m.period (m.since tod) := by
    by_contra none
    have := matchesReached_eq_zero.mp (Nat.lt_one_iff.mp (Nat.not_le.mp none))
    omega
  unfold Marker.settle
  rw [armed]
  simp [some]

theorem matchesReached_of_nonneg (period : Nat) {since : Int} (past : 0 ≤ since) :
    matchesReached period since = if period = 0 then 1 else (since / period).toNat + 1 := if_neg (Int.not_lt.mpr past)

/-- A forced output is programmed as it is. -/
theorem MarkerArgs.settled_forced (a : MarkerArgs) {action : MarkerAction} (mono : Nat) (tod : Tod) (forced : action.code < 2) :
    (a.program action).settle mono tod
      = ⟨action, ⟨BitVec.ofNat 32 a.sec, a.ns⟩, a.period, a.width, false, false, 0, none⟩ := by
  have quiet : action.pulses = false := by
    rw [← Bool.not_eq_true, action.pulses_iff]
    omega
  rw [Marker.settle_forced (show (a.program action).armed = false from quiet), MarkerArgs.program, quiet]

/-- A pulse whose match is to come waits for it. -/
theorem MarkerArgs.settled_armed (a : MarkerArgs) {action : MarkerAction} (mono : Nat) (tod : Tod) (pulse : 2 ≤ action.code)
    {since : Int} (is : todDiff tod ⟨BitVec.ofNat 32 a.sec, a.ns⟩ = since) (future : since < 0) : (a.program action).settle mono tod
      = ⟨action, ⟨BitVec.ofNat 32 a.sec, a.ns⟩, a.period, a.width, true, false, 0, none⟩ := by
  rw [Marker.settle_of_not_reached (m := a.program action) (show (a.program action).since tod < 0 from is.trans_lt future), MarkerArgs.program, action.pulses_iff.mpr pulse]

/-- A pulse whose match is past fires late at once. -/
theorem MarkerArgs.settled_late (a : MarkerArgs) {action : MarkerAction} (mono : Nat) (tod : Tod) (pulse : 2 ≤ action.code)
    {since : Int} (is : todDiff tod ⟨BitVec.ofNat 32 a.sec, a.ns⟩ = since) (past : 0 ≤ since) :
    let passed : Nat := if a.period = 0 then 1 else (since / a.period).toNat + 1
    (a.program action).settle mono tod = ⟨action,
      if a.period = 0 then ⟨BitVec.ofNat 32 a.sec, a.ns⟩ else Tod.add ⟨BitVec.ofNat 32 a.sec, a.ns⟩ ((passed * a.period : Nat) : Int),
      a.period, a.width, decide (a.period ≠ 0), true, min 65535 (passed - 1), some (mono + a.width * 100)⟩ := by
  intro passed
  have sinceIs : (a.program action).since tod = since := is
  have reached : matchesReached a.period since = passed := matchesReached_of_nonneg a.period past
  rw [Marker.settle_reached (m := a.program action) (action.pulses_iff.mpr pulse) (by rw [sinceIs]; exact past), sinceIs,
    show matchesReached (a.program action).period since = passed from reached]
  simp only [Marker.fireLate, Marker.fire, MarkerArgs.program, satAdd, max16, Nat.zero_add]
  congr 1
  by_cases zero : a.period = 0 <;> simp [zero]

theorem exec_setMarker (port : Port) (args : List Byte) (s : State) : exec (.setMarker port args) s
    = .next (s.command port (markerArgs args) Role.gates (fun a t => t.setMarker a)) := rfl

/-- Settles O52: a match, the end of a pulse, and the ways a newly programmed output is settled. -/
theorem markerOutputsFire : Obligations.MarkerOutputsFire := by
  refine ⟨fun s o => ?_, fun s port ob ab sec ns period width ready may secs nanos periods widths => ?_⟩
  · intro m reached becomes
    have due : s.time.matchDue o = true ↔ reached := s.matchDue_iff o
    have matched : exec (.markerMatch o) s = .next (s.markerMatch o) := rfl
    have ended : exec (.markerPulseEnd o) s = .next (s.markerPulseEnd o) := rfl
    refine ⟨fun idle => ?_, fun here once => ?_, fun here again => ?_, fun none => ?_, fun d some => ⟨fun early => ?_, fun late => ?_⟩⟩
    · rw [matched, State.markerMatch, if_neg (mt due.mp idle)]
    · rw [matched, State.markerMatch, if_pos (due.mpr here), s.modMarker_eq o (fun t => Marker.takeMatch t.mono)]
      unfold Marker.takeMatch
      rw [if_pos once]
      rfl
    · rw [matched, State.markerMatch, if_pos (due.mpr here), s.modMarker_eq o (fun t => Marker.takeMatch t.mono)]
      unfold Marker.takeMatch
      rw [if_neg again]
      rfl
    · rw [ended, State.markerPulseEnd, show (s.marker o).pulseEnd = _ from none]
      rfl
    · rw [ended, State.markerPulseEnd, show (s.marker o).pulseEnd = _ from some, if_neg]
      exact fun due => absurd (of_decide_eq_true due) (Nat.not_le.mpr early)
    · rw [ended, State.markerPulseEnd, show (s.marker o).pulseEnd = _ from some, if_pos]
      · rfl
      · exact decide_eq_true late
  · intro c fits
    have gates : Role.gates (s.port port).role = true := Role.gates_iff.mpr may
    have run : exec c s = .next (s.command port (some ⟨ob.toNat, ab.toNat, sec, ns, period, width⟩) Role.gates
        (fun a t => t.setMarker a)) := by
      rw [exec_setMarker, markerArgs_bytes ob ab secs nanos periods widths]
    have inRange : fits ↔ MarkerArgs.pulseOk ⟨ob.toNat, ab.toNat, sec, ns, period, width⟩ = true :=
      (MarkerArgs.pulseOk_iff ⟨ob.toNat, ab.toNat, sec, ns, period, width⟩).symm
    refine ⟨fun bad => ?_, ?_⟩
    · rw [run]
      refine congrArg _ (s.command_refused port _ _ _ .argument ready gates (State.setMarker_refused _ ?_))
      rwa [← Bool.not_eq_true, ← inRange]
    · intro o action out code taken target since passed becomes
      have answered : exec c s = .next (becomes (Marker.settle s.mono s.time.tod
          (MarkerArgs.program ⟨ob.toNat, ab.toNat, sec, ns, period, width⟩ action))) := by
        rw [run]
        exact congrArg _ (State.command_answered ready gates
          (g := fun u => u.modTime (fun t => t.modMarker o (fun _ => Marker.settle t.mono t.tod
            (MarkerArgs.program ⟨ob.toNat, ab.toNat, sec, ns, period, width⟩ action))))
          (State.setMarker_taken _ out code (by rwa [← inRange])) fun _ => rfl)
      rw [answered]
      have is : todDiff s.time.tod ⟨BitVec.ofNat 32 sec, ns⟩ = since := rfl
      refine ⟨fun low => ?_, fun pulse future => ?_, fun pulse past => ?_⟩
      · have forced : action.code < 2 := by omega
        rw [MarkerArgs.settled_forced ⟨ob.toNat, ab.toNat, sec, ns, period, width⟩ s.mono s.time.tod forced]
      · have pulses : 2 ≤ action.code := by omega
        rw [MarkerArgs.settled_armed ⟨ob.toNat, ab.toNat, sec, ns, period, width⟩ s.mono s.time.tod pulses is future]
      · have pulses : 2 ≤ action.code := by omega
        rw [MarkerArgs.settled_late ⟨ob.toNat, ab.toNat, sec, ns, period, width⟩ s.mono s.time.tod pulses is past]

end Sys2Proof.Machine

/-! The records that an operation writes, in order: a layer over the Log Unit for statements about which records follow an
input (8.1). -/

namespace Sys2Proof.Machine

/-- What a record shows besides its serial. -/
structure Noted where
  tod : Tod
  quality : Quality
  body : RecordBody

/-- Records of consecutive serials. -/
def recordsFrom : Seq → List Noted → List LogRecord
  | _, [] => []
  | serial, x :: rest => ⟨serial, x.tod, x.quality, x.body⟩ :: recordsFrom (serial + 1) rest

theorem recordsFrom_length (serial : Seq) (l : List Noted) : (recordsFrom serial l).length = l.length := by
  induction l generalizing serial with
  | nil => rfl
  | cons x rest ih => rw [recordsFrom, List.length_cons, ih, List.length_cons]

theorem serial_succ (serial : Seq) (k : Nat) : serial + 1 + BitVec.ofNat 32 k = serial + BitVec.ofNat 32 (k + 1) := by
  bv_omega

theorem recordsFrom_append (serial : Seq) (l l' : List Noted) :
    recordsFrom serial (l ++ l') = recordsFrom serial l ++ recordsFrom (serial + BitVec.ofNat 32 l.length) l' := by
  induction l generalizing serial with
  | nil => simp [recordsFrom]
  | cons x rest ih =>
    have next : serial + 1 + BitVec.ofNat 32 rest.length = serial + BitVec.ofNat 32 (rest.length + 1) := serial_succ serial _
    rw [List.cons_append, recordsFrom, ih, next, recordsFrom, List.cons_append, List.length_cons]

theorem recordsFrom_bodies (serial : Seq) (l : List Noted) : (recordsFrom serial l).map LogRecord.body = l.map Noted.body := by
  induction l generalizing serial with
  | nil => rfl
  | cons x rest ih => rw [recordsFrom, List.map_cons, ih, List.map_cons]

theorem recordsFrom_getElem (serial : Seq) (l : List Noted) (k : Nat) : (recordsFrom serial l)[k]?
    = l[k]?.map (fun x => ⟨serial + BitVec.ofNat 32 k, x.tod, x.quality, x.body⟩) := by
  induction l generalizing serial k with
  | nil => rfl
  | cons x rest ih =>
    cases k with
    | zero => simp [recordsFrom]
    | succ k =>
      have next : serial + 1 + BitVec.ofNat 32 k = serial + BitVec.ofNat 32 (k + 1) := serial_succ serial k
      rw [recordsFrom, List.getElem?_cons_succ, ih, next, List.getElem?_cons_succ]

/-- Between two states the log has taken the records `l`; they stand after the older ones when there is room for them, and
what of the older ones is left stands before them. -/
structure State.Logged (s : State) (l : List Noted) (t : State) : Prop where
  next : t.log.next = s.log.next + BitVec.ofNat 32 l.length
  records : s.log.records.length + l.length ≤ 1024 → t.log.records = s.log.records ++ recordsFrom s.log.next l
  earlier : ∀ k, k + l.length < 1024 → t.log.records.reverse[k + l.length]? = s.log.records.reverse[k]?
  growth : t.log.records.length < 1024 → t.log.records.length = s.log.records.length + l.length

namespace State
variable {s t u : State} {l l' : List Noted}

theorem Logged.of_log (same : t.log = s.log) : s.Logged [] t := by
  refine ⟨?_, fun _ => ?_, fun k _ => ?_, fun _ => ?_⟩
  · rw [same]
    exact (BitVec.add_zero _).symm
  · rw [same]
    exact (List.append_nil _).symm
  · rw [same]
    rfl
  · rw [same]
    rfl

theorem Logged.trans (h : s.Logged l t) (h' : t.Logged l' u) : s.Logged (l ++ l') u := by
  refine ⟨?_, fun room => ?_, fun k room => ?_, fun room => ?_⟩
  · rw [h'.next, h.next, List.length_append, BitVec.ofNat_add, BitVec.add_assoc]
  · rw [List.length_append] at room
    have records := h.records (by omega)
    have length : t.log.records.length = s.log.records.length + l.length := by
      rw [records, List.length_append, recordsFrom_length]
    rw [h'.records (by omega), records, h.next, recordsFrom_append, List.append_assoc]
  · rw [List.length_append] at room ⊢
    rw [← Nat.add_assoc, h'.earlier (k + l.length) (by omega), h.earlier k (by omega)]
  · have grown := h'.growth room
    have before := h.growth (by omega)
    rw [List.length_append]
    omega

/-- An update of other tables, before. -/
theorem Logged.after (h : t.Logged l u) (same : t.log = s.log) : s.Logged l u := (Logged.of_log same).trans h

theorem Logged.before (h : s.Logged l t) (same : u.log = t.log) : s.Logged l u := by
  have joined := h.trans (Logged.of_log same)
  rwa [List.append_nil] at joined

theorem Logged.raiseAll (h : s.Logged l t) (k : AttnKind) : s.Logged l (t.raiseAll k) := h.before rfl

theorem Logged.setResult (h : s.Logged l t) (p : Port) (r : ResultCode) : s.Logged l (t.setResult p r) := h.before rfl

theorem logWrite_logged (s : State) (body : RecordBody) : s.Logged [⟨s.time.tod, s.time.quality, body⟩] (s.logWrite body) := by
  refine ⟨s.logWrite_next body, fun room => ?_, fun k room => ?_, fun room => ?_⟩
  · have notFull : ¬1024 ≤ s.log.records.length := by
      rw [List.length_singleton] at room
      omega
    rw [State.logWrite_records, if_neg notFull]
    rfl
  · rw [List.length_singleton] at room ⊢
    rw [State.logWrite_records, List.reverse_append, List.reverse_singleton, List.singleton_append, List.getElem?_cons_succ]
    split
    · rw [← List.drop_one, List.reverse_drop, List.getElem?_take_of_lt (by omega)]
    · rfl
  · rw [State.logWrite_records, List.length_append, List.length_singleton] at room ⊢
    split
    · rename_i full
      rw [if_pos full, List.length_tail] at room
      omega
    · rfl

theorem Logged.record (h : s.Logged l t) (room : s.log.records.length + l.length ≤ 1024) {k : Nat} {x : Noted} (here : l[k]? = some x) :
    t.log.records[s.log.records.length + k]? = some ⟨s.log.next + BitVec.ofNat 32 k, x.tod, x.quality, x.body⟩ := by
  rw [h.records room, List.getElem?_append_right (Nat.le_add_right _ _), Nat.add_sub_cancel_left, recordsFrom_getElem, here]
  rfl

theorem Logged.first {x : Noted} {rest : List Noted} (h : s.Logged (x :: rest) t)
    (room : s.log.records.length + (x :: rest).length ≤ 1024) :
    t.log.records[s.log.records.length]? = some ⟨s.log.next, x.tod, x.quality, x.body⟩ := by
  have record := h.record room (k := 0) rfl
  rwa [Nat.add_zero, BitVec.add_zero] at record

theorem Logged.written (h : s.Logged l t) (room : s.log.records.length + l.length ≤ 1024) : s.written t = l.map Noted.body := by
  rw [State.written, h.records room, List.drop_left, recordsFrom_bodies]

/-! ## The Time Unit's records -/

/-- The QUALITY record of a change (R21). -/
def qualityNoted (s : State) (old : Quality) (offset : Int) : List Noted :=
  if s.time.quality = old then [] else [⟨s.time.tod, s.time.quality, .time .quality offset⟩]

theorem noteQuality_logOnly (s : State) (old : Quality) (offset : Int) : s.logOnly (s.noteQuality old offset) := by
  unfold State.noteQuality
  split
  · exact s.logOnly_refl
  · exact State.logOnly_trans (s.logWrite_logOnly _) (State.raiseAll_logOnly _ _)

theorem noteQuality_logged (s : State) (old : Quality) (offset : Int) :
    s.Logged (s.qualityNoted old offset) (s.noteQuality old offset) := by
  unfold State.noteQuality qualityNoted
  split
  · exact .of_log rfl
  · exact (s.logWrite_logged _).raiseAll _

theorem noteQuality_same {s : State} {old : Quality} (same : s.time.quality = old) (offset : Int) : s.noteQuality old offset = s :=
  if_pos same

theorem noteQuality_changed {s : State} {old : Quality} (changed : s.time.quality ≠ old) (offset : Int) :
    s.noteQuality old offset = (s.logWrite (.time .quality offset)).raiseAll .time := if_neg changed

theorem raiseAll_has (s : State) (k : AttnKind) (q : Port) : AttnSet.has ((s.raiseAll k).port q).pending k = true := by
  rw [State.raiseAll_port, PortCtx.raise_has, decide_eq_true rfl, Bool.or_true]

/-- Attention once raised stays pending under what only raises more. -/
theorem portsRaised.has (h : s.portsRaised t) {q : Port} {k : AttnKind} (raised : AttnSet.has (s.port q).pending k = true) :
    AttnSet.has (t.port q).pending k = true := by
  obtain ⟨-, kept⟩ := h q
  have bit := congrArg (BitVec.getLsbD · k.bit) kept
  unfold AttnSet.has at *
  by_contra lost
  simp [raised, lost] at bit
  have := BitVec.lt_of_getLsbD raised
  omega

theorem noteQuality_has (s : State) (old : Quality) (offset : Int) (q : Port) 
    (raised : AttnSet.has (s.port q).pending .time = true ∨ s.time.quality ≠ old) :
    AttnSet.has ((s.noteQuality old offset).port q).pending .time = true := by
  by_cases same : s.time.quality = old
  · rw [noteQuality_same same]
    exact raised.resolve_right (not_not.mpr same)
  · rw [noteQuality_changed same]
    exact raiseAll_has _ _ q

theorem noteStep_logOnly (s : State) (old : Quality) (offset qualityOffset : Int) : s.logOnly (s.noteStep old offset qualityOffset) :=
  State.logOnly_trans (State.logOnly_trans (s.logWrite_logOnly _) (State.raiseAll_logOnly _ _)) (noteQuality_logOnly _ _ _)

theorem noteStep_logged (s : State) (old : Quality) (offset qualityOffset : Int) :
    s.Logged (⟨s.time.tod, s.time.quality, .time .step offset⟩ :: s.qualityNoted old qualityOffset)
      (s.noteStep old offset qualityOffset) := by
  have noted := noteQuality_logged ((s.logWrite (.time .step offset)).raiseAll .time) old qualityOffset
  have stamp : ((s.logWrite (.time .step offset)).raiseAll .time).qualityNoted old qualityOffset = s.qualityNoted old qualityOffset := by
    unfold qualityNoted
    rw [((State.logOnly_trans (s.logWrite_logOnly _) (State.raiseAll_logOnly _ _)) : s.logOnly _).1]
  rw [stamp] at noted
  exact ((s.logWrite_logged _).raiseAll _).trans noted

theorem noteStep_has (s : State) (old : Quality) (offset qualityOffset : Int) (q : Port) :
    AttnSet.has ((s.noteStep old offset qualityOffset).port q).pending .time = true :=
  noteQuality_has _ _ _ q (.inl (raiseAll_has _ _ q))

end State
end Sys2Proof.Machine

/-! Setting and stepping TOD (O53). -/

namespace Sys2Proof.Machine

theorem signedLong_bytes {v : Int} (low : -2147483648 ≤ v) (high : v ≤ 2147483647) : signedLong (leBytesInt 4 v) = some v := by
  have read : signedLong (leBytesInt 4 v) = some (BitVec.ofNat 32 (leNat (leBytesInt 4 v))).toInt := rfl
  rw [read, toInt_leBytesInt_four low high]

theorem longPair_bytes {a b : Nat} (first : a < 4294967296) (second : b < 4294967296) :
    longPair (leBytes 4 a ++ leBytes 4 b) = some (a, b) := by
  have read : longPair (leBytes 4 a ++ leBytes 4 b) = some (leNat (leBytes 4 a), leNat (leBytes 4 b)) := rfl
  rw [read, leNat_leBytes_four first, leNat_leBytes_four second]

/-! ## The marker outputs under a step (R36) -/

theorem Marker.step_idle {mono : Nat} {before : Tod} {d : Int} {m : Marker} (idle : m.armed = false ∨ d ≤ 0
    ∨ matchesReached m.period (m.since before + d) - matchesReached m.period (m.since before) = 0) : m.step mono before d = m := by
  rcases m.step_cases mono before d with same | ⟨armed, forward, passed, -⟩
  · exact same
  · rcases idle with off | back | none
    · rw [armed] at off
      cases off
    · omega
    · omega

theorem Marker.step_fired {mono : Nat} {before : Tod} {d : Int} {m : Marker} (armed : m.armed = true) (forward : 0 < d)
    (passed : 1 ≤ matchesReached m.period (m.since before + d) - matchesReached m.period (m.since before)) :
    m.step mono before d = { m with
      armed := decide (m.period ≠ 0), late := true
      skipped := min 65535 (m.skipped
        + (matchesReached m.period (m.since before + d) - matchesReached m.period (m.since before) - 1))
      pulseEnd := some (mono + m.width * 100)
      matchAt := if m.period = 0 then m.matchAt
        else m.matchAt.add ((matchesReached m.period (m.since before + d) * m.period : Nat) : Int) } := by
  have fires : m.step mono before d = m.fireLate mono
      (matchesReached m.period (m.since before + d) - matchesReached m.period (m.since before))
      (matchesReached m.period (m.since before + d)) := by
    unfold Marker.step
    simp [armed, forward, passed]
  rw [fires]
  simp only [Marker.fireLate, Marker.fire, satAdd, max16]
  congr 1
  by_cases zero : m.period = 0 <;> simp [zero]

/-- A clock whose outputs took a step has stepped outputs in the sense of the statements. -/
theorem State.markersStepped_of {s t : State} {d : Int} (stepped : ∀ o, t.marker o = (s.marker o).step s.mono s.time.tod d) :
    s.markersStepped t d := by
  intro o m since reached k
  rw [stepped o]
  exact ⟨Marker.step_idle, Marker.step_fired⟩

/-- The effect of a step on the clock, its markers and the lock (R22, R23, R36). -/
theorem TimeUnit.load_marker (t : TimeUnit) (tod : Tod) (o : Out) :
    (t.load tod).markers[o.idx] = t.markers[o.idx].step t.mono t.tod (todDiff tod t.tod) := by
  unfold TimeUnit.load
  dsimp only
  split <;> exact TimeUnit.stepMarkers_marker _ _ _ o

/-! ## The records of a step (R22, R23) -/

theorem State.noteQuality_setResult (s : State) (p : Port) (r : ResultCode) (old : Quality) (offset : Int) :
    (s.noteQuality old offset).setResult p r = (s.setResult p r).noteQuality old offset := by
  unfold State.noteQuality
  rw [show (s.setResult p r).time = s.time from rfl]
  split
  · rfl
  · rw [State.logWrite_setResult, State.raiseAll_setResult]

theorem State.noteStep_setResult (s : State) (p : Port) (r : ResultCode) (old : Quality) (offset qualityOffset : Int) :
    (s.noteStep old offset qualityOffset).setResult p r = (s.setResult p r).noteStep old offset qualityOffset := by
  unfold State.noteStep
  rw [State.noteQuality_setResult, State.logWrite_setResult, State.raiseAll_setResult]

theorem State.portsRaised.lastResult {s t : State} (h : s.portsRaised t) (p : Port) :
    (t.port p).lastResult = (s.port p).lastResult := by
  rw [(h p).1]

theorem State.answered_lastResult (s : State) (p : Port) (r : ResultCode) : ((s.answered p r).port p).lastResult = r := by
  rw [State.answered, State.modPort_port, if_pos rfl]

/-- After a taken command that sets the clock and notes a step: the records, TIME, the result, and what stays. -/
theorem State.stepNoted (s : State) (port : Port) (g : TimeUnit → TimeUnit) (offset : Int) {quality : Quality}
    (is : (g s.time).quality = quality) :
    let t := ((s.answered port .ok).modTime g).noteStep s.time.quality offset 0
    t.time = g s.time ∧ (∀ q, AttnSet.has (t.port q).pending .time = true) ∧ (t.port port).lastResult = .ok
      ∧ (s.log.records.length ≤ 1000 →
          t.log.records[s.log.records.length]? = some ⟨s.log.next, t.time.tod, t.time.quality, .time .step offset⟩
          ∧ (quality ≠ s.time.quality → t.log.records[s.log.records.length + 1]? =
              some ⟨s.log.next + 1, t.time.tod, t.time.quality, .time .quality 0⟩)
          ∧ (quality = s.time.quality → t.log.next = s.log.next + 1))
      ∧ t = { s with time := t.time, log := t.log, ports := t.ports } := by
  intro t
  have only : ((s.answered port .ok).modTime g).logOnly t := State.noteStep_logOnly _ _ _ _
  have time : t.time = g s.time := by
    rw [only.1]
    rfl
  have logged : s.Logged _ t := .after (State.noteStep_logged ((s.answered port .ok).modTime g) s.time.quality offset 0) rfl
  refine ⟨time, fun q => State.noteStep_has _ _ _ _ q, ?_, fun few => ?_, ?_⟩
  · rw [State.portsRaised.lastResult only.2]
    exact s.answered_lastResult port .ok
  · have noted : State.qualityNoted ((s.answered port .ok).modTime g) s.time.quality 0
        = if quality = s.time.quality then [] else [⟨t.time.tod, t.time.quality, .time .quality 0⟩] := by
      rw [State.qualityNoted, time, is]
      rw [show ((s.answered port .ok).modTime g).time.quality = quality from is]
      rfl
    rw [noted, show ((s.answered port .ok).modTime g).time = t.time from time.symm] at logged
    refine ⟨?_, fun changed => ?_, fun same => ?_⟩
    · refine logged.first ?_
      split <;> simp <;> omega
    · rw [if_neg changed] at logged
      exact logged.record (k := 1) (by simp; omega) rfl
    · rw [if_pos same] at logged
      exact logged.next
  · rw [only.1]
    rfl

/-! ## The commands -/

theorem exec_setTime (port : Port) (args : List Byte) (s : State) : exec (.setTime port args) s
    = .next (s.command port (longPair args) Role.operates (fun a t => t.setTime a.1 a.2)) := rfl

theorem exec_stepTime (port : Port) (args : List Byte) (s : State) : exec (.stepTime port args) s
    = .next (s.command port (signedLong args) Role.operates (fun offset t => t.stepTime offset)) := rfl

theorem exec_setFrequency (port : Port) (args : List Byte) (s : State) : exec (.setFrequency port args) s
    = .next (s.command port (signedLong args) Role.operates (fun ppb t => t.setFrequency ppb)) := rfl

theorem TimeUnit.load_eq (t : TimeUnit) (tod : Tod) : t.load tod = { t with
    tod := tod, rem := 0, markers := t.markers.map (Marker.step t.mono t.tod (todDiff tod t.tod))
    quality := if t.discipline then .locking else .set
    lockCount := if t.discipline then 0 else t.lockCount, ph := if t.discipline then 0 else t.ph } := by
  unfold TimeUnit.load
  dsimp only
  split <;> rfl

/-- The clock that STEP TIME leaves (R23). -/
def TimeUnit.stepped (t : TimeUnit) (offset : Int) : TimeUnit := if t.discipline then (t.shift offset).relock else t.shift offset

theorem TimeUnit.stepped_eq (t : TimeUnit) (offset : Int) : t.stepped offset = { t with
    tod := t.tod.add offset, markers := t.markers.map (Marker.step t.mono t.tod offset)
    quality := if t.discipline then .locking else t.quality
    lockCount := if t.discipline then 0 else t.lockCount, ph := if t.discipline then 0 else t.ph } := by
  unfold TimeUnit.stepped
  split <;> rfl

/-- Settles O53: the clock that each command sets, and `State.stepNoted` for what a step writes and raises. -/
theorem timeSetByCommand : Obligations.TimeSetByCommand := by
  intro s port ready operator stepped
  have right : Role.operates (s.port port).role = true := Role.operates_iff.mpr operator
  refine ⟨fun sec ns secs nanos => ?_, fun offset low high => ?_, fun ppb low high => ⟨fun on => ?_, fun off => ?_⟩⟩
  · intro c
    have run : exec c s = .next (s.command port (some (sec, ns)) Role.operates (fun a t => t.setTime a.1 a.2)) := by
      rw [exec_setTime, longPair_bytes secs nanos]
    refine ⟨fun high => ?_, fun low => ?_⟩
    · rw [run]
      exact congrArg _ (s.command_refused port _ _ _ .argument ready right (if_pos high))
    · intro moved
      have taken : exec c s = .next (((s.answered port .ok).modTime (fun t => t.load ⟨BitVec.ofNat 32 sec, ns⟩)).noteStep
          s.time.quality (satOffset moved) 0) := by
        rw [run]
        exact congrArg _ (State.command_answered ready right (g := fun u => (u.modTime (fun t => t.load ⟨BitVec.ofNat 32 sec, ns⟩)).noteStep
          u.time.quality (satOffset (todDiff ⟨BitVec.ofNat 32 sec, ns⟩ u.time.tod)) 0) (if_neg (Nat.not_le.mpr low))
          fun u => State.noteStep_setResult _ port .ok _ _ _)
      obtain ⟨time, raised, result, records, frame⟩ := s.stepNoted port (fun t => t.load ⟨BitVec.ofNat 32 sec, ns⟩) (satOffset moved)
        (by rw [TimeUnit.load_eq])
      rw [TimeUnit.load_eq] at time
      refine ⟨_, taken, by rw [time], by rw [time], by rw [time], raised, result, records, State.markersStepped_of fun o => ?_, ?_, frame⟩
      · rw [State.marker, time]
        simp only [Fin.getElem_fin, Vector.getElem_map]
        rfl
      · rw [time]
  · intro c
    have run : exec c s = .next (s.command port (some offset) Role.operates (fun offset t => t.stepTime offset)) := by
      rw [exec_stepTime, signedLong_bytes low high]
    refine ⟨fun least => ?_, fun other => ?_⟩
    · rw [run]
      exact congrArg _ (s.command_refused port _ _ _ .argument ready right (if_pos (by omega)))
    · have taken : exec c s = .next (((s.answered port .ok).modTime (fun t => t.stepped offset)).noteStep s.time.quality offset 0) := by
        rw [run]
        exact congrArg _ (State.command_answered ready right
          (g := fun u => (u.modTime (fun t => t.stepped offset)).noteStep u.time.quality offset 0) (if_neg (by omega))
          fun u => State.noteStep_setResult _ port .ok _ _ _)
      obtain ⟨time, raised, result, records, frame⟩ := s.stepNoted port (fun t => t.stepped offset) offset
        (by rw [TimeUnit.stepped_eq])
      rw [TimeUnit.stepped_eq] at time
      refine ⟨_, taken, by rw [time], by rw [time], by rw [time], raised, result, records, State.markersStepped_of fun o => ?_, ?_, frame⟩
      · rw [State.marker, time]
        simp only [Fin.getElem_fin, Vector.getElem_map]
        rfl
      · rw [time]
  · rw [exec_setFrequency, signedLong_bytes low high]
    exact congrArg _ (s.command_refused port _ _ _ .state ready right (if_pos on))
  · rw [exec_setFrequency, signedLong_bytes low high]
    exact congrArg _ (State.command_answered ready right (g := fun u => u.modTime (fun t => { t with f := clampRate ppb }))
      (if_neg (by rw [State.beginTransaction, State.modPort, off]; decide)) fun _ => rfl)

end Sys2Proof.Machine

/-! The choice of the active reference, with its records (R28), and the settings of the discipline and the captures (O54). -/

namespace Sys2Proof.Machine

/-! ## The choice of the active reference -/

theorem TimeUnit.afterSwitch_same {t : TimeUnit} {new : Option Ref} (same : new = t.active) : t.afterSwitch new = t := by
  unfold TimeUnit.afterSwitch
  rw [if_pos (.inr same.symm), same]

/-- The references' and channels' own states play no part in it. -/
theorem TimeUnit.afterSwitch_with (t : TimeUnit) (new : Option Ref) (refs : Vector RefState 2) (channels : Vector CaptureState 4) :
    TimeUnit.afterSwitch { t with refs := refs, channels := channels } new = { t.afterSwitch new with refs := refs, channels := channels } := by
  unfold TimeUnit.afterSwitch
  dsimp only
  split
  · rfl
  · split <;> rfl

theorem TimeUnit.afterSwitch_channels (t : TimeUnit) (new : Option Ref) (refs : Vector RefState 2) (channels : Vector CaptureState 4) :
    { t.afterSwitch new with refs := refs, channels := channels }
      = { TimeUnit.afterSwitch { t with channels := channels } new with refs := refs } := by
  rw [TimeUnit.afterSwitch_with t new t.refs channels]

theorem TimeUnit.afterSwitch_fields (t : TimeUnit) (new : Option Ref) : t.afterSwitch new = { t with
    active := new, quality := (t.afterSwitch new).quality, lockCount := (t.afterSwitch new).lockCount, ph := (t.afterSwitch new).ph } := by
  unfold TimeUnit.afterSwitch
  split
  · rfl
  · split <;> rfl

theorem TimeUnit.afterSwitch_free {t : TimeUnit} {new : Option Ref} (free : t.discipline = false) :
    t.afterSwitch new = { t with active := new } := if_pos (.inl free)

/-- The records that a choice of `new` writes (R28, R21). -/
def State.switchRecords (s : State) (new : Option Ref) : List Noted :=
  if new = s.time.active then []
  else ⟨s.time.tod, (s.time.afterSwitch new).quality, .time .refSwitch (refOffset new)⟩
    :: if (s.time.afterSwitch new).quality = s.time.quality then []
      else [⟨s.time.tod, (s.time.afterSwitch new).quality, .time .quality 0⟩]

namespace State
variable (s : State)

theorem chooseActive_logOnly : (s.modTime (fun t => t.afterSwitch s.time.chosen)).logOnly s.chooseActive := by
  rcases s.chooseActive_cases with ⟨same, kept⟩ | ⟨-, switched⟩
  · rw [kept, State.modTime, TimeUnit.afterSwitch_same same]
    exact s.logOnly_refl
  · rw [switched]
    exact State.logOnly_trans (State.logOnly_trans (State.logWrite_logOnly _ _) (State.raiseAll_logOnly _ _)) (noteQuality_logOnly _ _ _)

theorem chooseActive_time : s.chooseActive.time = s.time.afterSwitch s.time.chosen := by
  rw [s.chooseActive_logOnly.1]
  rfl

theorem chooseActive_logged : s.Logged (s.switchRecords s.time.chosen) s.chooseActive := by
  unfold switchRecords
  rcases s.chooseActive_cases with ⟨same, kept⟩ | ⟨other, switched⟩
  · rw [kept, if_pos same]
    exact .of_log rfl
  · rw [switched, if_neg other]
    have tod : (s.time.afterSwitch s.time.chosen).tod = s.time.tod := by rw [TimeUnit.afterSwitch_fields]
    have written := (State.logWrite_logged (s.modTime (fun t => t.afterSwitch s.time.chosen))
      (.time .refSwitch (refOffset s.time.chosen))).raiseAll .time
    have noted := noteQuality_logged (((s.modTime (fun t => t.afterSwitch s.time.chosen)).logWrite
      (.time .refSwitch (refOffset s.time.chosen))).raiseAll .time) s.time.quality 0
    have clock : (((s.modTime (fun t => t.afterSwitch s.time.chosen)).logWrite
      (.time .refSwitch (refOffset s.time.chosen))).raiseAll .time).time = s.time.afterSwitch s.time.chosen := by
      rw [(State.logOnly_trans (State.logWrite_logOnly _ _) (State.raiseAll_logOnly _ _)).1]
      rfl
    rw [qualityNoted, clock, tod] at noted
    have whole := (written.trans noted).after (s := s) rfl
    rw [show (s.modTime (fun t => t.afterSwitch s.time.chosen)).time = s.time.afterSwitch s.time.chosen from rfl, tod] at whole
    exact whole

theorem chooseActive_has (other : s.time.chosen ≠ s.time.active) (q : Port) :
    AttnSet.has (s.chooseActive.port q).pending .time = true := by
  rcases s.chooseActive_cases with ⟨same, -⟩ | ⟨-, switched⟩
  · exact absurd same other
  · rw [switched]
    exact noteQuality_has _ _ _ q (.inl (raiseAll_has _ _ q))

theorem switchRecords_length (new : Option Ref) : (s.switchRecords new).length ≤ 2 := by
  unfold switchRecords
  split
  · simp
  · split <;> simp

theorem refOffset_eq (new : Option Ref) : refOffset new = match new with | some .ref0 => 0 | some .ref1 => 1 | none => -1 := by
  rcases new with _ | r
  · rfl
  · cases r <;> rfl

/-- The records and the attention of a choice, with other records after them. -/
theorem switchNoted_of {t : State} {new : Option Ref} {more : List Noted} (logged : s.Logged (s.switchRecords new ++ more) t)
    (few : more.length ≤ 20) (quiet : (more.map Noted.body).all (fun b => match b with | .time .refSwitch _ => false | _ => true) = true)
    (raised : new ≠ s.time.active → ∀ q, AttnSet.has (t.port q).pending .time = true) : s.switchNoted t new := by
  have short := s.switchRecords_length new
  have room : s.log.records.length ≤ 1000 → s.log.records.length + (s.switchRecords new ++ more).length ≤ 1024 := by
    rw [List.length_append]
    omega
  refine ⟨fun other => ⟨raised other, fun early => ?_⟩, fun same early => ?_⟩
  · have listed : s.switchRecords new = _ := if_neg other
    refine ⟨?_, fun changed => ?_⟩
    · have total := room early
      rw [listed] at logged total
      exact (logged.first total).trans (congrArg (fun o => some (LogRecord.mk s.log.next s.time.tod
        (s.time.afterSwitch new).quality (.time .refSwitch o))) (refOffset_eq new))
    · have total := room early
      rw [listed, if_neg changed] at logged total
      exact logged.record total (k := 1) rfl
  · rw [logged.written (room early), show s.switchRecords new = [] from if_pos same, List.nil_append]
    exact quiet

theorem chooseActive_setResult (p : Port) (r : ResultCode) : s.chooseActive.setResult p r = (s.setResult p r).chooseActive := by
  unfold State.chooseActive
  dsimp only
  rw [show (s.setResult p r).time = s.time from rfl]
  split
  · rfl
  · rw [noteQuality_setResult, ← State.raiseAll_setResult, ← State.logWrite_setResult]
    rfl

end State

/-- The choice after an update of the references or the channels alone: the clock, the records and the attention. -/
theorem State.chooseActive_after {s u : State} (log : u.log = s.log)
    (clock : u.time = { s.time with refs := u.time.refs, channels := u.time.channels }) :
    u.chooseActive.time = { s.time.afterSwitch u.time.chosen with refs := u.time.refs, channels := u.time.channels }
      ∧ s.Logged (s.switchRecords u.time.chosen) u.chooseActive
      ∧ (u.time.chosen ≠ s.time.active → ∀ q, AttnSet.has (u.chooseActive.port q).pending .time = true) := by
  have after (new : Option Ref) : u.time.afterSwitch new
      = { s.time.afterSwitch new with refs := u.time.refs, channels := u.time.channels } := by
    rw [← TimeUnit.afterSwitch_with, ← clock]
  have active : u.time.active = s.time.active := by rw [clock]
  have records (new : Option Ref) : u.switchRecords new = s.switchRecords new := by
    have tod : u.time.tod = s.time.tod := by rw [clock]
    have quality : u.time.quality = s.time.quality := by rw [clock]
    unfold State.switchRecords
    rw [after, tod, quality, active]
  refine ⟨?_, ?_, fun other => u.chooseActive_has (active ▸ other)⟩
  · rw [u.chooseActive_time, after]
  · rw [← records]
    exact u.chooseActive_logged.after log

theorem TimeUnit.chosen_eq (t : TimeUnit) : t.chosen = if (t.refs[Ref.ref0.idx]).qualified then some .ref0
    else if (t.refs[Ref.ref1.idx]).qualified then some .ref1 else none := rfl

/-- The choice after such an update, in the words of the statements. -/
theorem State.chosenAnew (s : State) {x : TimeUnit} (y : Vector PortCtx 3)
    (clock : x = { s.time with refs := x.refs, channels := x.channels }) :
    let u : State := { s with time := x, ports := y }
    let t := u.chooseActive
    (∀ q, t.ref q = u.ref q) ∧ t.time.channels = x.channels
      ∧ t.time.active = (if (t.ref .ref0).qualified then some .ref0 else if (t.ref .ref1).qualified then some .ref1 else none)
      ∧ t.time = { s.time.afterSwitch t.time.active with refs := t.time.refs, channels := x.channels }
      ∧ s.switchNoted t t.time.active ∧ u.portsRaised t ∧ t = { s with time := t.time, log := t.log, ports := t.ports } := by
  intro u t
  obtain ⟨time, logged, raised⟩ := State.chooseActive_after (s := s) (u := u) rfl clock
  have refs : t.time.refs = x.refs := by rw [time]
  have active : t.time.active = u.time.chosen := by rw [time, TimeUnit.afterSwitch_fields]
  have only := u.chooseActive_logOnly
  rw [← active] at time logged raised
  refine ⟨fun q => ?_, by rw [time], ?_, ?_, ?_, ?_, only.1.trans ?_⟩
  · rw [State.ref, refs]
    rfl
  · rw [active, TimeUnit.chosen_eq]
    unfold State.ref
    rw [refs]
  · rw [refs]
    exact time
  · exact s.switchNoted_of (more := []) (by rwa [List.append_nil]) (Nat.zero_le _) rfl raised
  · exact State.portsRaised_trans (State.portsRaised_of_ports rfl) only.2
  · exact congrArg (fun x => { s with time := x, log := t.log, ports := t.ports }) u.chooseActive_time.symm

/-! ## SET DISCIPLINE (R25) -/

theorem disciplineArgs_bytes (on ki : Byte) {ts tl : Nat} (steps : ts < 4294967296) (locks : tl < 65536) :
    disciplineArgs ([on] ++ leBytes 4 ts ++ leBytes 2 tl ++ [ki]) = some ⟨on.toNat, ts, tl, ki.toNat⟩ := by
  have read : disciplineArgs ([on] ++ leBytes 4 ts ++ leBytes 2 tl ++ [ki])
      = some ⟨on.toNat, leNat (leBytes 4 ts), leNat (leBytes 2 tl), ki.toNat⟩ := rfl
  rw [read, leNat_leBytes_four steps, leNat_leBytes_two locks]

theorem flagOfCode_eq {n : Nat} (low : n ≤ 1) : flagOfCode n = some (decide (n = 1)) := by
  interval_cases n <;> rfl

theorem flagOfCode_eq_none {n : Nat} (above : 1 < n) : flagOfCode n = none := by
  match n, above with
  | _ + 2, _ => rfl

theorem TimeUnit.switchDiscipline_eq (t : TimeUnit) (on : Bool) :
    let starts : Bool := !t.discipline && on && decide (t.quality = .set)
    let ends : Bool := t.discipline && !on
    t.switchDiscipline on = { t with
      discipline := on
      quality := if starts then .locking else if ends then (if t.quality = .free then .free else .set) else t.quality
      lockCount := if starts || ends then 0 else t.lockCount
      ph := if ends then 0 else t.ph } := by
  unfold TimeUnit.switchDiscipline
  obtain ⟨mono, tod, rem, quality, lockCount, f, ph, discipline, ts, tl, ki, refs, active, channels, markers⟩ := t
  cases discipline <;> cases on <;> cases quality <;> rfl

theorem State.setDiscipline_refused (s : State) {a : DisciplineArgs}
    (bad : ¬(a.on ≤ 1 ∧ 1000 ≤ a.ts ∧ a.ts ≤ 1000000 ∧ 1 ≤ a.tl ∧ a.tl ≤ 65535 ∧ a.ki ≤ 15)) :
    s.setDiscipline a = .error .argument := by
  unfold State.setDiscipline
  by_cases low : a.on ≤ 1
  · rw [flagOfCode_eq low]
    exact if_neg fun range => bad ⟨low, range⟩
  · rw [flagOfCode_eq_none (Nat.not_le.mp low)]

/-- The clock that SET DISCIPLINE leaves. -/
def TimeUnit.disciplined (t : TimeUnit) (a : DisciplineArgs) : TimeUnit :=
  { t.switchDiscipline (decide (a.on = 1)) with ts := a.ts, tl := a.tl, ki := a.ki }

theorem State.setDiscipline_taken (s : State) {a : DisciplineArgs} (low : a.on ≤ 1)
    (range : 1000 ≤ a.ts ∧ a.ts ≤ 1000000 ∧ 1 ≤ a.tl ∧ a.tl ≤ 65535 ∧ a.ki ≤ 15) :
    s.setDiscipline a = .ok ((s.modTime (fun t => t.disciplined a)).noteQuality s.time.quality 0) := by
  unfold State.setDiscipline
  rw [flagOfCode_eq low]
  exact if_pos range

/-- What the note of a change of quality leaves of a taken SET DISCIPLINE (R21, R25). -/
theorem State.disciplineNoted (s : State) (port : Port) (a : DisciplineArgs) :
    let t := ((s.answered port .ok).modTime (fun t => t.disciplined a)).noteQuality s.time.quality 0
    t.time = s.time.disciplined a
      ∧ (t.time.quality = s.time.quality → t.log = s.log ∧ t.ports = (s.answered port .ok).ports)
      ∧ (t.time.quality ≠ s.time.quality → t.log.records.getLast? = some ⟨s.log.next, s.time.tod, t.time.quality, .time .quality 0⟩
          ∧ (∀ q, AttnSet.has (t.port q).pending .time = true) ∧ (t.port port).lastResult = .ok)
      ∧ t = { s with time := t.time, log := t.log, ports := t.ports } := by
  intro t
  have only : ((s.answered port .ok).modTime (fun t => t.disciplined a)).logOnly t := State.noteQuality_logOnly _ _ _
  have time : t.time = s.time.disciplined a := by
    rw [only.1]
    rfl
  have tod : (s.time.disciplined a).tod = s.time.tod := by
    rw [TimeUnit.disciplined, TimeUnit.switchDiscipline_eq]
  refine ⟨time, fun same => ?_, fun changed => ⟨?_, fun q => State.noteQuality_has _ _ _ q (.inr ?_), ?_⟩, ?_⟩
  · rw [time] at same
    have kept : t = _ := State.noteQuality_same (s := (s.answered port .ok).modTime (fun t => t.disciplined a)) same 0
    rw [kept]
    exact ⟨rfl, rfl⟩
  · rw [time] at changed ⊢
    have noted : t = _ := State.noteQuality_changed (s := (s.answered port .ok).modTime (fun t => t.disciplined a)) changed 0
    rw [noted, ← tod]
    exact State.logWrite_last _ _
  · rw [time] at changed
    exact changed
  · rw [State.portsRaised.lastResult only.2]
    exact s.answered_lastResult port .ok
  · rw [only.1]
    rfl

theorem exec_setDiscipline (port : Port) (args : List Byte) (s : State) : exec (.setDiscipline port args) s
    = .next (s.command port (disciplineArgs args) Role.operates (fun a t => t.setDiscipline a)) := rfl

theorem exec_setCapture (port : Port) (args : List Byte) (s : State) : exec (.setCapture port args) s
    = .next (s.command port (captureArgs args) Role.any (fun a t => t.setCapture (t.port port).role a)) := rfl

/-! ## SET CAPTURE (R31) -/

theorem EdgeSetting.ofCode_code (e : EdgeSetting) : EdgeSetting.ofCode e.code = some e := by cases e <;> rfl

theorem EdgeSetting.ofCode_eq_none {n : Nat} (above : 3 < n) : EdgeSetting.ofCode n = Option.none := by
  match n, above with
  | _ + 4, _ => rfl

theorem Source.ofCode_code (x : Source) : Source.ofCode x.code = some x := by cases x <;> rfl

theorem Source.ofCode_eq_none {n : Nat} (above : 1 < n) : Source.ofCode n = none := by
  match n, above with
  | _ + 2, _ => rfl

theorem State.setCapture_refused (s : State) {role : Role} {a : CaptureArgs} {k : Channel} (named : a.channel = k.idx.val)
    (may : role.mayCapture k = true) (bad : 3 < a.edge ∨ 1 < a.source ∨ 1 < a.log) : s.setCapture role a = .error .argument := by
  unfold State.setCapture
  rw [named, Channel.ofCode_idx]
  dsimp only
  rw [if_pos may]
  split
  · rename_i edge source log
    rcases bad with above | above | above
    · rw [EdgeSetting.ofCode_eq_none above] at edge
      cases edge
    · rw [Source.ofCode_eq_none above] at source
      cases source
    · rw [flagOfCode_eq_none above] at log
      cases log
  · rfl

theorem State.setCapture_taken (s : State) {role : Role} {a : CaptureArgs} {k : Channel} {edge : EdgeSetting} {source : Source}
    (named : a.channel = k.idx.val) (may : role.mayCapture k = true) (edgeCode : a.edge = edge.code) (sourceCode : a.source = source.code)
    (low : a.log ≤ 1) : s.setCapture role a = .ok (s.storeCapture k edge source (decide (a.log = 1))) := by
  unfold State.setCapture
  rw [named, Channel.ofCode_idx, edgeCode, sourceCode, EdgeSetting.ofCode_code, Source.ofCode_code, flagOfCode_eq low]
  exact if_pos may

theorem Role.mayCapture_of {role : Role} {k : Channel} (may : role = .operator ∨ (role = .gateway ∧ (k = .mark0 ∨ k = .mark1))) :
    role.mayCapture k = true := by
  rcases may with rfl | ⟨rfl, rfl | rfl⟩
  · cases k <;> rfl
  · rfl
  · rfl

theorem State.storeCapture_kept {s : State} {k : Channel} {edge : EdgeSetting} (source : Source) (log : Bool)
    (kept : (k = .mark0 ∨ k = .mark1) ∨ (s.channel k).edge = edge) :
    s.storeCapture k edge source log = s.modTime (fun u => u.modChannel k (fun _ => ⟨edge, source, log, [], false⟩)) := by
  unfold State.storeCapture
  rcases kept with (rfl | rfl) | same
  · rfl
  · rfl
  · dsimp only
    split
    · exact if_pos same
    · rfl

theorem State.storeCapture_changed {s : State} {r : Ref} {edge : EdgeSetting} (source : Source) (log : Bool)
    (changed : (s.channel r.channel).edge ≠ edge) : s.storeCapture r.channel edge source log
      = ((s.modTime (fun u => u.modChannel r.channel (fun _ => ⟨edge, source, log, [], false⟩))).modTime
          (fun u => u.modRef r RefState.unqualify)).chooseActive := by
  unfold State.storeCapture
  cases r <;> exact if_neg changed

theorem State.storeCapture_setResult (s : State) (p : Port) (x : ResultCode) (k : Channel) (edge : EdgeSetting) (source : Source)
    (log : Bool) : (s.storeCapture k edge source log).setResult p x = (s.setResult p x).storeCapture k edge source log := by
  unfold State.storeCapture
  dsimp only
  rw [show (s.setResult p x).channel k = s.channel k from rfl]
  split
  · split
    · rfl
    · exact State.chooseActive_setResult _ p x
  · rfl

/-- Settles O54: the settings stored, with `State.switchNoted_of` for a reference whose edge setting changes. -/
theorem timeSettingsStored : Obligations.TimeSettingsStored := by
  intro s port ready
  refine ⟨fun operator on ki ts tl steps locks => ?_, fun b e src l => ⟨fun above => ?_, fun k named may => ⟨fun bad => ?_,
    fun edge source edgeCode sourceCode low => ?_⟩⟩⟩
  · intro c ranges starts ends
    have right : Role.operates (s.port port).role = true := Role.operates_iff.mpr operator
    have run : exec c s = .next (s.command port (some ⟨on.toNat, ts, tl, ki.toNat⟩) Role.operates (fun a t => t.setDiscipline a)) := by
      rw [exec_setDiscipline, disciplineArgs_bytes on ki steps locks]
    refine ⟨fun bad => ?_, fun fits => ?_⟩
    · rw [run]
      refine congrArg _ (s.command_refused port _ _ _ .argument ready right (State.setDiscipline_refused _ ?_))
      rintro ⟨low, least, most, some, -, shift⟩
      exact bad ⟨low, least, most, some, shift⟩
    · obtain ⟨low, least, most, some, shift⟩ := fits
      have taken : exec c s = .next (((s.answered port .ok).modTime (fun t => t.disciplined ⟨on.toNat, ts, tl, ki.toNat⟩)).noteQuality
          s.time.quality 0) := by
        rw [run]
        exact congrArg _ (State.command_answered ready right
          (g := fun u => (u.modTime (fun t => t.disciplined ⟨on.toNat, ts, tl, ki.toNat⟩)).noteQuality u.time.quality 0)
          (State.setDiscipline_taken _ low ⟨least, most, some, Nat.le_of_lt_succ locks, shift⟩) fun u => State.noteQuality_setResult _ port .ok _ _)
      obtain ⟨time, same, changed, frame⟩ := s.disciplineNoted port ⟨on.toNat, ts, tl, ki.toNat⟩
      have low' : decide (on.toNat = 1) = !decide (on.toNat = 0) := by
        by_cases one : on.toNat = 1
        · simp [one]
        · have zero : on.toNat = 0 := by omega
          simp [zero]
      refine ⟨_, taken, ?_, same, changed, frame⟩
      rw [time, TimeUnit.disciplined, TimeUnit.switchDiscipline_eq]
      simp only [starts, ends, low', Bool.not_not]
  · have right : Role.any (s.port port).role = true := rfl
    rw [exec_setCapture]
    refine congrArg _ (s.command_refused port _ _ _ .argument ready right ?_)
    unfold State.setCapture
    rw [Channel.ofCode_eq_none above]
  · rw [exec_setCapture]
    exact congrArg _ (s.command_refused port _ _ _ .argument ready rfl
      (State.setCapture_refused _ named (by rw [State.beginTransaction_port]; exact Role.mayCapture_of may) bad))
  · intro stored
    have taken : exec (.setCapture port [b, e, src, l]) s
        = .next ((s.answered port .ok).storeCapture k edge source (decide (l.toNat = 1))) := by
      rw [exec_setCapture]
      exact congrArg _ (State.command_answered (right := Role.any) ready rfl
        (State.setCapture_taken _ named (by rw [State.beginTransaction_port]; exact Role.mayCapture_of may) edgeCode sourceCode low)
        fun u => u.storeCapture_setResult port .ok _ _ _ _)
    refine ⟨fun kept => ?_, fun r ref changed => ?_⟩
    · rw [taken, State.storeCapture_kept (s := s.answered port .ok) source _ kept]
      rfl
    · subst ref
      rw [taken, State.storeCapture_changed (s := s.answered port .ok) source _ changed]
      obtain ⟨ref, channels, active, time, noted, raised, frame⟩ := s.chosenAnew
        (x := (s.time.modChannel r.channel (fun _ => ⟨edge, source, decide (l.toNat = 1), [], false⟩)).modRef r RefState.unqualify)
        (s.answered port .ok).ports rfl
      have restarted (q : Ref) := (ref q).trans (TimeUnit.modRef_ref stored r RefState.unqualify q)
      refine ⟨_, rfl, channels, (restarted r).trans (if_pos rfl), fun q other => (restarted q).trans (if_neg other), active, fun free => ?_,
        ?_, noted, ?_, frame⟩
      · rw [TimeUnit.afterSwitch_free free] at time
        exact time
      · exact time.trans (TimeUnit.afterSwitch_channels s.time _ _ _)
      · exact (State.portsRaised.lastResult raised port).trans (s.answered_lastResult port .ok)

end Sys2Proof.Machine

/-! Reference pulses and their timeout (O49), and what the discipline does with a pulse (O50). -/

namespace Sys2Proof.Machine

/-! ## Captures and the records of a pulse -/

namespace State
variable (s : State)

theorem capture_logged (c : Channel) (t : Stamp) : s.Logged
    (if (s.channel c).log = true then [⟨s.time.tod, s.time.quality, .mark c ((s.channel c).stamp t)⟩] else []) (s.capture c t) := by
  rw [State.capture_eq]
  split
  · have written := (State.logWrite_logged (s.captured c t) (.mark c ((s.channel c).stamp t))).after (s.captured_log c t)
    have time : (s.captured c t).time = (s.pushed c t).time := by rw [(s.captured_pushed c t).1]
    rw [time] at written
    exact written
  · exact .of_log (s.captured_log c t)

theorem noteQuality_has_other (old : Quality) (offset : Int) (q : Port) :
    AttnSet.has ((s.noteQuality old offset).port q).pending .capture = AttnSet.has (s.port q).pending .capture := by
  by_cases same : s.time.quality = old
  · rw [noteQuality_same same]
  · rw [noteQuality_changed same, State.raiseAll_port, PortCtx.raise_has, decide_eq_false (by decide), Bool.or_false]
    exact s.logWrite_has_other _ q (by decide) (by decide)

theorem noteStep_has_other (old : Quality) (offset qualityOffset : Int) (q : Port) :
    AttnSet.has ((s.noteStep old offset qualityOffset).port q).pending .capture = AttnSet.has (s.port q).pending .capture := by
  unfold State.noteStep
  rw [noteQuality_has_other, State.raiseAll_port, PortCtx.raise_has, decide_eq_false (by decide), Bool.or_false]
  exact s.logWrite_has_other _ q (by decide) (by decide)

end State

/-! ## What the discipline does with a pulse (R29) -/

/-- Whether the discipline applies a pulse of the active reference. -/
def TimeUnit.follows (t : TimeUnit) : Bool := t.discipline && (t.quality == .locking || t.quality == .locked)

theorem TimeUnit.follows_iff (t : TimeUnit) : t.follows = true ↔ t.discipline = true ∧ (t.quality = .locking ∨ t.quality = .locked) := by
  simp [TimeUnit.follows]

/-- The clock after a pulse with offset `e`. -/
def TimeUnit.pulsed (t : TimeUnit) (e : Int) : TimeUnit :=
  if t.follows then if t.ts < e.natAbs then (t.shift (-e)).relock else t.slew e else t

theorem TimeUnit.pulsed_fields (t : TimeUnit) (e : Int) : t.pulsed e = { t with
    tod := (t.pulsed e).tod, quality := (t.pulsed e).quality, lockCount := (t.pulsed e).lockCount, f := (t.pulsed e).f
    ph := (t.pulsed e).ph, markers := (t.pulsed e).markers } := by
  unfold TimeUnit.pulsed TimeUnit.slew
  dsimp only
  split
  · split
    · rfl
    · split <;> rfl
  · rfl

namespace State
variable (s : State)

/-- The records that a pulse applied by the discipline writes. -/
def pulseRecords (e : Int) : List Noted :=
  if s.time.follows then
    (if s.time.ts < e.natAbs then [⟨(s.time.pulsed e).tod, (s.time.pulsed e).quality, .time .step (-e)⟩] else [])
      ++ (s.modTime (fun t => t.pulsed e)).qualityNoted s.time.quality e
  else []

/-- The three cases of a pulse offered to the discipline. -/
theorem applyPulse_cases (ns : Nat) :
    (s.time.follows = true ∧ s.time.ts < (pulseOffset ns).natAbs
      ∧ s.applyPulse ns = (s.modTime (fun t => t.pulsed (pulseOffset ns))).noteStep s.time.quality (-pulseOffset ns) (pulseOffset ns))
    ∨ (s.time.follows = true ∧ (pulseOffset ns).natAbs ≤ s.time.ts
      ∧ s.applyPulse ns = (s.modTime (fun t => t.pulsed (pulseOffset ns))).noteQuality s.time.quality (pulseOffset ns))
    ∨ (s.time.follows = false ∧ s.applyPulse ns = s) := by
  by_cases on : s.time.follows = true
  · by_cases wide : s.time.ts < (pulseOffset ns).natAbs
    · have stepped : s.time.pulsed (pulseOffset ns) = (s.time.shift (-pulseOffset ns)).relock := (if_pos on).trans (if_pos wide)
      rw [State.modTime, stepped]
      exact .inl ⟨on, wide, (if_pos on).trans (if_pos wide)⟩
    · have slewed : s.time.pulsed (pulseOffset ns) = s.time.slew (pulseOffset ns) := (if_pos on).trans (if_neg wide)
      rw [State.modTime, slewed]
      exact .inr (.inl ⟨on, Nat.le_of_not_lt wide, (if_pos on).trans (if_neg wide)⟩)
  · exact .inr (.inr ⟨Bool.eq_false_iff.mpr on, if_neg on⟩)

theorem applyPulse_logOnly (ns : Nat) : (s.modTime (fun t => t.pulsed (pulseOffset ns))).logOnly (s.applyPulse ns) := by
  rcases s.applyPulse_cases ns with ⟨-, -, eq⟩ | ⟨-, -, eq⟩ | ⟨off, eq⟩
  · rw [eq]
    exact State.noteStep_logOnly _ _ _ _
  · rw [eq]
    exact State.noteQuality_logOnly _ _ _
  · rw [eq, State.modTime, TimeUnit.pulsed, off]
    exact State.logOnly_refl _

theorem applyPulse_time (ns : Nat) : (s.applyPulse ns).time = s.time.pulsed (pulseOffset ns) := by
  rw [(s.applyPulse_logOnly ns).1]
  rfl

theorem applyPulse_logged (ns : Nat) : s.Logged (s.pulseRecords (pulseOffset ns)) (s.applyPulse ns) := by
  unfold pulseRecords
  rcases s.applyPulse_cases ns with ⟨on, wide, eq⟩ | ⟨on, near, eq⟩ | ⟨off, eq⟩
  · rw [eq, if_pos on, if_pos wide]
    have noted := State.noteStep_logged (s.modTime (fun t => t.pulsed (pulseOffset ns))) s.time.quality (-pulseOffset ns) (pulseOffset ns)
    exact noted.after rfl
  · rw [eq, if_pos on, if_neg (Nat.not_lt.mpr near)]
    have noted := State.noteQuality_logged (s.modTime (fun t => t.pulsed (pulseOffset ns))) s.time.quality (pulseOffset ns)
    exact noted.after rfl
  · rw [eq, off]
    exact .of_log rfl

theorem applyPulse_has_other (ns : Nat) (q : Port) :
    AttnSet.has ((s.applyPulse ns).port q).pending .capture = AttnSet.has (s.port q).pending .capture := by
  rcases s.applyPulse_cases ns with ⟨-, -, eq⟩ | ⟨-, -, eq⟩ | ⟨-, eq⟩
  · rw [eq]
    exact State.noteStep_has_other _ _ _ _ q
  · rw [eq]
    exact State.noteQuality_has_other _ _ _ q
  · rw [eq]

theorem pulseRecords_length (e : Int) : (s.pulseRecords e).length ≤ 2 := by
  unfold pulseRecords State.qualityNoted
  split
  · split <;> split <;> simp
  · simp

/-- The discipline writes STEP and QUALITY records alone. -/
theorem pulseRecords_bodies (e : Int) (x : Noted) (mem : x ∈ s.pulseRecords e) :
    x.body = .time .step (-e) ∨ x.body = .time .quality e := by
  unfold pulseRecords State.qualityNoted at mem
  split at mem
  · rw [List.mem_append] at mem
    rcases mem with step | quality
    · split at step
      · rw [List.mem_singleton] at step
        exact .inl (congrArg Noted.body step)
      · cases step
    · split at quality
      · cases quality
      · rw [List.mem_singleton] at quality
        exact .inr (congrArg Noted.body quality)
  · cases mem

end State
end Sys2Proof.Machine

/-! The stages of a reference pulse (O49, O50): the qualification and the choice, the capture, the discipline. -/

namespace Sys2Proof.Machine

theorem State.chooseActive_has_other (s : State) (q : Port) :
    AttnSet.has (s.chooseActive.port q).pending .capture = AttnSet.has (s.port q).pending .capture := by
  rcases s.chooseActive_cases with ⟨-, kept⟩ | ⟨-, switched⟩
  · rw [kept]
  · rw [switched, State.noteQuality_has_other, State.raiseAll_port, PortCtx.raise_has, decide_eq_false (by decide), Bool.or_false]
    exact State.logWrite_has_other _ _ q (by decide) (by decide)

/-- What an input of reference `r` has done to the clock, the log and attention after its reference's state is `v` and the
active reference is chosen: `more` are the records after those of the choice. -/
structure State.Referenced (s : State) (r : Ref) (v : RefState) (more : List Noted) (t : State) : Prop where
  refs : ∀ q, t.ref q = if q = r then v else s.ref q
  active : t.time.active = t.time.chosen
  logged : s.Logged (s.switchRecords t.time.active ++ more) t
  switched : t.time.active ≠ s.time.active → ∀ q, AttnSet.has (t.port q).pending .time = true
  raised : s.portsRaised t
  rest : t = { s with time := t.time, log := t.log, ports := t.ports }

namespace State.Referenced
variable {s t u : State} {r : Ref} {v : RefState} {more more' : List Noted}

theorem chosen (h : s.Referenced r v more t) : t.time.active
    = if (t.ref .ref0).qualified then some .ref0 else if (t.ref .ref1).qualified then some .ref1 else none :=
  h.active.trans t.time.chosen_eq

theorem followed (h : s.Referenced r v more t) (logged : t.Logged more' u) (raised : t.portsRaised u)
    (same : u = { t with time := u.time, log := u.log, ports := u.ports }) (refs : u.time.refs = t.time.refs)
    (active : u.time.active = t.time.active) : s.Referenced r v (more ++ more') u := by
  have chosen : u.time.chosen = t.time.chosen := by rw [TimeUnit.chosen, refs]; rfl
  have ref (q : Ref) : u.ref q = t.ref q := congrArg (·[q.idx]) refs
  refine ⟨fun q => (ref q).trans (h.refs q), by rw [active, chosen, h.active], ?_, fun other q => raised.has (h.switched (active ▸ other) q),
    State.portsRaised_trans h.raised raised, ?_⟩
  · rw [active, ← List.append_assoc]
    exact h.logged.trans logged
  · rw [same, h.rest]

/-- The choice's part of the statements about the log. -/
theorem switchNoted (h : s.Referenced r v more t) (few : more.length ≤ 20)
    (quiet : ∀ x ∈ more, ∀ o, x.body ≠ .time .refSwitch o) : s.switchNoted t t.time.active := by
  refine s.switchNoted_of h.logged few ?_ h.switched
  rw [List.all_map, List.all_eq_true]
  intro x mem
  have other := quiet x mem
  dsimp only [Function.comp_apply]
  split
  · exact absurd ‹_› (other _)
  · rfl

end State.Referenced

/-- A change of a reference's state and the choice after it. -/
def State.referenced (s : State) (r : Ref) (g : RefState → RefState) : State := (s.modTime (fun u => u.modRef r g)).chooseActive

namespace State
variable (s : State) (r : Ref) (g : RefState → RefState)

theorem referenced_referenced : s.Referenced r (g (s.ref r)) [] (s.referenced r g) := by
  obtain ⟨time, logged, switched⟩ := State.chooseActive_after (s := s) (u := s.modTime (fun u => u.modRef r g)) rfl rfl
  have only := (s.modTime (fun u => u.modRef r g)).chooseActive_logOnly
  have refs : (s.referenced r g).time.refs = (s.time.modRef r g).refs := by
    rw [State.referenced, time]
    rfl
  have active : (s.referenced r g).time.active = (s.time.modRef r g).chosen := by
    rw [State.referenced, time, TimeUnit.afterSwitch_fields]
    rfl
  have chosen : (s.referenced r g).time.chosen = (s.time.modRef r g).chosen := by rw [TimeUnit.chosen, refs]; rfl
  refine ⟨fun q => ?_, by rw [active, chosen], ?_, ?_, only.2, only.1.trans ?_⟩
  · exact (congrArg (·[q.idx]) refs).trans (TimeUnit.modRef_ref s.time r g q)
  · rw [active, List.append_nil]
    exact logged
  · rw [active]
    exact switched
  · exact congrArg (fun x => { s with time := x, log := (s.referenced r g).log, ports := (s.referenced r g).ports })
      (s.modTime (fun u => u.modRef r g)).chooseActive_time.symm

theorem referenced_time : (s.referenced r g).time
    = { s.time.afterSwitch (s.referenced r g).time.active with refs := (s.referenced r g).time.refs } := by
  obtain ⟨time, -⟩ := State.chooseActive_after (s := s) (u := s.modTime (fun u => u.modRef r g)) rfl rfl
  have channels : s.time.channels = (s.time.afterSwitch (s.time.modRef r g).chosen).channels := by rw [TimeUnit.afterSwitch_fields]
  have active : (s.referenced r g).time.active = (s.time.modRef r g).chosen := by
    rw [State.referenced, time, TimeUnit.afterSwitch_fields]
    rfl
  have refs : (s.referenced r g).time.refs = (s.time.modRef r g).refs := by
    rw [State.referenced, time]
    rfl
  rw [active, refs]
  exact time.trans (congrArg (fun x => { s.time.afterSwitch (s.time.modRef r g).chosen with refs := (s.time.modRef r g).refs, channels := x })
    channels)

theorem referenced_has (q : Port) :
    AttnSet.has ((s.referenced r g).port q).pending .capture = AttnSet.has (s.port q).pending .capture :=
  (s.modTime (fun u => u.modRef r g)).chooseActive_has_other q

/-- The reference timeout, taken (R27). -/
theorem refTimeout_due (due : s.refTimeoutDue r = true) : s.refTimeout r = s.referenced r RefState.unqualify := if_pos due

theorem refTimeout_early (early : s.refTimeoutDue r = false) : s.refTimeout r = s := if_neg (by rw [early]; decide)

end State
end Sys2Proof.Machine

/-! The capture of a reference pulse, and the pulse as a whole (O49, O50). -/

namespace Sys2Proof.Machine

theorem TimeUnit.of_refs {w x : TimeUnit} {refs : Vector RefState 2} (h : w = { x with refs := refs }) :
    w = { x with refs := w.refs, channels := w.channels } := by
  subst h
  rfl

theorem TimeUnit.of_refs_modChannel {w x : TimeUnit} {refs : Vector RefState 2} (h : w = { x with refs := refs }) (c : Channel)
    (g : CaptureState → CaptureState) :
    w.modChannel c g = { x with refs := (w.modChannel c g).refs, channels := (w.modChannel c g).channels } := by
  subst h
  rfl

namespace State
variable (s : State) (r : Ref)

theorem referenced_channel (g : RefState → RefState) (k : Channel) : (s.referenced r g).channel k = s.channel k := by
  have channels : (s.referenced r g).time.channels = s.time.channels := by
    rw [s.referenced_time r g, TimeUnit.afterSwitch_fields]
  exact congrArg (·[k.idx]) channels

theorem referenced_tod (g : RefState → RefState) : (s.referenced r g).time.tod = s.time.tod := by
  rw [s.referenced_time r g, TimeUnit.afterSwitch_fields]

/-- A pulse counted and captured, before the discipline. -/
def sampled : State :=
  if s.resetting.isSome then s.referenced r (RefState.pulse s.mono)
  else (s.referenced r (RefState.pulse s.mono)).capture r.channel s.stamp

/-- The MARK record of a pulse (R32): outside the soft reset period and in log mode. -/
def marks (quality : Quality) : List Noted :=
  if s.resetting = none ∧ (s.channel r.channel).log = true then
    [⟨s.time.tod, quality, .mark r.channel ((s.channel r.channel).stamp s.stamp)⟩] else []

theorem sampled_logOnly : (if s.resetting.isSome then s.referenced r (RefState.pulse s.mono)
    else (s.referenced r (RefState.pulse s.mono)).pushed r.channel s.stamp).logOnly (s.sampled r) := by
  unfold sampled
  split
  · exact State.logOnly_refl _
  · exact State.capture_pushed _ _ _

theorem sampled_time : (s.sampled r).time
    = { s.time.afterSwitch (s.sampled r).time.active with refs := (s.sampled r).time.refs, channels := (s.sampled r).time.channels } := by
  have stage := s.referenced_time r (RefState.pulse s.mono)
  unfold sampled
  split
  · exact TimeUnit.of_refs stage
  · have time : ((s.referenced r (RefState.pulse s.mono)).capture r.channel s.stamp).time
        = ((s.referenced r (RefState.pulse s.mono)).pushed r.channel s.stamp).time := by
      rw [(State.capture_pushed _ _ _).1]
    rw [time]
    exact TimeUnit.of_refs_modChannel stage r.channel (fun x => x.push (((s.referenced r (RefState.pulse s.mono)).channel r.channel).stamp s.stamp))

theorem sampled_resetting (period : s.resetting ≠ none) : s.sampled r = s.referenced r (RefState.pulse s.mono) :=
  if_pos (Option.isSome_iff_ne_none.mpr period)

theorem sampled_ready (ready : s.resetting = none) :
    s.sampled r = (s.referenced r (RefState.pulse s.mono)).capture r.channel s.stamp := by
  rw [sampled, ready]
  rfl

theorem sampled_channel (k : Channel) : (s.sampled r).channel k
    = if k = r.channel ∧ s.resetting = none then (s.channel r.channel).push ((s.channel r.channel).stamp s.stamp) else s.channel k := by
  by_cases ready : s.resetting = none
  · rw [s.sampled_ready r ready, State.capture_channel, s.referenced_channel r _, s.referenced_channel r _]
    simp [ready]
  · rw [s.sampled_resetting r ready, s.referenced_channel r _]
    simp [ready]

theorem sampled_has (short : (s.channel r.channel).fifo.length ≤ 2) (ready : s.resetting = none) (q : Port) :
    AttnSet.has ((s.sampled r).port q).pending .capture
      = (AttnSet.has (s.port q).pending .capture || decide (1 ≤ (s.channel r.channel).fifo.length)) := by
  have same := s.referenced_channel r (RefState.pulse s.mono) r.channel
  rw [s.sampled_ready r ready, State.capture_has _ _ _ q (by rw [same]; exact short), same, s.referenced_has r _ q]

theorem sampled_has_resetting (period : s.resetting ≠ none) (q : Port) :
    AttnSet.has ((s.sampled r).port q).pending .capture = AttnSet.has (s.port q).pending .capture := by
  rw [s.sampled_resetting r period, s.referenced_has r _ q]

theorem sampled_referenced : s.Referenced r ((s.ref r).pulse s.mono)
    (s.marks r (s.time.afterSwitch (s.sampled r).time.active).quality) (s.sampled r) := by
  have stage := s.referenced_referenced r (RefState.pulse s.mono)
  have time := s.referenced_time r (RefState.pulse s.mono)
  by_cases ready : s.resetting = none
  · have only := State.capture_pushed (s.referenced r (RefState.pulse s.mono)) r.channel s.stamp
    have logged := State.capture_logged (s.referenced r (RefState.pulse s.mono)) r.channel s.stamp
    have refs : ((s.referenced r (RefState.pulse s.mono)).capture r.channel s.stamp).time.refs
        = (s.referenced r (RefState.pulse s.mono)).time.refs := by
      rw [only.1]
      rfl
    have active : ((s.referenced r (RefState.pulse s.mono)).capture r.channel s.stamp).time.active
        = (s.referenced r (RefState.pulse s.mono)).time.active := by
      rw [only.1]
      rfl
    have quality : (s.referenced r (RefState.pulse s.mono)).time.quality
        = (s.time.afterSwitch (s.referenced r (RefState.pulse s.mono)).time.active).quality := by
      have quality := congrArg TimeUnit.quality time
      exact quality
    rw [s.referenced_channel r, s.referenced_tod r, quality, ← active, ← s.sampled_ready r ready] at logged
    rw [← s.sampled_ready r ready] at only refs active
    have marks : s.marks r (s.time.afterSwitch (s.sampled r).time.active).quality
        = if (s.channel r.channel).log = true then [⟨s.time.tod, (s.time.afterSwitch (s.sampled r).time.active).quality,
            .mark r.channel ((s.channel r.channel).stamp s.stamp)⟩] else [] := by
      simp [State.marks, ready]
    rw [marks]
    exact stage.followed logged only.2 (only.1.trans (congrArg (fun x => { s.referenced r (RefState.pulse s.mono) with
      time := x, log := (s.sampled r).log, ports := (s.sampled r).ports }) (by rw [only.1]))) refs active
  · rw [State.marks, if_neg (fun h => ready h.1), s.sampled_resetting r ready]
    exact stage

/-! ## The pulse -/

/-- What the discipline writes for a pulse, when it is offered one. -/
def appliedRecords (e : Int) : List Noted := if s.time.active = some r then s.pulseRecords e else []

theorem refPulse_eq {dir : EdgeDir} (selected : (s.channel r.channel).edge.selects dir = true) : s.refPulse r dir
    = if (s.sampled r).time.active = some r then (s.sampled r).applyPulse s.time.tod.ns else s.sampled r := by
  have resetting : (s.referenced r (RefState.pulse s.mono)).resetting = s.resetting := by
    rw [(s.referenced_referenced r (RefState.pulse s.mono)).rest]
  unfold sampled
  rw [← resetting]
  exact if_pos selected

theorem refPulse_referenced {dir : EdgeDir} (selected : (s.channel r.channel).edge.selects dir = true) :
    s.Referenced r ((s.ref r).pulse s.mono) (s.marks r (s.time.afterSwitch (s.sampled r).time.active).quality
      ++ (s.sampled r).appliedRecords r (pulseOffset s.time.tod.ns)) (s.refPulse r dir) := by
  have stage := s.sampled_referenced r
  rw [s.refPulse_eq r selected]
  unfold appliedRecords
  split
  · have only := (s.sampled r).applyPulse_logOnly s.time.tod.ns
    have time := (s.sampled r).applyPulse_time s.time.tod.ns
    refine stage.followed ((s.sampled r).applyPulse_logged s.time.tod.ns) only.2 ?_ ?_ ?_
    · exact only.1.trans (congrArg (fun x => { s.sampled r with time := x, log := ((s.sampled r).applyPulse s.time.tod.ns).log
                                                                ports := ((s.sampled r).applyPulse s.time.tod.ns).ports }) time.symm)
    · rw [time, TimeUnit.pulsed_fields]
    · rw [time, TimeUnit.pulsed_fields]
  · rwa [List.append_nil]

end State
end Sys2Proof.Machine

/-! Reference pulses qualify, choose, are captured and recorded, and time out (O49). -/

namespace Sys2Proof.Machine

theorem CaptureState.push_stamped (c : CaptureState) (v : CaptureStamp) : c.push v = { c with
    fifo := (if c.fifo.length < 2 then c.fifo else c.fifo.tail) ++ [v], lost := c.lost || decide (2 ≤ c.fifo.length) } := by
  unfold CaptureState.push
  split
  · rename_i room
    simp [Nat.not_le.mpr room]
  · rename_i full
    simp [Nat.not_lt.mp full]

/-! ## The table of R27 -/

theorem RefState.pulse_first {r : RefState} {mono : Nat} (first : r.run = 0) : r.pulse mono = { r with run := 1, lastPulse := some mono } :=
  if_pos first

theorem RefState.pulse_good {r : RefState} {mono l : Nat} (next : r.run ≠ 0) (last : r.lastPulse = some l)
    (low : l + 999900000 ≤ mono) (high : mono ≤ l + 1000100000) :
    r.pulse mono = ⟨min 3 (r.run + 1), r.qualified || decide (2 ≤ r.run), some mono⟩ := by
  have good : goodSpacing r.lastPulse mono = true := by
    rw [last]
    exact decide_eq_true ⟨low, high⟩
  exact (if_neg next).trans (if_pos good)

theorem RefState.pulse_bad {r : RefState} {mono l : Nat} (next : r.run ≠ 0) (last : r.lastPulse = some l)
    (off : mono < l + 999900000 ∨ l + 1000100000 < mono) : r.pulse mono = ⟨1, false, some mono⟩ := by
  have bad : ¬goodSpacing r.lastPulse mono = true := by
    rw [last]
    intro good
    have spacing : l + 999900000 ≤ mono ∧ mono ≤ l + 1000100000 := of_decide_eq_true good
    omega
  exact (if_neg next).trans (if_neg bad)

namespace State
variable (s : State) (r : Ref)

theorem switchRecords_count (new : Option Ref) : (s.switchRecords new).length
    = if new = s.time.active then 0 else if (s.time.afterSwitch new).quality = s.time.quality then 1 else 2 := by
  unfold switchRecords
  split
  · rfl
  · split <;> rfl

theorem switchRecords_bodies (new : Option Ref) (x : Noted) (mem : x ∈ s.switchRecords new) : ∃ k o, x.body = .time k o := by
  unfold switchRecords at mem
  split at mem
  · cases mem
  · rcases List.mem_cons.mp mem with first | second
    · exact ⟨_, _, congrArg Noted.body first⟩
    · split at second
      · cases second
      · exact ⟨_, _, congrArg Noted.body (List.mem_singleton.mp second)⟩

theorem marks_on (quality : Quality) (on : s.resetting = none ∧ (s.channel r.channel).log = true) : s.marks r quality
    = [⟨s.time.tod, quality, .mark r.channel ((s.channel r.channel).stamp s.stamp)⟩] := if_pos on

theorem marks_off (quality : Quality) (off : ¬(s.resetting = none ∧ (s.channel r.channel).log = true)) : s.marks r quality = [] :=
  if_neg off

theorem marks_bodies (quality : Quality) (x : Noted) (mem : x ∈ s.marks r quality) : ∃ v, x.body = .mark r.channel v := by
  unfold marks at mem
  split at mem
  · exact ⟨_, congrArg Noted.body (List.mem_singleton.mp mem)⟩
  · cases mem

theorem marks_length (quality : Quality) : (s.marks r quality).length ≤ 1 := by
  unfold marks
  split <;> simp

theorem appliedRecords_bodies (e : Int) (x : Noted) (mem : x ∈ s.appliedRecords r e) :
    x.body = .time .step (-e) ∨ x.body = .time .quality e := by
  unfold appliedRecords at mem
  split at mem
  · exact s.pulseRecords_bodies e x mem
  · cases mem

theorem appliedRecords_length (e : Int) : (s.appliedRecords r e).length ≤ 2 := by
  unfold appliedRecords
  split
  · exact s.pulseRecords_length e
  · exact Nat.zero_le _

/-- The discipline follows a sampled pulse as the clock after the choice says. -/
theorem sampled_follows : (s.sampled r).time.follows = true ↔ s.time.discipline = true
    ∧ ((s.time.afterSwitch (s.sampled r).time.active).quality = .locking
      ∨ (s.time.afterSwitch (s.sampled r).time.active).quality = .locked) := by
  have time := s.sampled_time r
  have quality := congrArg TimeUnit.quality time
  have discipline := congrArg TimeUnit.discipline time
  dsimp only at quality discipline
  have kept : (s.time.afterSwitch (s.sampled r).time.active).discipline = s.time.discipline := by rw [TimeUnit.afterSwitch_fields]
  rw [TimeUnit.follows_iff, quality, discipline, kept]

/-- A pulse that the discipline does not apply. -/
theorem refPulse_unapplied {dir : EdgeDir} (selected : (s.channel r.channel).edge.selects dir = true)
    (idle : (s.sampled r).time.active ≠ some r ∨ s.time.discipline = false
      ∨ ((s.time.afterSwitch (s.sampled r).time.active).quality ≠ .locking
        ∧ (s.time.afterSwitch (s.sampled r).time.active).quality ≠ .locked)) :
    s.refPulse r dir = s.sampled r ∧ ∀ e, (s.sampled r).appliedRecords r e = [] := by
  rw [s.refPulse_eq r selected]
  unfold appliedRecords
  by_cases active : (s.sampled r).time.active = some r
  · have off : (s.sampled r).time.follows = false := by
      rw [Bool.eq_false_iff, ne_eq, s.sampled_follows r]
      rintro ⟨on, locks⟩
      rcases idle with other | free | ⟨notLocking, notLocked⟩
      · exact other active
      · rw [free] at on
        cases on
      · exact locks.elim notLocking notLocked
    rw [if_pos active]
    refine ⟨?_, fun e => ?_⟩
    · rcases (s.sampled r).applyPulse_cases s.time.tod.ns with ⟨on, -⟩ | ⟨on, -⟩ | ⟨-, kept⟩
      · rw [on] at off
        cases off
      · rw [on] at off
        cases off
      · exact kept
    · rw [if_pos active, pulseRecords, off]
      rfl
  · exact ⟨if_neg active, fun e => if_neg active⟩

theorem refPulse_fields {dir : EdgeDir} (selected : (s.channel r.channel).edge.selects dir = true) : (s.refPulse r dir).time
    = { (s.sampled r).time with
        tod := (s.refPulse r dir).time.tod, quality := (s.refPulse r dir).time.quality
        lockCount := (s.refPulse r dir).time.lockCount, f := (s.refPulse r dir).time.f, ph := (s.refPulse r dir).time.ph
        markers := (s.refPulse r dir).time.markers } := by
  rw [s.refPulse_eq r selected]
  split
  · rw [(s.sampled r).applyPulse_time]
    exact TimeUnit.pulsed_fields _ _
  · rfl

theorem refPulse_active {dir : EdgeDir} (selected : (s.channel r.channel).edge.selects dir = true) :
    (s.refPulse r dir).time.active = (s.sampled r).time.active := by
  rw [s.refPulse_fields r selected]

theorem refPulse_channel {dir : EdgeDir} (selected : (s.channel r.channel).edge.selects dir = true) (k : Channel) :
    (s.refPulse r dir).channel k = (s.sampled r).channel k := by
  have channels : (s.refPulse r dir).time.channels = (s.sampled r).time.channels := by rw [s.refPulse_fields r selected]
  exact congrArg (·[k.idx]) channels

theorem refPulse_mono {dir : EdgeDir} (selected : (s.channel r.channel).edge.selects dir = true) : (s.refPulse r dir).mono = s.mono := by
  have mono : (s.refPulse r dir).time.mono = (s.sampled r).time.mono := by rw [s.refPulse_fields r selected]
  exact mono.trans (by rw [s.sampled_time r, TimeUnit.afterSwitch_fields]; rfl)

theorem refPulse_has {dir : EdgeDir} (selected : (s.channel r.channel).edge.selects dir = true) (q : Port) :
    AttnSet.has ((s.refPulse r dir).port q).pending .capture = AttnSet.has ((s.sampled r).port q).pending .capture := by
  rw [s.refPulse_eq r selected]
  split
  · exact (s.sampled r).applyPulse_has_other _ q
  · rfl

end State

theorem TimeUnit.afterSwitch_lost {t : TimeUnit} (on : t.discipline = true) (locks : t.quality = .locked ∨ t.quality = .locking)
    (was : t.active ≠ none) : t.afterSwitch none = { t with active := none, ph := 0, lockCount := 0, quality := .holdover } := by
  unfold TimeUnit.afterSwitch
  rw [if_neg (by rintro (off | same); exacts [absurd (on.symm.trans off) (by decide), was same])]
  rcases locks with locked | locking
  · rw [locked]
  · rw [locking]

/-- Without a change of the active reference nothing is written and nothing raised. -/
theorem State.referenced_same (s : State) (r : Ref) (g : RefState → RefState)
    (same : (s.referenced r g).time.active = s.time.active) :
    (s.referenced r g).log = s.log ∧ (s.referenced r g).ports = s.ports := by
  rcases (s.modTime (fun u => u.modRef r g)).chooseActive_cases with ⟨-, kept⟩ | ⟨other, -⟩
  · rw [State.referenced, kept]
    exact ⟨rfl, rfl⟩
  · refine absurd ?_ other
    rw [State.referenced, State.chooseActive_time, TimeUnit.afterSwitch_fields] at same
    exact same

theorem exec_refPulse (r : Ref) (dir : EdgeDir) (s : State) : exec (.refPulse r dir) s = .next (s.refPulse r dir) := rfl

theorem exec_refTimeout (r : Ref) (s : State) : exec (.refTimeout r) s = .next (s.refTimeout r) := rfl

theorem CaptureState.stamp_eq (c : CaptureState) (s : State) :
    c.stamp s.stamp = match c.source with | .tod => .tod s.time.tod | .mono => .mono s.mono := rfl

/-- The records of a pulse, in the words of the statement. -/
theorem State.refPulse_records (s : State) (r : Ref) {dir : EdgeDir} (selected : (s.channel r.channel).edge.selects dir = true) :
    let t := s.refPulse r dir
    let n := s.log.records.length
    let quality := (s.time.afterSwitch t.time.active).quality
    let switched : Nat := if t.time.active = s.time.active then 0 else if quality = s.time.quality then 1 else 2
    let marked : Prop := s.resetting = none ∧ (s.channel r.channel).log = true
    (marked → n ≤ 1000 → t.log.records[n + switched]? =
      some ⟨s.log.next + BitVec.ofNat 32 switched, s.time.tod, quality, .mark r.channel ((s.channel r.channel).stamp s.stamp)⟩)
    ∧ (¬marked → n ≤ 1000 →
        (s.written t).all (fun b => match b with | .mark _ _ => false | _ => true) = true)
    ∧ ((t.time.active ≠ some r ∨ s.time.discipline = false ∨ (quality ≠ .locking ∧ quality ≠ .locked)) →
        (marked → t.log.next = s.log.next + BitVec.ofNat 32 (switched + 1))
        ∧ (¬marked → t.log.next = s.log.next + BitVec.ofNat 32 switched)) := by
  intro t n quality switched marked
  have logged := (s.refPulse_referenced r selected).logged
  have active : t.time.active = (s.sampled r).time.active := s.refPulse_active r selected
  have applied := (s.sampled r).appliedRecords_length r (pulseOffset s.time.tod.ns)
  have few := s.marks_length r quality
  have count : (s.switchRecords t.time.active).length = switched := s.switchRecords_count _
  have atMost := s.switchRecords_length t.time.active
  rw [← active] at logged
  have room (early : n ≤ 1000) : n + (s.switchRecords t.time.active ++ (s.marks r quality
      ++ (s.sampled r).appliedRecords r (pulseOffset s.time.tod.ns))).length ≤ 1024 := by
    rw [List.length_append, List.length_append]
    omega
  refine ⟨fun on early => ?_, fun off early => ?_, fun idle => ?_⟩
  · have here : (s.switchRecords t.time.active ++ (s.marks r quality
        ++ (s.sampled r).appliedRecords r (pulseOffset s.time.tod.ns)))[switched]?
        = some ⟨s.time.tod, quality, .mark r.channel ((s.channel r.channel).stamp s.stamp)⟩ := by
      rw [List.getElem?_append_right (Nat.le_of_eq count), count, Nat.sub_self, s.marks_on r quality on]
      rfl
    exact logged.record (room early) here
  · rw [logged.written (room early), s.marks_off r _ off, List.nil_append, List.all_map, List.all_eq_true]
    intro x mem
    dsimp only [Function.comp_apply]
    rcases List.mem_append.mp mem with choice | followed
    · obtain ⟨k, o, body⟩ := s.switchRecords_bodies _ x choice
      rw [body]
    · rcases (s.sampled r).appliedRecords_bodies r _ x followed with body | body <;> rw [body]
  · obtain ⟨-, nothing⟩ := s.refPulse_unapplied r selected (active ▸ idle)
    rw [nothing, List.append_nil] at logged
    refine ⟨fun on => ?_, fun off => ?_⟩
    · have next := logged.next
      rw [s.marks_on r _ on, List.length_append, count] at next
      exact next
    · have next := logged.next
      rw [s.marks_off r _ off, List.append_nil, count] at next
      exact next

/-- Settles O49: the pulse and the timeout as `State.Referenced` changes of the reference, with the capture between the
choice and the discipline. -/
theorem referencePulsesQualify : Obligations.ReferencePulsesQualify := by
  intro s r chosen
  refine ⟨fun dir => ?_, fun stopped => ?_, fun l running last => ⟨fun early => ?_, fun passed => ?_⟩⟩
  · intro c taken
    have selects : c.edge.selects dir = true ↔ taken := EdgeSetting.selects_iff _ _
    refine ⟨fun other => congrArg _ (if_neg (mt selects.mp other)), fun edge => ⟨s.refPulse r dir, rfl, ?_⟩⟩
    have selected := selects.mpr edge
    have pulse := s.refPulse_referenced r selected
    have active := s.refPulse_active r selected
    have here : (s.refPulse r dir).time.active = chosen (s.refPulse r dir) := pulse.chosen
    have self : (s.refPulse r dir).ref r = (s.ref r).pulse s.mono := (pulse.refs r).trans (if_pos rfl)
    have channel (k : Channel) := (s.refPulse_channel r selected k).trans (s.sampled_channel r k)
    have unapplied := s.refPulse_unapplied r selected
    rw [← active] at unapplied
    have time (kept : s.refPulse r dir = s.sampled r) : (s.refPulse r dir).time = { s.time.afterSwitch (s.refPulse r dir).time.active with
        refs := (s.refPulse r dir).time.refs, channels := (s.refPulse r dir).time.channels } := by
      rw [kept]
      exact s.sampled_time r
    rw [← here]
    refine ⟨fun first => self.trans (RefState.pulse_first first),
      fun l next last low high => self.trans (RefState.pulse_good next last low high),
      fun l next last off => self.trans (RefState.pulse_bad next last off),
      fun q other => (pulse.refs q).trans (if_neg other), rfl,
      fun ready => (channel r.channel).trans ((if_pos ⟨rfl, ready⟩).trans (CaptureState.push_stamped _ _)),
      fun period => (channel r.channel).trans (if_neg fun h => period h.2),
      fun k other => (channel k).trans (if_neg fun h => other h.1),
      fun ready short q => (s.refPulse_has r selected q).trans (s.sampled_has r short ready q),
      fun period q => (s.refPulse_has r selected q).trans (s.sampled_has_resetting r period q),
      s.refPulse_records r selected, fun free => ?_, ?_, fun idle => time (unapplied ?_).1,
      s.refPulse_mono r selected, pulse.raised, pulse.rest⟩
    · have kept := time (unapplied (.inr (.inl free))).1
      rwa [TimeUnit.afterSwitch_free free] at kept
    · refine pulse.switchNoted ?_ ?_
      · have applied := (s.sampled r).appliedRecords_length r (pulseOffset s.time.tod.ns)
        have few := s.marks_length r (s.time.afterSwitch (s.sampled r).time.active).quality
        rw [List.length_append]
        omega
      · intro x mem o
        rcases List.mem_append.mp mem with mark | applied
        · obtain ⟨v, body⟩ := s.marks_bodies r _ x mark
          rw [body]
          exact RecordBody.noConfusion
        · rcases (s.sampled r).appliedRecords_bodies r _ x applied with body | body <;> rw [body] <;> simp
    · rw [TimeUnit.afterSwitch_fields] at idle
      exact idle
  · rw [exec_refTimeout]
    refine congrArg _ (s.refTimeout_early r ?_)
    rw [State.refTimeoutDue, stopped]
    rfl
  · rw [exec_refTimeout]
    refine congrArg _ (s.refTimeout_early r ?_)
    rw [State.refTimeoutDue, last]
    simp only [Option.map_some, State.reached, Bool.and_eq_false_iff]
    exact .inr (decide_eq_false (Nat.not_le.mpr early))
  · have due : s.refTimeoutDue r = true := by
      rw [State.refTimeoutDue, last]
      simp only [Option.map_some, State.reached, Bool.and_eq_true, bne_iff_ne]
      exact ⟨running, decide_eq_true passed⟩
    have change := s.referenced_referenced r RefState.unqualify
    have time := s.referenced_time r RefState.unqualify
    have here : (s.referenced r RefState.unqualify).time.active = chosen (s.referenced r RefState.unqualify) := change.chosen
    refine ⟨s.referenced r RefState.unqualify, congrArg _ (s.refTimeout_due r due), (change.refs r).trans (if_pos rfl),
      fun q other => (change.refs q).trans (if_neg other), here, fun free => ?_, fun on locks some lost => ?_, ?_, ?_, ?_, ?_, ?_, ?_,
      change.raised, change.rest⟩
    · rwa [TimeUnit.afterSwitch_free free] at time
    · have holdover := TimeUnit.afterSwitch_lost on locks some
      rw [lost] at time
      rw [time]
      exact ⟨congrArg TimeUnit.quality holdover, congrArg TimeUnit.ph holdover, congrArg TimeUnit.lockCount holdover,
        change.switched fun same => some (same.symm.trans lost)⟩
    · rw [← here]
      exact time
    · rw [← here]
      exact change.switchNoted (Nat.zero_le _) (fun x mem => absurd mem List.not_mem_nil)
    · rw [← here]
      exact s.referenced_same r RefState.unqualify
    · rw [time, TimeUnit.afterSwitch_fields]
    · rw [time, TimeUnit.afterSwitch_fields]
    · rw [State.mono, time, TimeUnit.afterSwitch_fields]
      rfl

end Sys2Proof.Machine

/-! A pulse of the active reference slews the clock or steps it (O50). -/

namespace Sys2Proof.Machine

/-! ## The arithmetic of a pulse (R29) -/

theorem clampRate_eq (x : Int) : clampRate x = max (-500000) (min 500000 x) := by
  unfold clampRate clampInt
  omega

theorem Tod.add_pulseOffset (t : Tod) :
    t.add (-pulseOffset t.ns) = ⟨if t.ns < 500000000 then t.sec else t.sec + 1, 0⟩ := by
  unfold Tod.add pulseOffset
  by_cases below : t.ns < 500000000
  · simp [below]
  · have whole : (t.ns : Int) + -((t.ns : Int) - 1000000000) = 1000000000 := by omega
    simp only [if_neg below, whole]
    rfl

namespace TimeUnit
variable {t : TimeUnit} {e : Int}

theorem pulsed_far (follows : t.follows = true) (far : t.ts < e.natAbs) : t.pulsed e = (t.shift (-e)).relock :=
  (if_pos follows).trans (if_pos far)

theorem pulsed_near (follows : t.follows = true) (near : e.natAbs ≤ t.ts) : t.pulsed e = t.slew e :=
  (if_pos follows).trans (if_neg (Nat.not_lt.mpr near))

theorem slew_ph : (t.slew e).ph = -e := by
  unfold slew
  dsimp only
  split <;> rfl

theorem slew_f : (t.slew e).f = max (-500000) (min 500000 (t.f + (-e) / (2 ^ t.ki : Nat))) := by
  rw [← clampRate_eq]
  unfold slew
  dsimp only
  split <;> rfl

theorem slew_kept : (t.slew e).tod = t.tod ∧ (t.slew e).rem = t.rem ∧ (t.slew e).markers = t.markers := by
  unfold slew
  dsimp only
  split <;> exact ⟨rfl, rfl, rfl⟩

theorem slew_within (within : e.natAbs ≤ t.tl) : (t.slew e).lockCount = min 4 (t.lockCount + 1)
    ∧ (t.slew e).quality = if t.quality = .locking ∧ 3 ≤ t.lockCount then .locked else t.quality := by
  have full : min 4 (t.lockCount + 1) = 4 ↔ 3 ≤ t.lockCount := by omega
  unfold slew
  simp only [if_pos within, full]
  exact ⟨trivial, trivial⟩

theorem slew_outside (outside : t.tl < e.natAbs) (locks : t.quality = .locking ∨ t.quality = .locked) :
    (t.slew e).lockCount = 0 ∧ (t.slew e).quality = .locking := by
  unfold slew
  rw [if_neg (Nat.not_le.mpr outside)]
  rcases locks with locking | locked
  · simp [locking]
  · simp [locked]

theorem shift_relock (t : TimeUnit) (d : Int) : (t.shift d).relock = { t with
    tod := t.tod.add d, markers := t.markers.map (Marker.step t.mono t.tod d), quality := .locking, lockCount := 0, ph := 0 } := rfl

theorem of_fields {w v x : TimeUnit} (h : w = { v with
      tod := w.tod, quality := w.quality, lockCount := w.lockCount, f := w.f, ph := w.ph, markers := w.markers })
    (h' : v = { x with refs := v.refs, channels := v.channels }) : w = { x with
      tod := w.tod, quality := w.quality, lockCount := w.lockCount, f := w.f, ph := w.ph
      refs := w.refs, channels := w.channels, markers := w.markers } := by
  rw [h, h']

end TimeUnit

/-! ## The pulse -/

namespace State
variable (s : State)

theorem pulseRecords_far {e : Int} (follows : s.time.follows = true) (far : s.time.ts < e.natAbs) : s.pulseRecords e
    = ⟨(s.time.pulsed e).tod, (s.time.pulsed e).quality, .time .step (-e)⟩ :: (s.modTime (fun t => t.pulsed e)).qualityNoted s.time.quality e := by
  rw [pulseRecords, if_pos follows, if_pos far]
  rfl

theorem pulseRecords_count {e : Int} (follows : s.time.follows = true) : (s.pulseRecords e).length
    = (if s.time.ts < e.natAbs then 1 else 0) + if (s.time.pulsed e).quality = s.time.quality then 0 else 1 := by
  rw [pulseRecords, if_pos follows, List.length_append]
  unfold State.qualityNoted
  congr 1
  · split <;> rfl
  · exact apply_ite List.length _ _ _

theorem applyPulse_raises {ns : Nat} (follows : s.time.follows = true) (far : s.time.ts < (pulseOffset ns).natAbs) (q : Port) :
    AttnSet.has ((s.applyPulse ns).port q).pending .time = true := by
  rcases s.applyPulse_cases ns with ⟨-, -, eq⟩ | ⟨-, near, -⟩ | ⟨off, -⟩
  · rw [eq]
    exact State.noteStep_has _ _ _ _ q
  · omega
  · rw [follows] at off
    cases off

/-- A change of quality is the last record of a pulse, and raises TIME. -/
theorem applyPulse_changed (ns : Nat) (changed : (s.applyPulse ns).time.quality ≠ s.time.quality) :
    (∀ q, AttnSet.has ((s.applyPulse ns).port q).pending .time = true)
      ∧ (s.applyPulse ns).log.records.getLast? = some ⟨(s.applyPulse ns).log.next - 1, (s.applyPulse ns).time.tod,
          (s.applyPulse ns).time.quality, .time .quality (pulseOffset ns)⟩ := by
  have noted (u : State) (other : u.time.quality ≠ s.time.quality) (o : Int) : let v := u.noteQuality s.time.quality o
      (∀ q, AttnSet.has (v.port q).pending .time = true)
        ∧ v.log.records.getLast? = some ⟨v.log.next - 1, v.time.tod, v.time.quality, .time .quality o⟩ := by
    refine ⟨fun q => noteQuality_has _ _ _ q (.inr other), ?_⟩
    rw [noteQuality_changed other]
    have last := u.logWrite_last (.time .quality o)
    have serial : (u.logWrite (.time .quality o)).log.next - 1 = u.log.next := by
      rw [State.logWrite_next]
      exact BitVec.add_sub_cancel _ _
    have time : (u.logWrite (.time .quality o)).time = u.time := by rw [(u.logWrite_logOnly _).1]
    rw [← serial, ← time] at last
    exact last
  rcases s.applyPulse_cases ns with ⟨-, -, eq⟩ | ⟨-, -, eq⟩ | ⟨-, eq⟩
  · rw [eq] at changed ⊢
    have same : (((s.modTime (fun t => t.pulsed (pulseOffset ns))).noteStep s.time.quality (-pulseOffset ns) (pulseOffset ns))).time
        = (((s.modTime (fun t => t.pulsed (pulseOffset ns))).logWrite (.time .step (-pulseOffset ns))).raiseAll .time).time := by
      unfold State.noteStep
      rw [(State.noteQuality_logOnly _ _ _).1]
    rw [same] at changed
    exact noted _ changed _
  · rw [eq] at changed ⊢
    have same : ((s.modTime (fun t => t.pulsed (pulseOffset ns))).noteQuality s.time.quality (pulseOffset ns)).time
        = (s.modTime (fun t => t.pulsed (pulseOffset ns))).time := by
      rw [(State.noteQuality_logOnly _ _ _).1]
    rw [same] at changed
    exact noted _ changed _
  · rw [eq] at changed
    exact absurd rfl changed

end State

/-- Settles O50: the pulse of the reference that stays active is applied to the sampled state, whose clock is that before it
but for the references and the channels. -/
theorem disciplineSlewsOrSteps : Obligations.DisciplineSlewsOrSteps := by
  intro s r dir l edge active on locks qualified running last low high single e marks steps
  have selected := ((s.channel r.channel).edge.selects_iff dir).mpr edge
  have good := RefState.pulse_good running last low high
  have stage := s.sampled_referenced r
  have stays : (s.sampled r).time.active = s.time.active := by
    have self : ((s.sampled r).ref r).qualified = true := by
      rw [stage.refs r, if_pos rfl, good, qualified, Bool.true_or]
    rw [active, stage.chosen]
    cases r with
    | ref0 => exact if_pos self
    | ref1 =>
      have off : ((s.sampled .ref1).ref .ref0).qualified = false := by
        rw [stage.refs .ref0, if_neg (by decide)]
        exact single rfl
      rw [off, if_pos self]
      rfl
  have time := s.sampled_time r
  rw [stays, TimeUnit.afterSwitch_same rfl] at time
  have follows : (s.sampled r).time.follows = true := by
    rw [time]
    exact s.time.follows_iff.mpr ⟨on, locks⟩
  have pulse : s.refPulse r dir = (s.sampled r).applyPulse s.time.tod.ns :=
    (s.refPulse_eq r selected).trans (if_pos (stays.trans active))
  have clock : (s.refPulse r dir).time = (s.sampled r).time.pulsed e := by
    rw [pulse]
    exact (s.sampled r).applyPulse_time _
  have tl : (s.sampled r).time.tl = s.time.tl := by rw [time]
  have ts : (s.sampled r).time.ts = s.time.ts := by rw [time]
  have lockCount : (s.sampled r).time.lockCount = s.time.lockCount := by rw [time]
  have quality : (s.sampled r).time.quality = s.time.quality := by rw [time]
  have tod : (s.sampled r).time.tod = s.time.tod := by rw [time]
  have f : (s.sampled r).time.f = s.time.f := by rw [time]
  have ki : (s.sampled r).time.ki = s.time.ki := by rw [time]
  have logged := stage.logged
  have count : (s.marks r s.time.quality).length = marks := by
    unfold State.marks
    dsimp only [marks]
    simp only [and_comm (b := s.resetting = none)]
    exact apply_ite List.length _ _ _
  rw [stays, TimeUnit.afterSwitch_same rfl, State.switchRecords, if_pos rfl, List.nil_append] at logged
  have applied : (s.sampled r).Logged ((s.sampled r).pulseRecords e) (s.refPulse r dir) := by
    rw [pulse]
    exact (s.sampled r).applyPulse_logged s.time.tod.ns
  have whole := logged.trans applied
  have changed := (s.sampled r).applyPulse_changed s.time.tod.ns
  rw [← pulse, quality] at changed
  refine ⟨s.refPulse r dir, rfl, (s.refPulse_active r selected).trans (stays.trans active), ?_, fun near => ?_, fun far => ?_, changed,
    ?_, fun far => ⟨?_, fun early => ?_⟩, fun near => ?_, ?_, s.refPulse_mono r selected, (s.refPulse_referenced r selected).rest⟩
  · rw [s.refPulse_fields r selected, time]
    exact on
  · rw [clock, TimeUnit.pulsed_near follows (ts.symm ▸ near)]
    obtain ⟨tod', rem, -⟩ := TimeUnit.slew_kept (t := (s.sampled r).time) (e := e)
    refine ⟨TimeUnit.slew_ph, ?_, tod'.trans tod, ?_, fun within => ?_, fun outside => ?_⟩
    · rw [TimeUnit.slew_f, f, ki]
    · rw [rem, time]
    · have moved := TimeUnit.slew_within (t := (s.sampled r).time) (tl.symm ▸ within)
      rwa [quality, lockCount] at moved
    · exact TimeUnit.slew_outside (tl.symm ▸ outside) (quality.symm ▸ locks)
  · have far' : (s.sampled r).time.ts < e.natAbs := ts.symm ▸ far
    have stepped := (s.sampled r).time.shift_relock (-e)
    rw [clock, TimeUnit.pulsed_far follows far', stepped, tod]
    refine ⟨s.time.tod.add_pulseOffset, ?_, rfl, f, rfl, rfl, fun q => ?_⟩
    · rw [time]
    · rw [pulse]
      exact (s.sampled r).applyPulse_raises follows far' q
  · rw [whole.next, List.length_append, count, (s.sampled r).pulseRecords_count follows, ts, quality, ← clock, ← Nat.add_assoc]
  · refine State.markersStepped_of fun o => ?_
    have markers : (s.sampled r).time.markers = s.time.markers := by rw [time]
    have mono : (s.sampled r).time.mono = s.time.mono := by rw [time]
    rw [State.marker, clock, TimeUnit.pulsed_far follows (ts.symm ▸ far)]
    rw [TimeUnit.shift_relock, tod, markers, mono]
    exact Vector.getElem_map (xs := s.time.markers) (Marker.step s.mono s.time.tod (-e)) o.idx.isLt
  · have listed := (s.sampled r).pulseRecords_far follows (ts.symm ▸ far)
    have short := (s.sampled r).pulseRecords_length e
    have few := s.marks_length r s.time.quality
    have room : s.log.records.length + (s.marks r s.time.quality ++ (s.sampled r).pulseRecords e).length ≤ 1024 := by
      rw [List.length_append]
      omega
    have locking : (s.refPulse r dir).time.quality = .locking := by
      rw [clock, TimeUnit.pulsed_far follows (ts.symm ▸ far), TimeUnit.shift_relock]
    have here : (s.marks r s.time.quality ++ (s.sampled r).pulseRecords e)[marks]?
        = some ⟨(s.refPulse r dir).time.tod, .locking, .time .step (-e)⟩ := by
      rw [List.getElem?_append_right (Nat.le_of_eq count), count, Nat.sub_self, listed, ← locking, clock]
      rfl
    exact whole.record room here
  · rw [clock, TimeUnit.pulsed_near follows (ts.symm ▸ near), TimeUnit.slew_kept.2.2, time]
  · exact TimeUnit.of_fields (s.refPulse_fields r selected) time

end Sys2Proof.Machine

/-! The order of the ranks, and what each selection step chooses (R75, R78 to R83). -/

namespace Sys2Proof.Machine

/-! ## The rank order is by E, ties to the lower index (R75) -/

/-- Smaller E, or equal E and no larger index. -/
def RanksBefore (key : Path → Nat) (p q : Path) : Prop := key p < key q ∨ (key p = key q ∧ p.idx.val ≤ q.idx.val)

theorem insertByDelay_ordered {key : Path → Nat} {p : Path} {l : List Path} (ordered : l.Pairwise (RanksBefore key))
    (lowest : ∀ q ∈ l, p.idx.val ≤ q.idx.val) : (insertByDelay key p l).Pairwise (RanksBefore key) := by
  induction l with
  | nil => exact List.pairwise_singleton _ _
  | cons x rest ih =>
    obtain ⟨first, others⟩ := List.pairwise_cons.mp ordered
    unfold insertByDelay
    split
    · rename_i least
      refine List.pairwise_cons.mpr ⟨fun q mem => ?_, ordered⟩
      have index := lowest q mem
      unfold RanksBefore
      rcases List.mem_cons.mp mem with rfl | later
      · omega
      · have := first q later
        unfold RanksBefore at this
        omega
    · rename_i larger
      refine List.pairwise_cons.mpr ⟨fun q mem => ?_, ih others fun q mem => lowest q (List.mem_cons_of_mem _ mem)⟩
      rcases mem_insertByDelay.mp mem with rfl | later
      · exact .inl (by omega)
      · exact first q later

theorem sortByDelay_ordered {key : Path → Nat} {l : List Path} (ascending : l.Pairwise (fun p q => p.idx.val ≤ q.idx.val)) :
    (sortByDelay key l).Pairwise (RanksBefore key) := by
  induction l with
  | nil => exact List.Pairwise.nil
  | cons x rest ih =>
    obtain ⟨lowest, others⟩ := List.pairwise_cons.mp ascending
    exact insertByDelay_ordered (ih others) fun q mem => lowest q (mem_sortByDelay.mp mem)

namespace State
variable {s : State} {ok : Path → Bool} {y : Path}

theorem mem_eligibles (s : State) (q : Path) : q ∈ sortByDelay s.effDelay (Path.all.filter s.eligible) ↔ s.eligible q = true := by
  rw [mem_sortByDelay, List.mem_filter]
  exact ⟨And.right, fun able => ⟨Path.mem_all q, able⟩⟩

/-- The first path of the rank order that meets a condition of eligible paths has the least E of those that do. -/
theorem least_of_find (able : ∀ q, ok q = true → s.eligible q = true) (found : s.rankOrder.find? ok = some y) :
    ok y = true ∧ ∀ q, ok q = true → RanksBefore s.effDelay y q := by
  have meets : ok y = true := List.find?_some found
  refine ⟨meets, fun q other => ?_⟩
  unfold State.rankOrder at found
  rw [List.find?_append, Option.or_eq_some_iff] at found
  rcases found with sorted | ⟨-, ineligible⟩
  · obtain ⟨-, before, after, split, earlier⟩ := List.find?_eq_some_iff_append.mp sorted
    have ordered : (sortByDelay s.effDelay (Path.all.filter s.eligible)).Pairwise (RanksBefore s.effDelay) :=
      sortByDelay_ordered ((by decide : Path.all.Pairwise (fun p q => p.idx.val ≤ q.idx.val)).filter _)
    have member := (s.mem_eligibles q).mpr (able q other)
    rw [split] at ordered member
    rcases List.mem_append.mp member with first | rest
    · have not := earlier q first
      rw [other] at not
      cases not
    · rcases List.mem_cons.mp rest with rfl | later
      · exact .inr ⟨rfl, Nat.le_refl _⟩
      · exact (List.pairwise_cons.mp (List.pairwise_append.mp ordered).2.1).1 q later
  · have mem := List.mem_of_find?_eq_some ineligible
    have notAble := (List.mem_filter.mp mem).2
    rw [able y meets] at notAble
    cases notAble

theorem find_rankOrder_none (found : s.rankOrder.find? ok = none) (q : Path) : ok q = false :=
  Bool.eq_false_iff.mpr (List.find?_eq_none.mp found q (s.mem_rankOrder q))

/-- The head of the rank order is the best eligible path. -/
theorem bestEligible_least (best : s.bestEligible s.rankOrder = some y) :
    s.eligible y = true ∧ ∀ q, s.eligible q = true → RanksBefore s.effDelay y q := by
  obtain ⟨head, able⟩ := Option.filter_eq_some_iff.mp best
  refine least_of_find (fun q h => h) ?_
  obtain ⟨rest, order⟩ := List.head?_eq_some_iff.mp head
  rw [order]
  exact List.find?_cons_of_pos able

/-! ## The selection steps -/

theorem selectPrimary_able {x : Path} (rank : List Path) (free : s.actingPin = none)
    (kept : s.selector.primary.filter s.eligible = some x) : s.selectPrimary rank = s.improveStep rank x := by
  simp only [State.selectPrimary, free, kept]

theorem selectPrimary_lost (rank : List Path) (free : s.actingPin = none) (lost : s.selector.primary.filter s.eligible = none) :
    s.selectPrimary rank = s.fallbackStep rank := by
  simp only [State.selectPrimary, free, lost]

theorem actingPin_none (idle : ∀ q, s.selector.pin = some q → s.eligible q = false) : s.actingPin = none := by
  refine Option.filter_eq_none_iff.mpr fun q pinned able => ?_
  rw [idle q pinned] at able
  cases able

/-- A choice always changes the primary. -/
theorem selectPrimary_changes {rank : List Path} {new : Option Path} {kind : ChangeKind}
    (choice : s.selectPrimary rank = some (new, kind)) : new ≠ s.selector.primary := by
  unfold State.selectPrimary at choice
  split at choice
  · split_ifs at choice with same
    cases choice
    exact fun h => same h.symm
  · split at choice
    · rename_i x kept
      obtain ⟨-, q, rfl, found, -⟩ := State.improveStep_some choice
      have other := List.find?_some found
      rw [(Option.filter_eq_some_iff.mp kept).1]
      intro same
      cases same
      simp at other
    · rename_i lost
      unfold State.fallbackStep at choice
      dsimp only at choice
      split at choice
      · rename_i primary found
        cases choice
        rw [primary]
        exact Option.some_ne_none _
      · rename_i x q primary found
        cases choice
        rw [primary] at lost ⊢
        intro same
        cases same
        have able : s.eligible x = true := by
          rcases Option.or_eq_some_iff.mp found with best | ⟨-, best⟩
          · exact eligible_of_promotable (promotable_of_bestPromotable best)
          · exact eligible_of_bestEligible best
        exact Option.filter_eq_none_iff.mp lost x rfl able
      · rename_i x primary found
        cases choice
        rw [primary]
        exact (Option.some_ne_none _).symm
      · cases choice

/-- The improvement step (R81). -/
theorem improveStep_none {x : Path} : s.improveStep s.rankOrder x = none
    ↔ ¬∃ q, q ≠ x ∧ s.promotable q = true ∧ s.effDelay q + s.selector.hysteresis < s.effDelay x := by
  unfold State.improveStep
  cases found : s.rankOrder.find? (fun q => s.promotable q && q != x) with
  | none =>
    refine iff_of_true rfl ?_
    rintro ⟨q, other, promotable, -⟩
    have not := find_rankOrder_none found q
    simp [promotable, other] at not
  | some y =>
    obtain ⟨meets, least⟩ := least_of_find (fun q h => eligible_of_promotable (Bool.and_eq_true _ _ ▸ h).1) found
    obtain ⟨promotable, other⟩ := Bool.and_eq_true_iff.mp meets
    dsimp only
    split
    · rename_i less
      exact iff_of_false (Option.some_ne_none _) (not_not.mpr ⟨y, bne_iff_ne.mp other, promotable, less⟩)
    · rename_i notLess
      refine iff_of_true rfl ?_
      rintro ⟨q, otherQ, promotableQ, less⟩
      have before := least q (Bool.and_eq_true_iff.mpr ⟨promotableQ, bne_iff_ne.mpr otherQ⟩)
      unfold RanksBefore at before
      omega

/-- What an improvement chooses. -/
theorem improveStep_least {x : Path} {new : Option Path} {kind : ChangeKind} (choice : s.improveStep s.rankOrder x = some (new, kind)) :
    kind = .improve ∧ ∃ y, new = some y ∧ y ≠ x ∧ s.promotable y = true ∧ s.effDelay y + s.selector.hysteresis < s.effDelay x
      ∧ ∀ q, q ≠ x → s.promotable q = true → s.effDelay y ≤ s.effDelay q := by
  obtain ⟨kind, y, rfl, found, less⟩ := improveStep_some choice
  obtain ⟨meets, least⟩ := least_of_find (fun q h => eligible_of_promotable (Bool.and_eq_true _ _ ▸ h).1) found
  obtain ⟨promotable, other⟩ := Bool.and_eq_true_iff.mp meets
  refine ⟨kind, y, rfl, bne_iff_ne.mp other, promotable, less, fun q otherQ promotableQ => ?_⟩
  have before := least q (Bool.and_eq_true_iff.mpr ⟨promotableQ, bne_iff_ne.mpr otherQ⟩)
  unfold RanksBefore at before
  omega

end State
end Sys2Proof.Machine

/-! A change of primary with its record, its guard and its report to the sweep, and the re-evaluation in those words (R78 to
R83, R154). -/

namespace Sys2Proof.Machine
namespace State
variable (s : State)

/-! ## The report to the sweep (R154) -/

theorem fallbackReport_log : s.fallbackReport.log = s.log ∧ s.fallbackReport.ports = s.ports := by
  have abandoned : s.abandonProbe.log = s.log ∧ s.abandonProbe.ports = s.ports := by
    unfold State.abandonProbe
    dsimp only
    split <;> exact ⟨rfl, rfl⟩
  unfold State.fallbackReport
  dsimp only
  split
  · exact ⟨rfl, rfl⟩
  · split
    · exact abandoned
    · exact ⟨rfl, rfl⟩
    · exact ⟨rfl, rfl⟩

/-- A sweep with no settle time, at rest, or suspended by a command takes no note of a fallback. -/
theorem fallbackReport_quiet (quiet : s.sounding.settle = 0 ∨ s.sounding.state = .idle
    ∨ (s.sounding.state = .suspended ∧ s.sounding.reason = some .command)) : s.fallbackReport = s := by
  unfold State.fallbackReport
  rcases quiet with zero | idle | ⟨suspended, reason⟩
  · exact if_pos zero
  · rw [idle]
    exact ite_self _
  · rw [suspended, reason]
    exact ite_self _

theorem fallbackReport_running (settle : s.sounding.settle ≠ 0) (running : s.sounding.state = .running) :
    s.fallbackReport = s.abandonProbe.modSounding (fun x => { x with
      state := .suspended, reason := some .fallback, settleDeadline := some (s.time.mono + msToNs s.sounding.settle) }) := by
  unfold State.fallbackReport
  rw [running]
  exact if_neg settle

theorem fallbackReport_again (settle : s.sounding.settle ≠ 0) (suspended : s.sounding.state = .suspended)
    (reason : s.sounding.reason = some .fallback) : s.fallbackReport
      = s.modSounding (fun x => { x with settleDeadline := some (s.time.mono + msToNs s.sounding.settle) }) := by
  unfold State.fallbackReport
  rw [suspended, reason]
  exact if_neg settle

/-- What `t` shows of the sweep after a fallback reported to `s` (R154). -/
def FallbackReported (t : State) : Prop :=
  ((s.sounding.settle = 0 ∨ s.sounding.state = .idle ∨ (s.sounding.state = .suspended ∧ s.sounding.reason = some .command)) →
      t.sounding = s.sounding ∧ t.transmitters = s.transmitters)
  ∧ (s.sounding.settle ≠ 0 → s.sounding.state = .running →
      t.sounding = { s.sounding with
        state := .suspended, reason := some .fallback, settleDeadline := some (s.mono + s.sounding.settle * 1000000)
        pendingProbe := none, outstanding := none }
      ∧ (∀ p, t.transmitter p = if s.sounding.current = some p ∧ s.sounding.pendingProbe ≠ none then
          { s.transmitter p with probe := none } else s.transmitter p))
  ∧ (s.sounding.settle ≠ 0 → s.sounding.state = .suspended → s.sounding.reason = some .fallback →
      t.sounding = { s.sounding with settleDeadline := some (s.mono + s.sounding.settle * 1000000) }
        ∧ t.transmitters = s.transmitters)

theorem fallbackReport_reported : s.FallbackReported s.fallbackReport := by
  refine ⟨fun quiet => ?_, fun settle running => ?_, fun settle suspended reason => ?_⟩
  · rw [s.fallbackReport_quiet quiet]
    exact ⟨rfl, rfl⟩
  · rw [s.fallbackReport_running settle running]
    refine ⟨?_, fun p => (s.abandonProbe_transmitter p).trans (if_congr and_comm rfl rfl)⟩
    have abandoned := s.abandonProbe_sounding
    exact congrArg (fun x : Sounding => { x with
      state := .suspended, reason := some .fallback, settleDeadline := some (s.time.mono + msToNs s.sounding.settle) }) abandoned
  · rw [s.fallbackReport_again settle suspended reason]
    exact ⟨rfl, rfl⟩

/-! ## A change of primary -/

/-- The record of a change of primary (R82). -/
def primaryBody (new : Option Path) (kind : ChangeKind) : RecordBody :=
  .primary s.selector.primary new kind (s.selector.primary.map s.effDelay) (new.map s.effDelay)

/-- A change of primary with its record and PRIMARY, before its report. -/
def primaryNoted (new : Option Path) (kind : ChangeKind) : State :=
  ((s.modSelector (fun x => { x with primary := new, guard := s.guardAfter s.selector.primary new })).logWrite
    (s.primaryBody new kind)).raiseAll .primary

theorem primaryNoted_same (new : Option Path) (kind : ChangeKind) : (s.primaryNoted new kind).sounding = s.sounding
    ∧ (s.primaryNoted new kind).transmitters = s.transmitters ∧ (s.primaryNoted new kind).time = s.time := by
  have only := State.logOnly_trans (State.logWrite_logOnly
    (s.modSelector (fun x => { x with primary := new, guard := s.guardAfter s.selector.primary new })) (s.primaryBody new kind))
    (State.raiseAll_logOnly _ .primary)
  unfold primaryNoted
  rw [only.1]
  exact ⟨rfl, rfl, rfl⟩

theorem changePrimary_eq (new : Option Path) (kind : ChangeKind) : s.changePrimary new kind
    = if kind = .fallback ∨ kind = .loss then (s.primaryNoted new kind).fallbackReport else s.primaryNoted new kind := by
  cases kind <;> rfl

theorem changePrimary_log (new : Option Path) (kind : ChangeKind) :
    (s.changePrimary new kind).log = (s.primaryNoted new kind).log ∧ (s.changePrimary new kind).ports = (s.primaryNoted new kind).ports := by
  rw [changePrimary_eq]
  split
  · exact fallbackReport_log _
  · exact ⟨rfl, rfl⟩

theorem changePrimary_record (new : Option Path) (kind : ChangeKind) :
    (s.changePrimary new kind).log.records.getLast? = some ⟨s.log.next, s.time.tod, s.time.quality, s.primaryBody new kind⟩
      ∧ (s.changePrimary new kind).log.next = s.log.next + 1
      ∧ ∀ q, AttnSet.has ((s.changePrimary new kind).port q).pending .primary = true := by
  obtain ⟨log, ports⟩ := s.changePrimary_log new kind
  have last := (s.modSelector (fun x => { x with primary := new, guard := s.guardAfter s.selector.primary new })).logWrite_last
    (s.primaryBody new kind)
  have next := (s.modSelector (fun x => { x with primary := new, guard := s.guardAfter s.selector.primary new })).logWrite_next
    (s.primaryBody new kind)
  rw [log]
  refine ⟨last, next, fun q => ?_⟩
  rw [State.port, ports]
  exact raiseAll_has _ _ q

theorem changePrimary_quiet (new : Option Path) {kind : ChangeKind} (quiet : kind ≠ .fallback ∧ kind ≠ .loss) :
    (s.changePrimary new kind).sounding = s.sounding ∧ (s.changePrimary new kind).transmitters = s.transmitters := by
  obtain ⟨sounding, transmitters, -⟩ := s.primaryNoted_same new kind
  rw [changePrimary_eq, if_neg (by tauto)]
  exact ⟨sounding, transmitters⟩

theorem changePrimary_reported (new : Option Path) {kind : ChangeKind} (loud : kind = .fallback ∨ kind = .loss) :
    s.FallbackReported (s.changePrimary new kind) := by
  rw [changePrimary_eq, if_pos loud]
  obtain ⟨sounding, transmitters, time⟩ := s.primaryNoted_same new kind
  have reported := (s.primaryNoted new kind).fallbackReport_reported
  unfold FallbackReported State.mono State.transmitter at reported ⊢
  rw [sounding, transmitters, time] at reported
  exact reported

/-! ## A re-evaluation -/

/-- A re-evaluation that keeps the primary checks the guard and forms the dispatch set, no more. -/
theorem reEvaluate_kept (choice : s.ranked.selectPrimary s.rankOrder = none) :
    s.reEvaluate.selector.primary = s.selector.primary
      ∧ s.reEvaluate.selector.guard = s.selector.guard.filter (fun g => s.eligible g.path)
      ∧ s.reEvaluate.log = s.log ∧ s.reEvaluate.ports = s.ports ∧ s.reEvaluate.sounding = s.sounding
      ∧ s.reEvaluate.transmitters = s.transmitters := by
  rcases s.reEvaluate_cases with ⟨-, kept⟩ | ⟨new, kind, other, -⟩
  · rw [kept]
    exact ⟨rfl, rfl, rfl, rfl, rfl, rfl⟩
  · rw [show s.ranked.rankOrder = s.rankOrder from rfl, choice] at other
    cases other

theorem reEvaluate_changed {new : Option Path} {kind : ChangeKind} (choice : s.ranked.selectPrimary s.rankOrder = some (new, kind)) :
    s.reEvaluate = (s.ranked.changePrimary new kind).formDispatch := by
  rcases s.reEvaluate_cases with ⟨other, -⟩ | ⟨new', kind', other, changed⟩
  · rw [show s.ranked.rankOrder = s.rankOrder from rfl, choice] at other
    cases other
  · rw [show s.ranked.rankOrder = s.rankOrder from rfl, choice] at other
    cases other
    exact changed

/-- What a re-evaluation that changes the primary leaves of the selector, the log and attention. -/
theorem reEvaluate_changed_selector {new : Option Path} {kind : ChangeKind}
    (choice : s.ranked.selectPrimary s.rankOrder = some (new, kind)) :
    s.reEvaluate.selector.primary = new ∧ s.reEvaluate.selector.guard = s.ranked.guardAfter s.selector.primary new
      ∧ s.reEvaluate.log.records.getLast? = some ⟨s.log.next, s.time.tod, s.time.quality, s.primaryBody new kind⟩
      ∧ s.reEvaluate.log.next = s.log.next + 1 ∧ ∀ q, AttnSet.has (s.reEvaluate.port q).pending .primary = true := by
  have selector := s.ranked.changePrimary_selector new kind
  obtain ⟨last, next, raised⟩ := s.ranked.changePrimary_record new kind
  rw [s.reEvaluate_changed choice]
  exact ⟨congrArg Selector.primary selector, congrArg Selector.guard selector, last, next, raised⟩

/-- Whether the primary stays tells which of the two it was. -/
theorem reEvaluate_same (same : s.reEvaluate.selector.primary = s.selector.primary) : s.ranked.selectPrimary s.rankOrder = none := by
  cases choice : s.ranked.selectPrimary s.rankOrder with
  | none => rfl
  | some c =>
    obtain ⟨new, kind⟩ := c
    have changes : new ≠ s.ranked.selector.primary := selectPrimary_changes choice
    exact absurd ((s.reEvaluate_changed_selector choice).1.symm.trans same) changes

/-- Without an acting pin an eligible primary is replaced exactly when a promotable path improves on it by more than H (R81). -/
theorem reEvaluate_improves {x : Path} (primary : s.selector.primary = some x) (able : s.eligible x = true)
    (free : ∀ q, s.selector.pin = some q → s.eligible q = false) :
    s.ranked.selectPrimary s.rankOrder = s.ranked.improveStep s.rankOrder x
      ∧ (s.reEvaluate.selector.primary ≠ some x
        ↔ ∃ q, q ≠ x ∧ s.promotable q = true ∧ s.effDelay q + s.selector.hysteresis < s.effDelay x) := by
  have step : s.ranked.selectPrimary s.rankOrder = s.ranked.improveStep s.rankOrder x :=
    selectPrimary_able _ (actingPin_none (s := s.ranked) free) (Option.filter_eq_some_iff.mpr ⟨primary, able⟩)
  refine ⟨step, ?_⟩
  have stays : s.ranked.improveStep s.rankOrder x = none
      ↔ ¬∃ q, q ≠ x ∧ s.promotable q = true ∧ s.effDelay q + s.selector.hysteresis < s.effDelay x :=
    improveStep_none (s := s.ranked)
  rw [← not_iff_not, not_not, ← stays, ← step, ← primary]
  exact ⟨s.reEvaluate_same, fun choice => (s.reEvaluate_kept choice).1⟩

end State
end Sys2Proof.Machine

/-! The guard, an improvement and a lost primary (O41), and the selection commands (O42). -/

namespace Sys2Proof.Machine
namespace State
variable (s : State)

/-! ## A lost primary (R80) -/

/-- What the fallback step chooses: the best promotable path, else the best eligible one. -/
def bestPath : Option Path := (s.bestPromotable s.rankOrder).or (s.bestEligible s.rankOrder)

/-- The kind of a fallback (R80). -/
def lossKind : ChangeKind := match s.selector.primary, s.bestPath with
  | none, _ => .first
  | some _, some _ => .fallback
  | some _, none => .loss

theorem bestPath_promotable (some : ∃ q, s.promotable q = true) : ∃ y, s.bestPath = .some y
    ∧ s.promotable y = true ∧ ∀ q, s.promotable q = true → RanksBefore s.effDelay y q := by
  obtain ⟨q, promotable⟩ := some
  cases found : s.bestPromotable s.rankOrder with
  | none =>
    have absent := find_rankOrder_none found q
    rw [promotable] at absent
    cases absent
  | some y =>
    refine ⟨y, ?_, least_of_find (fun _ => eligible_of_promotable) found⟩
    rw [bestPath, found]
    rfl

theorem bestPath_eligible (few : ∀ q, s.promotable q = false) (some : ∃ q, s.eligible q = true) : ∃ y, s.bestPath = .some y
    ∧ s.eligible y = true ∧ ∀ q, s.eligible q = true → RanksBefore s.effDelay y q := by
  obtain ⟨q, able⟩ := some
  have noPromotable : s.bestPromotable s.rankOrder = none :=
    List.find?_eq_none.mpr fun x _ => by rw [few x]; exact Bool.false_ne_true
  cases found : s.bestEligible s.rankOrder with
  | none =>
    have absent := bestEligible_rankOrder_eq_none found q
    rw [able] at absent
    cases absent
  | some y =>
    refine ⟨y, ?_, bestEligible_least found⟩
    rw [bestPath, noPromotable, found]
    rfl

theorem bestPath_none (lost : ∀ q, s.eligible q = false) : s.bestPath = none := by
  cases found : s.bestPath with
  | none => rfl
  | some y =>
    have able : s.eligible y = true := by
      rcases Option.or_eq_some_iff.mp found with best | ⟨-, best⟩
      · exact eligible_of_promotable (promotable_of_bestPromotable best)
      · exact eligible_of_bestEligible best
    rw [lost y] at able
    cases able

/-- A re-evaluation without an eligible primary and without an acting pin. -/
theorem reEvaluate_fallsBack (lost : ∀ x, s.selector.primary = some x → s.eligible x = false)
    (free : ∀ q, s.selector.pin = some q → s.eligible q = false) :
    (s.selector.primary = none ∧ s.bestPath = none ∧ s.ranked.selectPrimary s.rankOrder = none)
      ∨ (¬(s.selector.primary = none ∧ s.bestPath = none)
        ∧ s.ranked.selectPrimary s.rankOrder = some (s.bestPath, s.lossKind)) := by
  have gone : s.ranked.selector.primary.filter s.ranked.eligible = none :=
    Option.filter_eq_none_iff.mpr fun x primary able => Bool.false_ne_true ((lost x primary).symm.trans able)
  have step : s.ranked.selectPrimary s.rankOrder = s.ranked.fallbackStep s.rankOrder :=
    selectPrimary_lost _ (actingPin_none (s := s.ranked) free) gone
  have unfolded : s.ranked.fallbackStep s.rankOrder = match s.selector.primary, s.bestPath with
    | none, some q => some (some q, .first)
    | some _, some q => some (some q, .fallback)
    | some _, none => some (none, .loss)
    | none, none => none := rfl
  rw [step, unfolded, lossKind]
  cases primary : s.selector.primary with
  | none =>
    cases best : s.bestPath with
    | none => exact .inl ⟨rfl, rfl, rfl⟩
    | some y => exact .inr ⟨fun h => Option.some_ne_none _ h.2, rfl⟩
  | some x => cases best : s.bestPath <;> exact .inr ⟨fun h => Option.some_ne_none _ h.1, rfl⟩

/-- A lost primary leaves no guard (R83). -/
theorem guardAfter_lost {old new : Option Path} (lost : ∀ x, old = some x → s.eligible x = false) : s.guardAfter old new = none := by
  unfold State.guardAfter
  split
  · rfl
  · cases old with
    | none => rfl
    | some x =>
      have able : ¬s.eligible x = true := Bool.eq_false_iff.mp (lost x rfl)
      exact (congrArg (ite _ _) (if_neg able)).trans (ite_self _)

theorem guardAfter_able {x y : Path} (able : s.eligible x = true) : s.ranked.guardAfter (some x) (some y)
    = if s.selector.guardTime = 0 ∨ (s.selector.guard.filter (fun g => s.eligible g.path)).map Guard.path = some y then none
      else some ⟨x, s.mono + s.selector.guardTime * 1000⟩ := by
  have held : ((some y).isSome && (some y == s.ranked.selector.guard.map Guard.path)) = true
      ↔ (s.selector.guard.filter (fun g => s.eligible g.path)).map Guard.path = some y := by
    rw [Option.isSome_some, Bool.true_and, beq_iff_eq, eq_comm]
    rfl
  unfold State.guardAfter
  by_cases same : (s.selector.guard.filter (fun g => s.eligible g.path)).map Guard.path = some y
  · rw [if_pos (held.mpr same), if_pos (.inr same)]
  · rw [if_neg (mt held.mp same)]
    by_cases zero : s.selector.guardTime = 0
    · exact (if_pos zero).trans (if_pos (.inl zero)).symm
    · exact ((if_neg zero).trans (if_pos able)).trans (if_neg (not_or.mpr ⟨zero, same⟩)).symm

/-- A lost primary, in the words of the statement. -/
theorem reEvaluate_lost (lost : ∀ x, s.selector.primary = some x → s.eligible x = false)
    (free : ∀ q, s.selector.pin = some q → s.eligible q = false) :
    s.reEvaluate.selector.primary = s.bestPath
      ∧ (s.selector.primary = none → s.bestPath = none →
          s.reEvaluate.log = s.log ∧ s.reEvaluate.ports = s.ports ∧ s.reEvaluate.sounding = s.sounding
            ∧ s.reEvaluate.transmitters = s.transmitters)
      ∧ (¬(s.selector.primary = none ∧ s.bestPath = none) →
          s.reEvaluate.log.records.getLast? = some ⟨s.log.next, s.time.tod, s.time.quality, s.primaryBody s.bestPath s.lossKind⟩
          ∧ s.reEvaluate.log.next = s.log.next + 1 ∧ (∀ q, AttnSet.has (s.reEvaluate.port q).pending .primary = true)
          ∧ s.reEvaluate.selector.guard = none)
      ∧ (s.selector.primary = none → s.reEvaluate.sounding = s.sounding ∧ s.reEvaluate.transmitters = s.transmitters)
      ∧ (s.selector.primary ≠ none → s.FallbackReported s.reEvaluate) := by
  rcases s.reEvaluate_fallsBack lost free with ⟨none', noPath, choice⟩ | ⟨some, choice⟩
  · obtain ⟨primary, guard, log, ports, sounding, transmitters⟩ := s.reEvaluate_kept choice
    refine ⟨?_, fun _ _ => ⟨log, ports, sounding, transmitters⟩, fun h => absurd ⟨none', noPath⟩ h, fun _ => ⟨sounding, transmitters⟩,
      fun h => absurd none' h⟩
    rw [primary, none', noPath]
  · obtain ⟨primary, guard, last, next, raised⟩ := s.reEvaluate_changed_selector choice
    have changed := s.reEvaluate_changed choice
    refine ⟨primary, fun h h' => absurd ⟨h, h'⟩ some, fun _ => ⟨last, next, raised, ?_⟩, fun wasNone => ?_, fun wasSome => ?_⟩
    · rw [guard]
      exact guardAfter_lost (s := s.ranked) lost
    · have first : s.lossKind = .first := by
        unfold lossKind
        rw [wasNone]
      rw [changed, first]
      exact changePrimary_quiet s.ranked s.bestPath ⟨by decide, by decide⟩
    · have loud : s.lossKind = .fallback ∨ s.lossKind = .loss := by
        obtain ⟨x, was⟩ := Option.ne_none_iff_exists'.mp wasSome
        unfold lossKind
        rw [was]
        cases s.bestPath with
        | none => exact .inr rfl
        | some y => exact .inl rfl
      rw [changed]
      exact changePrimary_reported s.ranked s.bestPath loud

end State

theorem exec_guardExpiry (s : State) : exec .guardExpiry s = .next s.guardExpiry := rfl

/-- Settles O41: a re-evaluation by its choice (`State.reEvaluate_kept`, `State.reEvaluate_improves`, `State.reEvaluate_lost`). -/
theorem guardAndImprovement : Obligations.GuardAndImprovement := by
  refine ⟨fun s g held => ⟨fun early => ?_, fun passed => ?_⟩, fun s x primary able free => ?_, fun s lost free => ?_⟩
  · have notDue : ¬s.reached (s.selector.guard.map Guard.deadline) = true := by
      rw [held]
      exact fun due => Nat.not_le.mpr early (of_decide_eq_true due)
    exact congrArg _ (if_neg notDue)
  · have due : s.reached (s.selector.guard.map Guard.deadline) = true := by
      rw [held]
      exact decide_eq_true passed
    have routed := (s.modSelector_routed (fun x => { x with guard := none }) fun _ => ⟨rfl, rfl, rfl, rfl, rfl⟩)
    obtain ⟨only, parameters, raised⟩ := State.routed_trans routed (State.reEvaluate_routed _)
    refine ⟨(s.modSelector (fun x => { x with guard := none })).reEvaluate, congrArg _ (if_pos due), fun same => ?_,
      State.reEvaluate_selected _, State.reEvaluate_paths _, parameters, raised, only⟩
    obtain ⟨-, guard, log, ports, -, -⟩ := State.reEvaluate_kept _ (State.reEvaluate_same _ same)
    exact ⟨guard, log, ports⟩
  · obtain ⟨step, improves⟩ := s.reEvaluate_improves primary able free
    refine ⟨improves, fun y new other => ?_⟩
    cases choice : s.ranked.selectPrimary s.rankOrder with
    | none =>
      have same := (s.reEvaluate_kept choice).1
      rw [new, primary] at same
      exact absurd (Option.some_inj.mp same) other
    | some c =>
      obtain ⟨chosen, kind⟩ := c
      obtain ⟨is, guard, -⟩ := s.reEvaluate_changed_selector choice
      have improved : s.ranked.improveStep s.ranked.rankOrder x = some (chosen, kind) := step.symm.trans choice
      obtain ⟨-, z, rfl, otherZ, promotable, less, least⟩ := State.improveStep_least improved
      obtain rfl : y = z := Option.some_inj.mp (new.symm.trans is)
      refine ⟨promotable, other, less, least, ?_⟩
      rw [guard, primary]
      exact s.guardAfter_able able
  · obtain ⟨primary, quiet, changed, first, reported⟩ := s.reEvaluate_lost lost free
    obtain ⟨only, parameters, raised⟩ := s.reEvaluate_routed
    dsimp only
    rw [primary]
    refine ⟨s.bestPath_promotable, s.bestPath_eligible, s.bestPath_none, quiet, changed, first, reported, s.reEvaluate_selected,
      s.reEvaluate_paths, parameters, raised, only⟩

end Sys2Proof.Machine

/-! The selection commands (O42). -/

namespace Sys2Proof.Machine

theorem exec_setSelection (port : Port) (args : List Byte) (s : State) : exec (.setSelection port args) s
    = .next (s.command port (selectionArgs args) Role.operates (fun a t => t.setSelection a)) := rfl

theorem exec_pinPrimary (port : Port) (args : List Byte) (s : State) : exec (.pinPrimary port args) s
    = .next (s.command port (oneByte args) Role.operates (fun index t => t.pinPrimary index)) := rfl

theorem exec_unpinPrimary (port : Port) (args : List Byte) (s : State) : exec (.unpinPrimary port args) s
    = .next (s.command port (noArgs args) Role.operates (fun _ t => .ok t.unpinPrimary)) := rfl

theorem selectionArgs_bytes {h g : Nat} (w f : Byte) (hs : h < 65536) (gs : g < 65536) :
    selectionArgs (leBytes 2 h ++ [w, f] ++ leBytes 2 g) = some ⟨h, w.toNat, f.toNat, g⟩ := by
  have read : selectionArgs (leBytes 2 h ++ [w, f] ++ leBytes 2 g)
      = some ⟨leNat (leBytes 2 h), w.toNat, f.toNat, leNat (leBytes 2 g)⟩ := rfl
  rw [read, leNat_leBytes_two hs, leNat_leBytes_two gs]

namespace State
variable (s : State) (port : Port)

/-- The answered state with a new selector, re-evaluated: the outcome of the three commands. -/
def reselected (x : Selector) : State := State.reEvaluate { s.answered port .ok with selector := x }

theorem reselected_route (x : Selector) : (s.reselected port x).Selected ∧ (s.reselected port x).paths = s.paths
    ∧ s.routeOnly (s.reselected port x) := by
  refine ⟨reEvaluate_selected _, reEvaluate_paths _, ?_⟩
  exact (reEvaluate_routed _).1

theorem reselected_parameters (x : Selector) : (s.reselected port x).selector.pin = x.pin
    ∧ (s.reselected port x).selector.hysteresis = x.hysteresis ∧ (s.reselected port x).selector.widthCode = x.widthCode
    ∧ (s.reselected port x).selector.shadow = x.shadow ∧ (s.reselected port x).selector.guardTime = x.guardTime :=
  (State.sameParameters_iff _ _).1 (reEvaluate_routed { s.answered port .ok with selector := x }).2.1

/-- An acting pin is primary after a re-evaluation, with its record where it was not (R79). -/
theorem reEvaluate_pinned {p : Path} (pinned : s.selector.pin = some p) (able : s.eligible p = true) :
    s.reEvaluate.selector.primary = some p
      ∧ (s.selector.primary ≠ some p →
          s.reEvaluate.log.records.getLast? = some ⟨s.log.next, s.time.tod, s.time.quality, s.primaryBody (some p) .pin⟩
          ∧ (∀ q, AttnSet.has (s.reEvaluate.port q).pending .primary = true) ∧ s.reEvaluate.sounding = s.sounding) := by
  have acting : s.ranked.actingPin = some p := Option.filter_eq_some_iff.mpr ⟨pinned, able⟩
  have step : s.ranked.selectPrimary s.rankOrder = if s.selector.primary = some p then none else some (some p, .pin) := by
    unfold State.selectPrimary
    rw [acting]
    rfl
  by_cases same : s.selector.primary = some p
  · rw [if_pos same] at step
    exact ⟨(s.reEvaluate_kept step).1.trans same, fun other => absurd same other⟩
  · rw [if_neg same] at step
    obtain ⟨primary, -, last, -, raised⟩ := s.reEvaluate_changed_selector step
    refine ⟨primary, fun _ => ⟨last, raised, ?_⟩⟩
    rw [s.reEvaluate_changed step]
    exact (changePrimary_quiet s.ranked (some p) ⟨by decide, by decide⟩).1

end State

/-- Settles O42: each command leaves `State.reselected`, the re-evaluation of the answered state with the new selector. -/
theorem selectionCommandsTaken : Obligations.SelectionCommandsTaken := by
  intro s port ready operator
  have right : Role.operates (s.port port).role = true := Role.operates_iff.mpr operator
  refine ⟨fun h g w f hs gs => ⟨fun bad => ?_, fun width flag => ?_⟩, fun b above => ?_, fun p b named => ?_, fun unpinned => ?_,
    fun pinned => ?_⟩
  · rw [exec_setSelection, selectionArgs_bytes w f hs gs]
    refine congrArg _ (s.command_refused port _ _ _ .argument ready right ?_)
    unfold State.setSelection
    rcases bad with wide | flag
    · cases flagOfCode f.toNat with
      | none => rfl
      | some b => exact if_neg (Nat.not_le.mpr wide)
    · rw [flagOfCode_eq_none flag]
  · have taken : exec (.setSelection port (leBytes 2 h ++ [w, f] ++ leBytes 2 g)) s = .next (s.reselected port
        { s.selector with hysteresis := h, widthCode := w.toNat, shadow := decide (f.toNat = 1), guardTime := g }) := by
      rw [exec_setSelection, selectionArgs_bytes w f hs gs]
      refine congrArg _ ((s.command_taken _ port _ _ _ ready right ?_).trans (s.reEvaluate_answered port _))
      unfold State.setSelection
      rw [flagOfCode_eq flag]
      exact if_pos width
    obtain ⟨selected, paths, only⟩ := s.reselected_route port
      { s.selector with hysteresis := h, widthCode := w.toNat, shadow := decide (f.toNat = 1), guardTime := g }
    obtain ⟨pin, hysteresis, widthCode, shadow, guardTime⟩ := s.reselected_parameters port
      { s.selector with hysteresis := h, widthCode := w.toNat, shadow := decide (f.toNat = 1), guardTime := g }
    refine ⟨_, taken, hysteresis, widthCode, shadow, guardTime, pin, selected, paths, only, rfl, fun x primary able free => ?_,
      fun same => ?_⟩
    · exact (State.reEvaluate_improves { s.answered port .ok with selector :=
        { s.selector with hysteresis := h, widthCode := w.toNat, shadow := decide (f.toNat = 1), guardTime := g } } primary able free).2
    · obtain ⟨-, guard, log, -⟩ := State.reEvaluate_kept _ (State.reEvaluate_same { s.answered port .ok with selector :=
        { s.selector with hysteresis := h, widthCode := w.toNat, shadow := decide (f.toNat = 1), guardTime := g } } same)
      exact ⟨guard, log⟩
  · rw [exec_pinPrimary]
    refine congrArg _ (s.command_refused port _ _ _ .argument ready right ?_)
    unfold State.pinPrimary
    rw [Path.ofIndex_eq_none above]
  · have taken : exec (.pinPrimary port [b]) s = .next (s.reselected port { s.selector with pin := some p }) := by
      rw [exec_pinPrimary]
      refine congrArg _ ((s.command_taken _ port _ _ _ ready right ?_).trans (s.reEvaluate_answered port _))
      unfold State.pinPrimary
      rw [named, Path.ofIndex_idx]
      rfl
    obtain ⟨selected, paths, only⟩ := s.reselected_route port { s.selector with pin := some p }
    have pin := s.reselected_parameters port { s.selector with pin := some p }
    have pinned (able : s.eligible p = true) :=
      State.reEvaluate_pinned { s.answered port .ok with selector := { s.selector with pin := some p } } rfl able
    exact ⟨_, taken, pin.1, selected, paths, only, rfl, fun able => (pinned able).1, fun able => (pinned able).2⟩
  · rw [exec_unpinPrimary]
    refine congrArg _ ((s.command_taken (s.beginTransaction port) port () Role.operates (fun _ t => .ok t.unpinPrimary) ready right ?_).trans
      (s.beginTransaction_setResult port .ok))
    exact congrArg Except.ok (if_neg (by rw [show (s.beginTransaction port).selector.pin = none from unpinned]; decide))
  · have taken : exec (.unpinPrimary port []) s = .next (s.reselected port { s.selector with pin := none }) := by
      rw [exec_unpinPrimary]
      refine congrArg _ ((s.command_taken _ port () Role.operates (fun _ t => .ok t.unpinPrimary) ready right ?_).trans
        (s.reEvaluate_answered port _))
      exact congrArg Except.ok (if_pos (Option.isSome_iff_ne_none.mpr pinned))
    obtain ⟨selected, paths, only⟩ := s.reselected_route port { s.selector with pin := none }
    have pin := s.reselected_parameters port { s.selector with pin := none }
    refine ⟨_, taken, pin.1, selected, paths, only, ?_, rfl, fun x primary able => ?_⟩
    · have raised := (State.reEvaluate_routed { s.answered port .ok with selector := { s.selector with pin := none } }).2.2
      exact (State.portsRaised.lastResult raised port).trans (s.answered_lastResult port .ok)
    · exact (State.reEvaluate_improves { s.answered port .ok with selector := { s.selector with pin := none } } primary able
        fun q other => absurd other.symm (Option.some_ne_none q)).2

end Sys2Proof.Machine

/-! The end of a transmission and the arbiter's choice after it (O26). -/

namespace Sys2Proof.Machine
namespace State
variable (s : State) (p : Path)

/-- The arbiter touches its own transmitter and the sweep alone. -/
theorem arbitrate_frame : s.arbitrate p = { s with transmitters := (s.arbitrate p).transmitters, sounding := (s.arbitrate p).sounding }
    ∧ ∀ q, q ≠ p → (s.arbitrate p).transmitter q = s.transmitter q := by
  have arbitrated := s.arbitrate_arbitrated p
  generalize s.arbitrate p = t at arbitrated
  cases arbitrated with
  | busy | disabled | nothing => exact ⟨rfl, fun _ _ => rfl⟩
  | probe => exact ⟨rfl, fun q other => by rw [State.modSounding_transmitter, State.modTransmitter_transmitter_ne _ _ _ other]⟩
  | echo | data | beacon => exact ⟨rfl, fun q other => s.modTransmitter_transmitter_ne p _ other⟩

/-- The transmitter of a path whose frame has ended, before the arbiter. -/
def released (paths : Vector PathEntry 5) : State :=
  State.modTransmitter { s with paths := paths } p (fun t => { t with
    inProgress := none, beacon := if (s.entry p).state = LocalState.disabled then (s.transmitter p).beacon else .running s.time.mono })

theorem frameTransmitEnd_released {x : InProgress} (busy : (s.transmitter p).inProgress = some x) :
    s.frameTransmitEnd p = (s.released p (if x.uncounted then s else s.modStats p (fun st => st.sent x.frame.body)).paths).arbitrate p := by
  unfold State.frameTransmitEnd released
  rw [busy]
  dsimp only
  split <;> rfl

variable {s p} {paths : Vector PathEntry 5}

theorem released_transmitter : (s.released p paths).transmitter p = { s.transmitter p with
    inProgress := none, beacon := if (s.entry p).state = .disabled then (s.transmitter p).beacon else .running s.time.mono } :=
  State.modTransmitter_transmitter_self _ p _

theorem released_inProgress : ((s.released p paths).transmitter p).inProgress = none := by rw [released_transmitter]

/-- What the arbiter makes of a released transmitter on a path in service (R14). -/
theorem released_arbitrate (same : ((s.released p paths).entry p).state = (s.entry p).state) (inService : (s.entry p).state ≠ .disabled) :
    let t := (s.released p paths).arbitrate p
    let head (b : FrameBody) : Option InProgress :=
      some ⟨⟨s.siteId, BitVec.ofNat 4 p.idx.val, (s.entry p).state, s.time.quality, b⟩, false⟩
    let after := { s.transmitter p with beacon := .running s.mono }
    (∀ e, (s.transmitter p).echo = some e → t.transmitter p = { after with
          echo := none, inProgress := head (.echo e.tag e.index (min 4294967295 (s.mono - e.arrival))) }
        ∧ t.sounding = s.sounding)
    ∧ (∀ k, (s.transmitter p).echo = none → (s.transmitter p).probe = some k →
        t.transmitter p = { after with probe := none, inProgress := head (.probe k.tag k.index) }
        ∧ t.sounding = { s.sounding with
            pendingProbe := none, lastT1 := some s.mono
            outstanding := some ⟨k.index, s.mono, s.mono + s.sounding.timeout * 1000⟩ })
    ∧ (∀ c rest, (s.transmitter p).queue = c :: rest → (s.transmitter p).echo = none →
        (s.transmitter p).probe = none →
        t.transmitter p = { after with queue := rest, inProgress := head (.data c) } ∧ t.sounding = s.sounding)
    ∧ ((s.transmitter p).echo = none → (s.transmitter p).probe = none → (s.transmitter p).queue = [] →
        t.transmitter p = { after with inProgress := none } ∧ t.sounding = s.sounding) := by
  intro t head after
  have transmitter : (s.released p paths).transmitter p = { after with inProgress := none } := by
    rw [released_transmitter, if_neg inService]
    rfl
  have idle : ((s.released p paths).transmitter p).inProgress = none := released_inProgress
  have able : ((s.released p paths).entry p).state ≠ .disabled := same.symm ▸ inService
  have frame (b : FrameBody) : (s.released p paths).startFrame p b = head b :=
    congrArg (fun x : LocalState => some (InProgress.mk ⟨s.siteId, BitVec.ofNat 4 p.idx.val, x, s.time.quality, b⟩ false)) same
  have echo : ((s.released p paths).transmitter p).echo = (s.transmitter p).echo := by rw [transmitter]
  have probe : ((s.released p paths).transmitter p).probe = (s.transmitter p).probe := by rw [transmitter]
  have queue : ((s.released p paths).transmitter p).queue = (s.transmitter p).queue := by rw [transmitter]
  refine ⟨fun e ready => ?_, fun k first ready => ?_, fun c rest ready first second => ?_, fun first second third => ?_⟩
  · have starts : t = _ := State.arbitrate_of_echo idle able (echo.trans ready)
    rw [starts]
    refine ⟨?_, rfl⟩
    rw [State.modTransmitter_transmitter_self, transmitter, frame]
    rfl
  · have starts : t = _ := State.arbitrate_of_probe idle able (echo.trans first) (probe.trans ready)
    rw [starts]
    refine ⟨?_, rfl⟩
    rw [State.modSounding_transmitter, State.modTransmitter_transmitter_self, transmitter, frame]
  · have starts : t = _ := State.arbitrate_of_data idle able (echo.trans first) (probe.trans second) (queue.trans ready)
    rw [starts]
    refine ⟨?_, rfl⟩
    rw [State.modTransmitter_transmitter_self, transmitter, frame]
  · have waits : ((s.released p paths).transmitter p).beacon ≠ .ended := by
      rw [transmitter]
      exact BeaconWait.noConfusion
    have starts : t = _ := State.arbitrate_of_nothing idle able (echo.trans first) (probe.trans second) (queue.trans third) waits
    rw [starts]
    exact ⟨transmitter, rfl⟩

end State

theorem exec_frameTransmitEnd (p : Path) (s : State) : exec (.frameTransmitEnd p) s = .next (s.frameTransmitEnd p) := rfl

theorem Stats.sent_eq (x : Stats) (b : FrameBody) : x.sent b = { x with
    txFrames := min 4294967295 (x.txFrames + 1)
    probesSent := match b with
      | .probe _ _ => min 4294967295 (x.probesSent + 1)
      | _ => x.probesSent } := by
  cases b <;> rfl

/-- Settles O26: `State.released_arbitrate` after the count. -/
theorem transmitEndChoosesNext : Obligations.TransmitEndChoosesNext := by
  intro s p x busy
  have ended := s.frameTransmitEnd_released p busy
  generalize source : (if x.uncounted then s else s.modStats p (fun st => st.sent x.frame.body)) = counted at ended
  have entry : counted.entry p = { s.entry p with stats :=
      if x.uncounted then (s.entry p).stats
      else { (s.entry p).stats with
        txFrames := min 4294967295 ((s.entry p).stats.txFrames + 1)
        probesSent := match x.frame.body with
          | .probe _ _ => min 4294967295 ((s.entry p).stats.probesSent + 1)
          | _ => (s.entry p).stats.probesSent } } := by
    rw [← source]
    split
    · rfl
    · rw [State.modStats_entry_self, Stats.sent_eq]
  have others : s.entriesBut counted p := by
    rw [← source]
    intro q other
    split
    · rfl
    · exact s.modStats_entry_ne p _ other
  obtain ⟨frame, transmitters⟩ := (s.released p counted.paths).arbitrate_frame p
  have paths : ((s.released p counted.paths).arbitrate p).paths = counted.paths := by
    rw [frame]
    rfl
  have kept (q : Path) : ((s.released p counted.paths).arbitrate p).entry q = counted.entry q := congrArg (·[q.idx]) paths
  have state : ((s.released p counted.paths).entry p).state = (s.entry p).state := by
    have state := congrArg PathEntry.state entry
    exact state
  rw [exec_frameTransmitEnd, ended]
  refine ⟨_, rfl, (kept p).trans entry, fun q other => (kept q).trans (others q other), fun q other => ?_, fun disabled => ?_,
    fun inService => State.released_arbitrate state inService, ?_⟩
  · exact (transmitters q other).trans (State.modTransmitter_transmitter_ne _ p _ other)
  · rw [State.arbitrate_of_disabled (state.trans disabled), State.released_transmitter, if_pos disabled]
    exact ⟨rfl, rfl⟩
  · rw [frame]
    rfl

end Sys2Proof.Machine

/-! Beacon waits and SET LINK (O27). -/

namespace Sys2Proof.Machine

namespace State
variable {s t u : State} {p : Path} {since : Nat}

theorem modTransmitter_modTransmitter (s : State) (p : Path) (f g : Transmitter → Transmitter) :
    (s.modTransmitter p f).modTransmitter p g = s.modTransmitter p (fun x => g (f x)) := by
  simp only [State.modTransmitter, State.transmitter]
  simp

/-! ## The end of a wait (R16) -/

theorem beaconDue_running (waiting : (s.transmitter p).beacon = .running since) :
    s.beaconDue p = decide (since + s.beaconInterval * 1000 ≤ s.mono) := by
  unfold State.beaconDue
  rw [waiting]
  rfl

theorem beaconWaitEnd_early (waiting : (s.transmitter p).beacon = .running since) (early : s.mono < since + s.beaconInterval * 1000) :
    s.beaconWaitEnd p = s := by
  refine if_neg ?_
  rw [beaconDue_running waiting]
  exact fun due => Nat.not_le.mpr early (of_decide_eq_true due)

theorem beaconWaitEnd_due (waiting : (s.transmitter p).beacon = .running since) (due : since + s.beaconInterval * 1000 ≤ s.mono) :
    s.beaconWaitEnd p = (s.modTransmitter p (fun x => { x with beacon := .ended })).arbitrate p := by
  refine if_pos ?_
  rw [beaconDue_running waiting]
  exact decide_eq_true due

theorem beaconWaitEnd_idle (idle : ∀ since, (s.transmitter p).beacon ≠ .running since) : s.beaconWaitEnd p = s := by
  refine if_neg ?_
  unfold State.beaconDue
  split
  · exact absurd ‹_› (idle _)
  · exact Bool.false_ne_true

/-- The arbiter leaves the beacon wait. -/
theorem arbitrate_beacon (s : State) (p q : Path) : ((s.arbitrate p).transmitter q).beacon = (s.transmitter q).beacon := by
  by_cases named : q = p
  · subst named
    have arbitrated := s.arbitrate_arbitrated q
    generalize s.arbitrate q = t at arbitrated
    cases arbitrated with
    | busy | disabled | nothing => rfl
    | probe => rw [State.modSounding_transmitter, State.modTransmitter_transmitter_self]
    | echo | data | beacon => rw [State.modTransmitter_transmitter_self]
  · rw [(s.arbitrate_frame p).2 q named]

/-- Between two states only transmitters and the sweep differ. -/
def TransmittersOnly (s t : State) : Prop := t = { s with transmitters := t.transmitters, sounding := t.sounding }

theorem TransmittersOnly.trans (h : s.TransmittersOnly t) (h' : t.TransmittersOnly u) : s.TransmittersOnly u := by
  unfold TransmittersOnly at *
  rw [h', h]

theorem beaconWaitEnd_frame (s : State) (p : Path) : s.TransmittersOnly (s.beaconWaitEnd p)
    ∧ ∀ q, q ≠ p → (s.beaconWaitEnd p).transmitter q = s.transmitter q := by
  unfold State.beaconWaitEnd
  split
  · obtain ⟨frame, others⟩ := (s.modTransmitter p (fun t => { t with beacon := .ended })).arbitrate_frame p
    exact ⟨frame, fun q other => (others q other).trans (s.modTransmitter_transmitter_ne p _ other)⟩
  · exact ⟨rfl, fun _ _ => rfl⟩

/-- A walk over the paths whose steps each touch their own transmitter: a path's transmitter is what its own step makes of it. -/
theorem walk_transmitter {f : State → Path → State}
    (frame : ∀ u q, State.TransmittersOnly u (f u q) ∧ ∀ x, x ≠ q → (f u q).transmitter x = u.transmitter x) (s : State) (p : Path) :
    ∃ u : State, s.TransmittersOnly u ∧ u.transmitter p = s.transmitter p
      ∧ (Path.all.foldl f s).transmitter p = (f u p).transmitter p := by
  have walk (l : List Path) (once : l.Nodup) (mem : p ∈ l) (s : State) : ∃ u : State, s.TransmittersOnly u
      ∧ u.transmitter p = s.transmitter p ∧ (l.foldl f s).transmitter p = (f u p).transmitter p := by
    induction l generalizing s with
    | nil => cases mem
    | cons q rest ih =>
      obtain ⟨absent, others⟩ := List.nodup_cons.mp once
      by_cases named : p = q
      · subst named
        have kept : (rest.foldl f (f s p)).transmitter p = (f s p).transmitter p :=
          foldl_keeps (fun u => u.transmitter p = (f s p).transmitter p) f rest
            (fun u x member held => ((frame u x).2 p fun same => absent (same ▸ member)).trans held) rfl
        exact ⟨s, rfl, rfl, kept⟩
      · obtain ⟨u, only, own, walked⟩ := ih others ((List.mem_cons.mp mem).resolve_left named) (f s q)
        obtain ⟨step, untouched⟩ := frame s q
        exact ⟨u, step.trans only, own.trans (untouched p named), walked⟩
  exact walk Path.all (by decide) (Path.mem_all p) s

/-! ## Every wait under a new interval -/

/-- The ends of all waits that are due. -/
def waitsEnded (s : State) : State := Path.all.foldl State.beaconWaitEnd s

theorem waitsEnded_frame (s : State) : s.TransmittersOnly s.waitsEnded :=
  foldl_keeps (fun u => s.TransmittersOnly u) State.beaconWaitEnd Path.all
    (fun u q _ held => held.trans (u.beaconWaitEnd_frame q).1) rfl

/-- The end of a wait is judged at the MONO and the interval that every state of the walk shares. -/
theorem TransmittersOnly.due (h : s.TransmittersOnly u) : u.mono = s.mono ∧ u.beaconInterval = s.beaconInterval := by
  rw [h]
  exact ⟨rfl, rfl⟩

theorem waitsEnded_transmitter (s : State) (p : Path) : ∃ u : State, s.TransmittersOnly u ∧ u.transmitter p = s.transmitter p
    ∧ s.waitsEnded.transmitter p = (u.beaconWaitEnd p).transmitter p :=
  walk_transmitter beaconWaitEnd_frame s p

theorem waitsEnded_idle (idle : ∀ since, (s.transmitter p).beacon ≠ .running since) : s.waitsEnded.transmitter p = s.transmitter p := by
  obtain ⟨u, -, own, ends⟩ := s.waitsEnded_transmitter p
  rw [ends, beaconWaitEnd_idle (own.symm ▸ idle), own]

theorem waitsEnded_running (waiting : (s.transmitter p).beacon = .running since) :
    (s.waitsEnded.transmitter p).beacon = .ended ↔ since + s.beaconInterval * 1000 ≤ s.mono := by
  obtain ⟨u, frame, own, ends⟩ := s.waitsEnded_transmitter p
  obtain ⟨mono, interval⟩ := frame.due
  rw [← own] at waiting
  rw [ends, ← mono, ← interval]
  by_cases due : since + u.beaconInterval * 1000 ≤ u.mono
  · rw [beaconWaitEnd_due waiting due, arbitrate_beacon, State.modTransmitter_transmitter_self]
    exact iff_of_true rfl due
  · rw [beaconWaitEnd_early waiting (Nat.lt_of_not_le due), waiting]
    exact iff_of_false BeaconWait.noConfusion due

end State

theorem exec_beaconWaitEnd (p : Path) (s : State) : exec (.beaconWaitEnd p) s = .next (s.beaconWaitEnd p) := rfl

theorem exec_setLink (port : Port) (args : List Byte) (s : State) : exec (.setLink port args) s
    = .next (s.command port (twoBytes args) Role.operates (fun us t => t.setLink us)) := rfl

/-- Settles O27: the waits one by one (`State.beaconWaitEnd_due`), and all under the new interval (`State.waitsEnded_running`). -/
theorem beaconsSent : Obligations.BeaconsSent := by
  refine ⟨fun s p since waiting => ⟨fun early => ?_, fun due busy => ?_, fun due idle first second third inService => ?_⟩,
    fun s port a b ready operator => ?_⟩
  · rw [exec_beaconWaitEnd, State.beaconWaitEnd_early waiting early]
  · rw [exec_beaconWaitEnd, State.beaconWaitEnd_due waiting due, State.arbitrate_of_busy]
    rw [State.modTransmitter_transmitter_self]
    exact busy
  · rw [exec_beaconWaitEnd, State.beaconWaitEnd_due waiting due]
    have transmitter := s.modTransmitter_transmitter_self p (fun x => { x with beacon := .ended })
    have starts := State.arbitrate_of_beacon (s := s.modTransmitter p (fun x => { x with beacon := .ended }))
      (by rw [transmitter]; exact idle) inService (by rw [transmitter]; exact first) (by rw [transmitter]; exact second)
      (by rw [transmitter]; exact third) (by rw [transmitter])
    rw [starts, State.modTransmitter_modTransmitter]
    rfl
  · intro us
    have right : Role.operates (s.port port).role = true := Role.operates_iff.mpr operator
    have read : twoBytes [a, b] = some us := congrArg some (by simp only [leNat, us]; omega)
    refine ⟨fun bad => ?_, fun low high => ?_⟩
    · rw [exec_setLink, read]
      exact congrArg _ (s.command_refused port _ _ _ .argument ready right (if_neg (by omega)))
    · have taken : exec (.setLink port [a, b]) s
          = .next ((State.waitsEnded { s.beginTransaction port with beaconInterval := us }).setResult port .ok) := by
        rw [exec_setLink, read]
        exact congrArg _ (s.command_taken _ port _ _ _ ready right (if_pos ⟨low, high⟩))
      have frame := State.waitsEnded_frame { s.beginTransaction port with beaconInterval := us }
      have running (p : Path) (since : Nat) (waiting : (s.transmitter p).beacon = .running since) :=
        State.waitsEnded_running (s := { s.beginTransaction port with beaconInterval := us }) waiting
      have others (p : Path) (idle : ∀ since, (s.transmitter p).beacon ≠ .running since) :=
        State.waitsEnded_idle (s := { s.beginTransaction port with beaconInterval := us }) idle
      generalize State.waitsEnded { s.beginTransaction port with beaconInterval := us } = t at taken frame running others
      have ports : (t.setResult port .ok).ports = (s.answered port .ok).ports := by
        rw [frame]
        have answered := congrArg State.ports (s.beginTransaction_setResult port .ok)
        exact answered
      refine ⟨_, taken, ?_, running, others, ports, ?_⟩
      · rw [frame]
        rfl
      · rw [frame]
        rfl

end Sys2Proof.Machine

/-! Local frames at the intake (O43). -/

namespace Sys2Proof.Machine
namespace State
variable (s : State)

/-! ## The counts and the copies of an intake (R96, R98) -/

theorem countTxDrop_entry (d : PathSet) (p q : Path) : (State.countTxDrop d s p).entry q
    = if q = p ∧ (d.has p && !s.hasRoom p) = true then { s.entry p with stats :=
        { (s.entry p).stats with txDrops := min 4294967295 ((s.entry p).stats.txDrops + 1) } } else s.entry q := by
  unfold State.countTxDrop
  by_cases counts : (d.has p && !s.hasRoom p) = true
  · rw [if_pos counts, State.modStats_entry]
    exact if_congr (and_iff_left counts).symm rfl rfl
  · rw [if_neg counts, if_neg fun h => counts h.2]

theorem countTxDrop_hasRoom (d : PathSet) (p q : Path) : (State.countTxDrop d s p).hasRoom q = s.hasRoom q := by
  unfold State.countTxDrop
  split <;> rfl

/-- The tx drops counted on every path of the dispatch set that has no room. -/
def txDropsCounted (d : PathSet) : State := Path.all.foldl (State.countTxDrop d) s

theorem txDropsCounted_entry (d : PathSet) (q : Path) : (s.txDropsCounted d).entry q
    = if (d.has q && !s.hasRoom q) = true then { s.entry q with stats :=
        { (s.entry q).stats with txDrops := min 4294967295 ((s.entry q).stats.txDrops + 1) } } else s.entry q := by
  cases q <;> simp only [txDropsCounted, Path.all, List.foldl, countTxDrop_entry, countTxDrop_hasRoom, reduceCtorEq, false_and, true_and,
    if_false]

theorem txDropsCounted_frame (d : PathSet) : s.txDropsCounted d = { s with paths := (s.txDropsCounted d).paths } :=
  foldl_keeps (fun u : State => u = { s with paths := u.paths }) _ _ (fun u p _ same => by
    unfold State.countTxDrop
    split
    · rw [same]
      rfl
    · exact same) rfl

/-- Copies placed on the paths of their mask. -/
def copiesPlaced (copy : DataCopy) : State := Path.all.foldl (State.placeCopy copy) s

theorem copiesPlaced_frame (copy : DataCopy) : s.TransmittersOnly (s.copiesPlaced copy) :=
  foldl_keeps (fun u : State => s.TransmittersOnly u) _ _ (fun u p _ same => same.trans (by
    unfold State.placeCopy
    split <;> exact rfl)) rfl

/-- The arbiters of the paths of a mask. -/
def maskArbitrated (mask : PathSet) : State := Path.all.foldl (fun u p => if mask.has p then u.arbitrate p else u) s

theorem arbitrateIf_frame (mask : PathSet) (u : State) (q : Path) : State.TransmittersOnly u (if mask.has q then u.arbitrate q else u)
    ∧ ∀ x, x ≠ q → (if mask.has q then u.arbitrate q else u).transmitter x = u.transmitter x := by
  split
  · exact u.arbitrate_frame q
  · exact ⟨rfl, fun _ _ => rfl⟩

theorem maskArbitrated_frame (mask : PathSet) : s.TransmittersOnly (s.maskArbitrated mask) :=
  foldl_keeps (fun u : State => s.TransmittersOnly u) _ _ (fun u p _ same => same.trans (arbitrateIf_frame mask u p).1) rfl

theorem maskArbitrated_transmitter (mask : PathSet) (p : Path) : ∃ u : State, s.TransmittersOnly u ∧ u.transmitter p = s.transmitter p
    ∧ (s.maskArbitrated mask).transmitter p = (if mask.has p then u.arbitrate p else u).transmitter p :=
  walk_transmitter (arbitrateIf_frame mask) s p

/-! ## A dispatch (R98) -/

/-- The transmitter of a path in the dispatch. -/
theorem dispatch_eq (i : StreamId) (origin : Tod) (mask : PathSet) (payload : List Byte) : s.dispatch i origin mask payload
    = ((s.modTx i (fun t => { t with next := t.next + 1, dispatched := inc32 t.dispatched })).copiesPlaced
        ⟨i, (s.txStream i).next, origin, mask, payload⟩).maskArbitrated mask := rfl

theorem dispatch_frame (i : StreamId) (origin : Tod) (mask : PathSet) (payload : List Byte) :
    (s.modTx i (fun t => { t with next := t.next + 1, dispatched := inc32 t.dispatched })).TransmittersOnly
      (s.dispatch i origin mask payload) :=
  TransmittersOnly.trans (copiesPlaced_frame _ _) (maskArbitrated_frame _ _)

/-- A path outside the mask, a busy one, and an idle one with nothing before the copy. -/
theorem dispatch_transmitter (i : StreamId) (origin : Tod) (mask : PathSet) (payload : List Byte) (p : Path) :
    let t := s.dispatch i origin mask payload
    let copy : DataCopy := ⟨i, (s.txStream i).next, origin, mask, payload⟩
    (mask.has p = false → t.transmitter p = s.transmitter p)
    ∧ (mask.has p = true → (s.transmitter p).inProgress ≠ none →
        t.transmitter p = { s.transmitter p with queue := (s.transmitter p).queue ++ [copy] })
    ∧ (mask.has p = true → (s.transmitter p).inProgress = none → (s.transmitter p).echo = none → (s.transmitter p).probe = none →
        (s.transmitter p).queue = [] → (s.entry p).state ≠ .disabled → t.transmitter p = { s.transmitter p with
          inProgress := some ⟨⟨s.siteId, BitVec.ofNat 4 p.idx.val, (s.entry p).state, s.time.quality, .data copy⟩, false⟩ }) := by
  intro t copy
  have placed : ((s.modTx i (fun t => { t with next := t.next + 1, dispatched := inc32 t.dispatched })).copiesPlaced copy).transmitter p
      = if mask.has p then { s.transmitter p with queue := (s.transmitter p).queue ++ [copy] } else s.transmitter p :=
    Within.placeCopies_transmitter copy _ p
  obtain ⟨u, frame, own, walked⟩ := maskArbitrated_transmitter
    ((s.modTx i (fun t => { t with next := t.next + 1, dispatched := inc32 t.dispatched })).copiesPlaced copy) mask p
  have only := (copiesPlaced_frame _ copy).trans frame
  rw [placed] at own
  have result : t.transmitter p = (if mask.has p then u.arbitrate p else u).transmitter p := walked
  rw [result]
  refine ⟨fun out => ?_, fun listed busy => ?_, fun listed idle echo probe queue inService => ?_⟩
  · rw [out] at own ⊢
    exact own
  · rw [listed] at own ⊢
    rw [if_pos rfl] at own ⊢
    rw [State.arbitrate_of_busy (by rw [own]; exact busy), own]
  · rw [listed] at own ⊢
    rw [if_pos rfl] at own ⊢
    have entry : u.entry p = s.entry p := by
      rw [only]
      rfl
    have head : u.startFrame p (.data copy)
        = some ⟨⟨s.siteId, BitVec.ofNat 4 p.idx.val, (s.entry p).state, s.time.quality, .data copy⟩, false⟩ := by
      rw [only]
      rfl
    rw [State.arbitrate_of_data (c := copy) (rest := []) (by rw [own]; exact idle) (by rw [entry]; exact inService) (by rw [own]; exact echo)
      (by rw [own]; exact probe) (by rw [own, queue]; rfl), State.modTransmitter_transmitter_self, own, head]
    exact congrArg (fun q : List DataCopy => { s.transmitter p with queue := q, inProgress := some (InProgress.mk
      ⟨s.siteId, BitVec.ofNat 4 p.idx.val, (s.entry p).state, s.time.quality, .data copy⟩ false) }) queue.symm

/-! ## The intake decisions (R94 to R98) -/

variable (i : StreamId) (origin : Tod) (payload : List Byte)

theorem intake_rejected (off : (s.txStream i).enabled = false) :
    s.intake i origin payload = s.modTx i (fun t => { t with rejected := inc32 t.rejected }) :=
  if_pos (by rw [off]; rfl)

theorem intake_noPath (on : (s.txStream i).enabled = true) (lost : s.selector.primary = none) :
    s.intake i origin payload = (s.modTx i (fun t => { t with dropsNoPath := inc32 t.dropsNoPath })).raiseAll .drop :=
  (if_neg (by rw [on]; decide)).trans (if_pos lost)

theorem intake_full (on : (s.txStream i).enabled = true) (primary : s.selector.primary ≠ none) (none : s.dispatchMask = 0) :
    s.intake i origin payload = ((s.txDropsCounted s.selector.dispatchSet).modTx i
      (fun t => { t with dropsFull := inc32 t.dropsFull })).raiseAll .drop :=
  ((if_neg (by rw [on]; decide)).trans (if_neg primary)).trans (if_pos none)

theorem intake_dispatched (on : (s.txStream i).enabled = true) (primary : s.selector.primary ≠ none) (some : s.dispatchMask ≠ 0) :
    s.intake i origin payload = (s.txDropsCounted s.selector.dispatchSet).dispatch i origin s.dispatchMask payload :=
  ((if_neg (by rw [on]; decide)).trans (if_neg primary)).trans (if_neg some)

theorem dispatchMask_eq {mask : PathSet} (is : ∀ p, PathSet.has mask p
    = (PathSet.has s.selector.dispatchSet p && decide ((s.transmitter p).queue.length < 32))) : mask = s.dispatchMask := by
  have same (p : Path) : PathSet.has mask p = PathSet.has s.dispatchMask p := by
    rw [is p, State.dispatchMask, Within.has_ofList_filter]
    rfl
  refine BitVec.eq_of_getLsbD_eq fun k below => ?_
  match k, below with
  | 0, _ => exact same .a
  | 1, _ => exact same .b
  | 2, _ => exact same .c
  | 3, _ => exact same .d
  | 4, _ => exact same .f

theorem room_of_mask {mask : PathSet} (is : ∀ p, PathSet.has mask p
    = (PathSet.has s.selector.dispatchSet p && decide ((s.transmitter p).queue.length < 32))) (p : Path) :
    (PathSet.has s.selector.dispatchSet p && !s.hasRoom p) = (PathSet.has s.selector.dispatchSet p && !PathSet.has mask p) := by
  have room : s.hasRoom p = decide ((s.transmitter p).queue.length < 32) := rfl
  rw [is p, room]
  cases PathSet.has s.selector.dispatchSet p <;> rfl

/-- A drop counted on a stream, with DROP raised (R95, R97). -/
theorem dropCounted (g : TxStream → TxStream) : ((s.modTx i g).raiseAll .drop).txStream i = g (s.txStream i)
    ∧ (∀ j, j ≠ i → ((s.modTx i g).raiseAll .drop).txStream j = s.txStream j)
    ∧ (∀ q, AttnSet.has (((s.modTx i g).raiseAll .drop).port q).pending .drop = true) ∧ s.portsRaised ((s.modTx i g).raiseAll .drop)
    ∧ (s.modTx i g).raiseAll .drop
      = { s with txStreams := (s.modTx i g).txStreams, ports := ((s.modTx i g).raiseAll .drop).ports } :=
  ⟨s.modTx_txStream_self i g, fun _ other => s.modTx_txStream_ne i g other, fun q => State.raiseAll_has _ _ q,
    State.portsRaised_trans (State.portsRaised_of_ports rfl) (State.raiseAll_logOnly _ _).2, rfl⟩

/-- The arrival of a local frame ended. -/
def intakeEnded : State := s.modLocal (fun l => { l with arriving := none })

theorem localFrameIntake_malformed {bytes : List Byte} (arriving : s.localPort.arriving = some ⟨origin, false⟩) (ready : s.resetting = none)
    (bad : parseLocalFrame bytes = none) : s.localFrameIntake bytes
      = (s.modLocal (fun l => { l with arriving := none })).modLocal (fun l => { l with malformed := inc32 l.malformed }) := by
  simp only [State.localFrameIntake, arriving, ready, bad, Option.isSome_none, Bool.or_self, Bool.false_eq_true, if_false]

theorem localFrameIntake_wellFormed {bytes : List Byte} (arriving : s.localPort.arriving = some ⟨origin, false⟩) (ready : s.resetting = none)
    (good : parseLocalFrame bytes = some (i, payload)) :
    s.localFrameIntake bytes = s.intakeEnded.intake i origin payload := by
  simp only [State.localFrameIntake, intakeEnded, arriving, ready, good, Option.isSome_none, Bool.or_self, Bool.false_eq_true, if_false]

end State

theorem exec_localFrameIntake (bytes : List Byte) (s : State) : exec (.localFrameIntake bytes) s = .next (s.localFrameIntake bytes) := rfl

theorem exec_localTransmitEnd (s : State) : exec .localTransmitEnd s = .next s.localTransmitEnd := rfl

theorem LocalPort.start_idle (l : LocalPort) :
    LocalPort.start { l with inProgress := none } = { l with queue := l.queue.tail, inProgress := l.queue.head? } := by
  obtain ⟨malformed, arriving, queue, inProgress⟩ := l
  cases queue <;> rfl

/-- Settles O43: the frame by the decision it meets, on the state whose arrival has ended. -/
theorem localFramesTaken : Obligations.LocalFramesTaken := by
  intro s
  refine ⟨rfl, fun idle => ?_, fun busy => ?_, fun bytes origin arriving ready => ⟨fun bad => ?_, fun i payload good => ?_⟩⟩
  · rw [exec_localTransmitEnd]
    exact congrArg _ (if_neg (by rw [idle]; decide))
  · rw [exec_localTransmitEnd, State.localTransmitEnd, if_pos (Option.isSome_iff_ne_none.mpr busy), State.modLocal, LocalPort.start_idle]
  · rw [exec_localFrameIntake, s.localFrameIntake_malformed origin arriving ready bad]
    rfl
  · have run : exec (.localFrameIntake bytes) s = .next (s.intakeEnded.intake i origin payload) := by
      rw [exec_localFrameIntake, s.localFrameIntake_wellFormed i origin payload arriving ready good]
    rw [run]
    refine ⟨fun off => ?_, fun on lost => ?_, fun mask on primary is => ?_⟩
    · rw [s.intakeEnded.intake_rejected i origin payload off]
      rfl
    · rw [s.intakeEnded.intake_noPath i origin payload on lost]
      obtain ⟨own, others, raised, kept, frame⟩ :=
        s.intakeEnded.dropCounted i (fun t => { t with dropsNoPath := inc32 t.dropsNoPath })
      exact ⟨_, rfl, own, others, raised, kept, frame⟩
    · obtain rfl : mask = s.intakeEnded.dispatchMask := s.intakeEnded.dispatchMask_eq is
      have room := s.intakeEnded.room_of_mask is
      have frame := s.intakeEnded.txDropsCounted_frame s.intakeEnded.selector.dispatchSet
      have counted := s.intakeEnded.txDropsCounted_entry s.intakeEnded.selector.dispatchSet
      have entries (p : Path) := (counted p).trans (if_congr (iff_of_eq (congrArg (· = true) (room p))) rfl rfl)
      refine ⟨fun full => ?_, fun some => ?_⟩
      · rw [s.intakeEnded.intake_full i origin payload on primary full]
        generalize s.intakeEnded.txDropsCounted s.intakeEnded.selector.dispatchSet = u at frame entries
        obtain ⟨own, others, raised, kept, dropped⟩ := u.dropCounted i (fun t => { t with dropsFull := inc32 t.dropsFull })
        have streams (j : StreamId) : u.txStream j = s.txStream j := by rw [frame]; rfl
        have ports : u.ports = s.ports := by rw [frame]; rfl
        rw [streams] at own
        refine ⟨_, rfl, own, fun j other => (others j other).trans (streams j), fun p => ?_, raised,
          State.portsRaised_trans (State.portsRaised_of_ports ports) kept, ?_⟩
        · have entry : ((u.modTx i (fun t => { t with dropsFull := inc32 t.dropsFull })).raiseAll .drop).entry p = u.entry p := by
            rw [dropped]
            rfl
          have out : PathSet.has (0 : PathSet) p = false := BitVec.getLsbD_zero
          rw [entry, entries p, full, out, Bool.not_false, Bool.and_true]
          rfl
        · rw [dropped, frame]
          rfl
      · rw [s.intakeEnded.intake_dispatched i origin payload on primary some]
        generalize s.intakeEnded.txDropsCounted s.intakeEnded.selector.dispatchSet = u at frame entries
        have only := u.dispatch_frame i origin s.intakeEnded.dispatchMask payload
        have transmitters := u.dispatch_transmitter i origin s.intakeEnded.dispatchMask payload
        have stream (j : StreamId) : u.txStream j = s.txStream j := by rw [frame]; rfl
        have transmitter (p : Path) : u.transmitter p = s.transmitter p := by rw [frame]; rfl
        have streams : (u.dispatch i origin s.intakeEnded.dispatchMask payload).txStreams
            = (u.modTx i (fun t => { t with next := t.next + 1, dispatched := inc32 t.dispatched })).txStreams := by rw [only]
        have own := u.modTx_txStream_self i (fun t => { t with next := t.next + 1, dispatched := inc32 t.dispatched })
        have others (j : StreamId) (other : j ≠ i) :=
          u.modTx_txStream_ne i (fun t => { t with next := t.next + 1, dispatched := inc32 t.dispatched }) other
        refine ⟨_, rfl, ?_, fun j other => ?_, fun p => ?_, fun p out => ?_, fun p listed busy => ?_,
          fun p listed idle echo probe queue inService => ?_, ?_⟩
        · rw [State.txStream, streams]
          exact own.trans (by rw [stream]; rfl)
        · rw [State.txStream, streams]
          exact (others j other).trans (stream j)
        · have entry : (u.dispatch i origin s.intakeEnded.dispatchMask payload).entry p = u.entry p := by
            rw [only]
            rfl
          rw [entry, entries p]
          rfl
        · exact ((transmitters p).1 out).trans (transmitter p)
        · have placed := (transmitters p).2.1 listed (by rw [transmitter]; exact busy)
          rwa [stream, transmitter] at placed
        · have state : (u.entry p).state = (s.entry p).state := by
            rw [entries p]
            split <;> rfl
          have clock : u.siteId = s.siteId ∧ u.time = s.time := by
            rw [frame]
            exact ⟨rfl, rfl⟩
          have starts := (transmitters p).2.2 listed (by rw [transmitter]; exact idle) (by rw [transmitter]; exact echo)
            (by rw [transmitter]; exact probe) (by rw [transmitter]; exact queue) (by rw [state]; exact inService)
          rwa [stream, transmitter, state, clock.1, clock.2] at starts
        · rw [only, frame]
          rfl

end Sys2Proof.Machine

/-! A command's result is set before its effects or after them: the sweep and the path states (R39, R44, R145, R150). -/

namespace Sys2Proof.Machine
namespace State
variable (s : State) (port : Port) (r : ResultCode)

theorem setResult_modEntry (p : Path) (g : PathEntry → PathEntry) :
    (s.setResult port r).modEntry p g = (s.modEntry p g).setResult port r := rfl

theorem setResult_modTransmitter (p : Path) (g : Transmitter → Transmitter) :
    (s.setResult port r).modTransmitter p g = (s.modTransmitter p g).setResult port r := rfl

theorem setResult_modSounding (g : Sounding → Sounding) : (s.setResult port r).modSounding g = (s.modSounding g).setResult port r := rfl

theorem setResult_entry (p : Path) : (s.setResult port r).entry p = s.entry p := rfl

theorem setResult_transmitter (p : Path) : (s.setResult port r).transmitter p = s.transmitter p := rfl

theorem setResult_sounding : (s.setResult port r).sounding = s.sounding := rfl

theorem setResult_time : (s.setResult port r).time = s.time := rfl

theorem startReport_setResult (body : FrameBody) : (s.setResult port r).startReport body = (s.startReport body).setResult port r := by
  cases body <;> rfl

theorem arbitrate_setResult (p : Path) : (s.setResult port r).arbitrate p = (s.arbitrate p).setResult port r := by
  unfold State.arbitrate
  dsimp only
  rw [setResult_transmitter, setResult_entry, setResult_time, show (s.setResult port r).fillHead p = s.fillHead p from rfl]
  split
  · rfl
  · split
    · rw [setResult_modTransmitter, startReport_setResult]
    · rfl

theorem recomputeDelay_setResult (p : Path) : (s.setResult port r).recomputeDelay p = (s.recomputeDelay p).setResult port r := by
  unfold State.recomputeDelay
  dsimp only
  rw [setResult_entry]
  split
  · rfl
  · rw [setResult_modEntry, State.reEvaluate_setResult]

theorem modScore_setResult (p : Path) (g : Nat → Nat) : (s.setResult port r).modScore p g = (s.modScore p g).setResult port r := by
  rw [State.modScore, setResult_modEntry, recomputeDelay_setResult, State.modScore]

theorem burstReport_setResult (p : Path) (result : BurstResult) (sample : Nat) : (s.setResult port r).burstReport p result sample
    = ((s.burstReport p result sample).1.setResult port r, (s.burstReport p result sample).2) := by
  unfold State.burstReport
  cases result with
  | ok =>
    dsimp only
    rw [setResult_modEntry, recomputeDelay_setResult, setResult_entry]
  | failed =>
    dsimp only
    rw [modScore_setResult]
  | aborted | skipped => rfl

theorem endSweep_setResult : (s.setResult port r).endSweep = s.endSweep.setResult port r := by
  rw [State.endSweep, setResult_modSounding, State.raiseAll_setResult, State.endSweep]

theorem issueProbe_setResult (p : Path) : (s.setResult port r).issueProbe p = (s.issueProbe p).setResult port r := by
  unfold State.issueProbe
  dsimp only
  rw [setResult_sounding, setResult_modTransmitter, setResult_modSounding, arbitrate_setResult]

theorem beginBurst_setResult (p : Path) : (s.setResult port r).beginBurst p = (s.beginBurst p).setResult port r := by
  rw [State.beginBurst, setResult_modSounding, issueProbe_setResult, State.beginBurst]

theorem pathTurn_setResult (fuel : Nat) (s : State) : (s.setResult port r).pathTurn fuel = (s.pathTurn fuel).setResult port r := by
  induction fuel generalizing s with
  | zero => rfl
  | succ fuel ih =>
    unfold State.pathTurn
    dsimp only
    rw [setResult_sounding]
    split
    · exact s.endSweep_setResult port r
    · rw [setResult_modSounding, setResult_entry]
      split
      · rw [State.logWrite_setResult, ih]
      · rw [State.logWrite_setResult, ih]
      · exact beginBurst_setResult _ port r _

/-- What follows the SOUND record of a burst (R150): the end of the sweep, the next turn, or a wait. -/
def afterSound : State :=
  if s.sounding.remaining = 0 then s.endSweep else if s.sounding.state = .running then s.pathTurn turnFuel else s

/-- The record of a burst that ends, with the path's entry after the report (R150). -/
def soundNoted (p : Path) (result : BurstResult) (x : Sounding) (held : Bool) : State :=
  (s.logWrite (.sound p result x.valid x.lost x.minimum (s.entry p).delay held)).modSounding (fun x => { x with current := none })

theorem endBurst_eq (p : Path) (result : BurstResult) : s.endBurst p result
    = ((s.burstReport p result (s.sounding.minimum.getD 0)).1.soundNoted p result s.sounding
        (s.burstReport p result (s.sounding.minimum.getD 0)).2).afterSound := rfl

theorem afterSound_setResult : (s.setResult port r).afterSound = s.afterSound.setResult port r := by
  unfold afterSound
  rw [setResult_sounding, endSweep_setResult, pathTurn_setResult]
  split
  · rfl
  · split <;> rfl

theorem soundNoted_setResult (p : Path) (result : BurstResult) (x : Sounding) (held : Bool) :
    (s.setResult port r).soundNoted p result x held = (s.soundNoted p result x held).setResult port r := by
  rw [soundNoted, setResult_entry, State.logWrite_setResult, setResult_modSounding, soundNoted]

theorem endBurst_setResult (p : Path) (result : BurstResult) : (s.setResult port r).endBurst p result = (s.endBurst p result).setResult port r := by
  rw [endBurst_eq, setResult_sounding, burstReport_setResult, soundNoted_setResult, afterSound_setResult, endBurst_eq]

theorem continueBurst_setResult : (s.setResult port r).continueBurst = s.continueBurst.setResult port r := by
  unfold State.continueBurst
  rw [setResult_sounding, show (s.setResult port r).spacingReached = s.spacingReached from rfl]
  split
  · rfl
  · split
    · exact s.endBurst_setResult port r _ _
    · split
      · exact s.issueProbe_setResult port r _
      · rfl

theorem soundingReport_setResult (p : Path) (new : LocalState) :
    (s.setResult port r).soundingReport p new = (s.soundingReport p new).setResult port r := by
  unfold State.soundingReport
  rw [setResult_sounding]
  split
  · cases new with
    | disabled | failed =>
      dsimp only
      rw [State.abandonProbe_setResult, endBurst_setResult]
    | recovering | fading | active => rfl
  · rfl

theorem transmitterReport_setResult (p : Path) (new : LocalState) :
    (s.setResult port r).transmitterReport p new = (s.transmitterReport p new).setResult port r := by
  cases new <;> rfl

theorem setLocalState_setResult (p : Path) (new : LocalState) (reason : Reason) :
    (s.setResult port r).setLocalState p new reason = (s.setLocalState p new reason).setResult port r := by
  unfold State.setLocalState
  dsimp only
  rw [setResult_entry, setResult_time, setResult_modEntry, State.logWrite_setResult, State.raiseAll_setResult, State.reEvaluate_setResult,
    transmitterReport_setResult, soundingReport_setResult]

theorem evaluateUpTo_setResult (n : Nat) (p : Path) (s : State) :
    (s.setResult port r).evaluateUpTo n p = (s.evaluateUpTo n p).setResult port r := by
  induction n generalizing s with
  | zero => rfl
  | succ n ih =>
    unfold State.evaluateUpTo
    rw [show (s.setResult port r).transition p = s.transition p from rfl]
    split
    · rw [setLocalState_setResult, ih]
    · rfl

theorem evaluate_setResult (p : Path) : (s.setResult port r).evaluate p = (s.evaluate p).setResult port r :=
  evaluateUpTo_setResult port r 3 p s

theorem setFar_setResult (p : Path) (far : Option LocalState) (quality : Option Quality) :
    (s.setResult port r).setFar p far quality = (s.setFar p far quality).setResult port r := by
  unfold State.setFar
  dsimp only
  rw [setResult_modEntry, setResult_entry]
  split
  · rfl
  · exact State.reEvaluate_setResult _ port r

end State
end Sys2Proof.Machine

/-! The turns of a sweep: the probe that a burst issues, the paths passed over, and the end of the sweep (R145, R146). -/

namespace Sys2Proof.Machine

/-! ## Sets of paths -/

theorem PathSet.has_remove (m : PathSet) (p q : Path) : PathSet.has (m.remove p) q = (PathSet.has m q && decide (q ≠ p)) := by
  unfold PathSet.has PathSet.remove PathSet.single
  cases p <;> cases q <;> simp [Path.idx]

theorem PathSet.eq_zero {m : PathSet} (empty : ∀ q, PathSet.has m q = false) : m = 0 := by
  refine BitVec.eq_of_getLsbD_eq fun k below => ?_
  match k, below with
  | 0, _ => exact empty .a
  | 1, _ => exact empty .b
  | 2, _ => exact empty .c
  | 3, _ => exact empty .d
  | 4, _ => exact empty .f

/-- The paths of a set, in index order. -/
def PathSet.paths (m : PathSet) : List Path := Path.all.filter (PathSet.has m)

namespace PathSet
variable {m : PathSet} {p q : Path} {rest : List Path}

theorem mem_paths : q ∈ PathSet.paths m ↔ PathSet.has m q = true := by
  simp [PathSet.paths, Path.mem_all]

theorem paths_ascending (m : PathSet) : (PathSet.paths m).Pairwise (fun p q => p.idx.val < q.idx.val) :=
  (by decide : Path.all.Pairwise (fun p q => p.idx.val < q.idx.val)).filter _

theorem lowest_eq (m : PathSet) : PathSet.lowest m = (PathSet.paths m).head? := (List.head?_filter).symm

theorem paths_remove (first : PathSet.paths m = p :: rest) : PathSet.paths (PathSet.remove m p) = rest := by
  have ascending := PathSet.paths_ascending m
  rw [first, List.pairwise_cons] at ascending
  have filtered : PathSet.paths (PathSet.remove m p) = (PathSet.paths m).filter (fun q => decide (q ≠ p)) := by
    unfold PathSet.paths
    rw [List.filter_filter]
    refine List.filter_congr fun q _ => ?_
    rw [PathSet.has_remove, Bool.and_comm]
  rw [filtered, first, List.filter_cons_of_neg (by simp)]
  refine List.filter_eq_self.mpr fun q later => decide_eq_true ?_
  rintro rfl
  exact absurd (ascending.1 q later) (Nat.lt_irrefl _)

end PathSet

/-! ## The issue of a probe (R146) -/

namespace State
variable (s : State)

/-- The transmitter and the sweep with the probe pending, before the arbiter. -/
def probeSet (p : Path) : State :=
  (s.modTransmitter p (fun t => { t with probe := some ⟨s.sounding.tag, s.sounding.probeIndex⟩ })).modSounding
    (fun x => { x with pendingProbe := some s.sounding.probeIndex, probeIndex := s.sounding.probeIndex + 1 })

theorem issueProbe_eq (p : Path) : s.issueProbe p = (s.probeSet p).arbitrate p := rfl

theorem probeSet_transmitter (p : Path) :
    (s.probeSet p).transmitter p = { s.transmitter p with probe := some ⟨s.sounding.tag, s.sounding.probeIndex⟩ } := by
  rw [probeSet, State.modSounding_transmitter, State.modTransmitter_transmitter_self]

theorem issueProbe_issued (p : Path) : s.probeIssued (s.issueProbe p) p := by
  have own := s.probeSet_transmitter p
  have idleIff : ((s.probeSet p).transmitter p).inProgress = (s.transmitter p).inProgress := by rw [own]
  have echoIff : ((s.probeSet p).transmitter p).echo = (s.transmitter p).echo := by rw [own]
  have probeIs : ((s.probeSet p).transmitter p).probe = some ⟨s.sounding.tag, s.sounding.probeIndex⟩ := by rw [own]
  obtain ⟨frame, others⟩ := (s.probeSet p).arbitrate_frame p
  rw [← issueProbe_eq] at frame others
  refine ⟨fun held => ?_, fun idle inService first => ?_, fun e idle inService ready => ?_, fun q other => ?_, ?_⟩
  · have stays : s.issueProbe p = s.probeSet p := by
      rw [issueProbe_eq]
      rcases held with busy | disabled
      · exact State.arbitrate_of_busy (idleIff ▸ busy)
      · exact State.arbitrate_of_disabled disabled
    rw [stays]
    exact ⟨rfl, own⟩
  · have starts := State.arbitrate_of_probe (idleIff.trans idle) inService (echoIff.trans first) probeIs
    rw [issueProbe_eq, starts]
    refine ⟨rfl, ?_⟩
    rw [State.modSounding_transmitter, State.modTransmitter_transmitter_self, own]
    rfl
  · have starts := State.arbitrate_of_echo (idleIff.trans idle) inService (echoIff.trans ready)
    rw [issueProbe_eq, starts]
    refine ⟨rfl, ?_⟩
    rw [State.modTransmitter_transmitter_self, own]
    rfl
  · rw [others q other, probeSet, State.modSounding_transmitter, State.modTransmitter_transmitter_ne _ _ _ other]
  · rw [frame]
    rfl

end State
end Sys2Proof.Machine

/-! The next turn of a sweep (R145). -/

namespace Sys2Proof.Machine
namespace State
variable (s : State)

/-! ## The paths passed over -/

/-- A path passed over at its turn. -/
def turnSkipped (p : Path) : State :=
  (s.modSounding (fun x => { x with remaining := x.remaining.remove p })).logWrite (.sound p .skipped 0 0 none (s.entry p).delay false)

def turnsSkipped (l : List Path) : State := l.foldl turnSkipped s

/-- What the SKIPPED record of a path shows. -/
def skipNoted (p : Path) : Noted := ⟨s.time.tod, s.time.quality, .sound p .skipped 0 0 none (s.entry p).delay false⟩

/-- Between two states only the remaining paths, the log and attention differ. -/
structure Skipped (s t : State) : Prop where
  frame : t = { s with sounding := { s.sounding with remaining := t.sounding.remaining }, log := t.log, ports := t.ports }
  raised : s.portsRaised t

theorem Skipped.trans {s t u : State} (h : s.Skipped t) (h' : t.Skipped u) : s.Skipped u := by
  refine ⟨?_, State.portsRaised_trans h.raised h'.raised⟩
  rw [h'.frame, h.frame]

theorem turnSkipped_skipped (p : Path) : s.Skipped (s.turnSkipped p) := by
  have only := State.logWrite_logOnly (s.modSounding (fun x => { x with remaining := x.remaining.remove p }))
    (.sound p .skipped 0 0 none (s.entry p).delay false)
  refine ⟨?_, State.portsRaised_trans (State.portsRaised_of_ports rfl) only.2⟩
  unfold turnSkipped
  rw [only.1]
  rfl

theorem turnSkipped_sounding (p : Path) : (s.turnSkipped p).sounding = { s.sounding with remaining := s.sounding.remaining.remove p } := by
  unfold turnSkipped
  rw [(State.logWrite_logOnly _ _).1]
  rfl

theorem turnSkipped_logged (p : Path) : s.Logged [s.skipNoted p] (s.turnSkipped p) := by
  have written := State.logWrite_logged (s.modSounding (fun x => { x with remaining := x.remaining.remove p }))
    (.sound p .skipped 0 0 none (s.entry p).delay false)
  exact written.after rfl

theorem Skipped.entry {s t : State} (h : s.Skipped t) (q : Path) : t.entry q = s.entry q := by
  rw [h.frame]
  rfl

theorem Skipped.noted {s t : State} (h : s.Skipped t) : t.skipNoted = s.skipNoted := by
  rw [h.frame]
  rfl

theorem Skipped.out {s t : State} (h : s.Skipped t) : t.outOfService = s.outOfService := by
  rw [h.frame]
  rfl

theorem turnsSkipped_skipped (l : List Path) : s.Skipped (s.turnsSkipped l) :=
  foldl_keeps (fun u => s.Skipped u) turnSkipped l (fun u p _ held => held.trans (u.turnSkipped_skipped p)) ⟨rfl, s.portsRaised_refl⟩

theorem turnsSkipped_logged (l : List Path) : s.Logged (l.map s.skipNoted) (s.turnsSkipped l) := by
  induction l generalizing s with
  | nil => exact .of_log rfl
  | cons p rest ih =>
    have later := ih (s.turnSkipped p)
    rw [(s.turnSkipped_skipped p).noted] at later
    exact (s.turnSkipped_logged p).trans later

theorem turnsSkipped_remaining (l : List Path) (q : Path) :
    PathSet.has (s.turnsSkipped l).sounding.remaining q = (PathSet.has s.sounding.remaining q && decide (q ∉ l)) := by
  induction l generalizing s with
  | nil => simp [turnsSkipped]
  | cons p rest ih =>
    have later := ih (s.turnSkipped p)
    rw [turnSkipped_sounding, PathSet.has_remove] at later
    rw [turnsSkipped, List.foldl_cons]
    refine later.trans ?_
    simp only [List.mem_cons, not_or, Bool.decide_and, Bool.and_assoc]

/-! ## The turn -/

/-- A turn on a path that is out of service passes on. -/
theorem pathTurn_skip (fuel : Nat) {p : Path} (first : s.sounding.remaining.lowest = some p) (out : s.outOfService p = true) :
    s.pathTurn (fuel + 1) = (s.turnSkipped p).pathTurn fuel := by
  have states : (s.entry p).state = .disabled ∨ (s.entry p).state = .failed := by
    simpa [State.outOfService] using out
  have entry : (s.modSounding (fun x => { x with remaining := x.remaining.remove p })).entry p = s.entry p := rfl
  rw [State.pathTurn]
  simp only [first, entry]
  rcases states with disabled | failed
  · simp only [disabled]
    rfl
  · simp only [failed]
    rfl

/-- A turn on a path in service begins its burst. -/
theorem pathTurn_begin (fuel : Nat) {p : Path} (first : s.sounding.remaining.lowest = some p) (inService : s.outOfService p = false) :
    s.pathTurn (fuel + 1) = (s.modSounding (fun x => { x with remaining := x.remaining.remove p })).beginBurst p := by
  have entry : (s.modSounding (fun x => { x with remaining := x.remaining.remove p })).entry p = s.entry p := rfl
  rw [State.pathTurn]
  simp only [first, entry]
  unfold State.outOfService at inService
  cases state : (s.entry p).state with
  | disabled | failed =>
    rw [state] at inService
    cases inService
  | recovering | fading | active => rfl

/-- A turn with no path left ends the sweep. -/
theorem pathTurn_end (fuel : Nat) (none' : s.sounding.remaining.lowest = none) : s.pathTurn (fuel + 1) = s.endSweep := by
  rw [State.pathTurn]
  simp only [none']

/-- The turn as the paths passed over, then a burst or the end. -/
theorem pathTurn_eq (fuel : Nat) (enough : s.sounding.remaining.paths.length < fuel) :
    (∀ p, s.turnPath = some p → s.pathTurn fuel
        = ((s.turnsSkipped s.skippedTurns).modSounding (fun x => { x with remaining := x.remaining.remove p })).beginBurst p)
      ∧ (s.turnPath = none → s.pathTurn fuel = (s.turnsSkipped s.skippedTurns).endSweep) := by
  have turn : s.turnPath = (s.sounding.remaining.paths.dropWhile s.outOfService).head? := rfl
  have skips : s.skippedTurns = s.sounding.remaining.paths.takeWhile s.outOfService := rfl
  rw [turn, skips]
  generalize listed : s.sounding.remaining.paths = l at enough
  induction l generalizing s fuel with
  | nil =>
    obtain ⟨fuel, rfl⟩ := Nat.exists_eq_add_one_of_ne_zero (Nat.ne_of_gt enough)
    have none' : s.sounding.remaining.lowest = none := by rw [PathSet.lowest_eq, listed]; rfl
    exact ⟨fun p chosen => (Option.some_ne_none p chosen.symm).elim, fun _ => s.pathTurn_end fuel none'⟩
  | cons x rest ih =>
    obtain ⟨fuel, rfl⟩ := Nat.exists_eq_add_one_of_ne_zero (Nat.ne_of_gt (Nat.lt_of_le_of_lt (Nat.zero_le _) enough))
    have first : s.sounding.remaining.lowest = some x := by rw [PathSet.lowest_eq, listed]; rfl
    by_cases out : s.outOfService x = true
    · have left : (s.turnSkipped x).sounding.remaining.paths = rest := by
        rw [turnSkipped_sounding]
        exact PathSet.paths_remove listed
      have later := ih (s.turnSkipped x) fuel rfl rfl left (by rw [List.length_cons] at enough; omega)
      rw [(s.turnSkipped_skipped x).out] at later
      rw [List.dropWhile_cons_of_pos out, List.takeWhile_cons_of_pos out, s.pathTurn_skip fuel first out]
      exact later
    · rw [List.dropWhile_cons_of_neg out, List.takeWhile_cons_of_neg out]
      refine ⟨fun p some => ?_, fun none' => by cases none'⟩
      cases some
      exact s.pathTurn_begin fuel first (Bool.eq_false_iff.mpr out)

end State
end Sys2Proof.Machine

/-! The next turn in the words of the statements (R145). -/

namespace Sys2Proof.Machine
namespace State
variable (s : State)

theorem arbitrate_remaining (p : Path) : (s.arbitrate p).sounding.remaining = s.sounding.remaining := by
  have arbitrated := s.arbitrate_arbitrated p
  generalize s.arbitrate p = t at arbitrated
  cases arbitrated <;> rfl

theorem issueProbe_frame (p : Path) : s.issueProbe p
    = { s with transmitters := (s.issueProbe p).transmitters, sounding := (s.issueProbe p).sounding } := by
  have frame := ((s.probeSet p).arbitrate_frame p).1
  rw [issueProbe_eq, frame]
  rfl

theorem issueProbe_remaining (p : Path) : (s.issueProbe p).sounding.remaining = s.sounding.remaining := arbitrate_remaining _ p

/-- A burst about to issue its first probe. -/
def burstSet (p : Path) : State := s.modSounding (fun x => { x with
  current := some p, probeIndex := 0, minimum := none, valid := 0, lost := 0, lastT1 := none })

theorem beginBurst_eq (p : Path) : s.beginBurst p = (s.burstSet p).issueProbe p := rfl

/-! ## What stands between the paths passed over and the rest -/

theorem turn_enough : s.sounding.remaining.paths.length < turnFuel :=
  Nat.lt_of_le_of_lt (List.length_filter_le _ Path.all) (by decide)

theorem skippedTurns_prefix : ∀ q ∈ s.skippedTurns, s.outOfService q = true := fun _ mem => List.mem_takeWhile_imp mem

/-- The turn's path comes right after the paths passed over, and what is left after it. -/
theorem turnPath_split {p : Path} (turn : s.turnPath = some p) :
    ∃ after, s.sounding.remaining.paths = s.skippedTurns ++ p :: after ∧ s.outOfService p = false := by
  have split : s.skippedTurns ++ s.sounding.remaining.paths.dropWhile s.outOfService = s.sounding.remaining.paths :=
    List.takeWhile_append_dropWhile
  obtain ⟨after, first⟩ := List.head?_eq_some_iff.mp turn
  refine ⟨after, ?_, ?_⟩
  · rw [← split]
    exact congrArg (s.skippedTurns ++ ·) first
  · have stops := List.head?_dropWhile_not s.outOfService s.sounding.remaining.paths
    have here : (s.sounding.remaining.paths.dropWhile s.outOfService).head? = some p := turn
    rw [here] at stops
    simpa using stops

theorem remaining_after {p : Path} (turn : s.turnPath = some p) (q : Path) :
    (PathSet.has s.sounding.remaining q && decide (q ∉ s.skippedTurns) && decide (q ≠ p))
      = (PathSet.has s.sounding.remaining q && decide (p.idx.val < q.idx.val)) := by
  obtain ⟨after, split, -⟩ := s.turnPath_split turn
  have ascending := s.sounding.remaining.paths_ascending
  rw [split, List.pairwise_append, List.pairwise_cons] at ascending
  obtain ⟨-, ⟨later, -⟩, earlier⟩ := ascending
  cases left : PathSet.has s.sounding.remaining q with
  | false => rfl
  | true =>
    have mem : q ∈ s.skippedTurns ++ p :: after := split ▸ PathSet.mem_paths.mpr left
    rw [Bool.true_and, Bool.true_and, ← Bool.decide_and]
    refine decide_eq_decide.mpr ⟨fun ⟨notSkipped, other⟩ => ?_, fun above => ⟨fun skipped => ?_, ?_⟩⟩
    · rcases List.mem_append.mp mem with skipped | rest
      · exact absurd skipped notSkipped
      · exact later q ((List.mem_cons.mp rest).resolve_left other)
    · exact absurd (earlier q skipped p List.mem_cons_self) (Nat.not_lt.mpr (Nat.le_of_lt above))
    · rintro rfl
      exact Nat.lt_irrefl _ above

theorem remaining_none (turn : s.turnPath = none) (q : Path) (left : PathSet.has s.sounding.remaining q = true) : q ∈ s.skippedTurns := by
  have split : s.skippedTurns ++ s.sounding.remaining.paths.dropWhile s.outOfService = s.sounding.remaining.paths :=
    List.takeWhile_append_dropWhile
  have rest : s.sounding.remaining.paths.dropWhile s.outOfService = [] := List.head?_eq_none_iff.mp turn
  rw [rest, List.append_nil] at split
  rw [split]
  exact PathSet.mem_paths.mpr left

/-- A turn that begins the burst of `p`: the clause of `State.turnTaken`. -/
def TurnBegun (t : State) (p : Path) : Prop :=
  (∀ q, t.sounding.remaining.has q = (s.sounding.remaining.has q && decide (p.idx.val < q.idx.val)))
    ∧ State.probeIssued { s with
        log := t.log, ports := t.ports
        sounding := { s.sounding with
          current := some p, remaining := t.sounding.remaining, probeIndex := 0, minimum := none, valid := 0
          lost := 0, lastT1 := none } } t p

/-- A turn that ends the sweep: the clause of `State.turnTaken`. -/
def TurnOver (t : State) : Prop :=
  t.sounding = { s.sounding with
      state := .idle, reason := none, settleDeadline := none, current := none, remaining := 0 }
    ∧ t.transmitters = s.transmitters ∧ ∀ q, AttnSet.has (t.port q).pending .sweep = true

variable {s} {t v : State}

theorem turnTaken_of (skipped : s.Skipped v) (logged : s.Logged (s.skippedTurns.map s.skipNoted) v) (log : t.log = v.log)
    (raised : v.portsRaised t) (frame : t = { v with sounding := t.sounding, transmitters := t.transmitters, ports := t.ports })
    (begun : ∀ p, s.turnPath = some p → s.TurnBegun t p) (ended : s.turnPath = none → s.TurnOver t) :
    s.turnTaken t ∧ s.Logged (s.skippedTurns.map s.skipNoted) t := by
  have taken := logged.before log
  refine ⟨⟨?_, fun early k q here => ?_, begun, ended, State.portsRaised_trans skipped.raised raised, ?_⟩, taken⟩
  · rw [taken.next, List.length_map]
  · have few : s.skippedTurns.length ≤ 5 :=
      Nat.le_trans (List.takeWhile_prefix _).length_le (List.length_filter_le _ Path.all)
    have mapped : (s.skippedTurns.map s.skipNoted)[k]? = some (s.skipNoted q) := by rw [List.getElem?_map, here]; rfl
    exact taken.record (by rw [List.length_map]; omega) mapped
  · rw [frame, skipped.frame]

/-- A state in which the burst of `p` is set, after the paths passed over. -/
theorem turnBegun_issue {p : Path} (skipped : s.Skipped v) (turn : s.turnPath = some p)
    (remaining : ∀ q, v.sounding.remaining.has q = (s.sounding.remaining.has q && decide (q ∉ s.skippedTurns))) :
    s.TurnBegun (((v.modSounding (fun x => { x with remaining := x.remaining.remove p })).burstSet p).issueProbe p) p := by
  have frame := State.issueProbe_frame ((v.modSounding (fun x => { x with remaining := x.remaining.remove p })).burstSet p) p
  have left := State.issueProbe_remaining ((v.modSounding (fun x => { x with remaining := x.remaining.remove p })).burstSet p) p
  have issued := State.issueProbe_issued ((v.modSounding (fun x => { x with remaining := x.remaining.remove p })).burstSet p) p
  generalize ((v.modSounding (fun x => { x with remaining := x.remaining.remove p })).burstSet p).issueProbe p = t at frame left issued
  have left' : t.sounding.remaining = v.sounding.remaining.remove p := left
  refine ⟨fun q => ?_, ?_⟩
  · rw [left', PathSet.has_remove, remaining, s.remaining_after turn]
  · have base : (v.modSounding (fun x => { x with remaining := x.remaining.remove p })).burstSet p = { s with
        log := t.log, ports := t.ports
        sounding := { s.sounding with
          current := some p, remaining := t.sounding.remaining, probeIndex := 0, minimum := none, valid := 0
          lost := 0, lastT1 := none } } := by
      have log : t.log = v.log := by rw [frame]; rfl
      have ports : t.ports = v.ports := by rw [frame]; rfl
      rw [log, ports, left', skipped.frame]
      rfl
    rwa [base] at issued

/-- The turn that `State.pathTurn` takes is the one the statements speak of. -/
theorem pathTurn_taken (s : State) :
    s.turnTaken (s.pathTurn turnFuel) ∧ s.Logged (s.skippedTurns.map s.skipNoted) (s.pathTurn turnFuel) := by
  obtain ⟨begins, ends⟩ := s.pathTurn_eq turnFuel s.turn_enough
  have skipped := s.turnsSkipped_skipped s.skippedTurns
  have logged := s.turnsSkipped_logged s.skippedTurns
  have remaining := s.turnsSkipped_remaining s.skippedTurns
  generalize s.turnsSkipped s.skippedTurns = v at begins ends skipped logged remaining
  cases turn : s.turnPath with
  | some p =>
    have frame := State.issueProbe_frame ((v.modSounding (fun x => { x with remaining := x.remaining.remove p })).burstSet p) p
    have begun := turnBegun_issue skipped turn remaining
    have is := begins p turn
    rw [beginBurst_eq] at is
    rw [← is] at frame begun
    refine turnTaken_of skipped logged ?_ ?_ ?_ (fun q other => ?_) (fun none' => ?_)
    · rw [frame]
      rfl
    · exact State.portsRaised_of_ports (by rw [frame]; rfl)
    · rw [frame]
      rfl
    · obtain rfl : p = q := Option.some_inj.mp (turn.symm.trans other)
      exact begun
    · rw [turn] at none'
      cases none'
  | none =>
    rw [ends turn]
    have only := State.raiseAll_logOnly (v.modSounding (fun x =>
      { x with state := .idle, reason := none, settleDeadline := none, current := none })) .sweep
    refine turnTaken_of skipped logged rfl (State.portsRaised_trans (State.portsRaised_of_ports rfl) only.2) rfl (fun q some => ?_)
      (fun _ => ⟨?_, ?_, fun q => raiseAll_has _ _ q⟩)
    · rw [turn] at some
      cases some
    · have empty : v.sounding.remaining = 0 := PathSet.eq_zero fun q => by
        rw [remaining]
        cases left : PathSet.has s.sounding.remaining q with
        | false => rfl
        | true => simp [s.remaining_none turn q left]
      have sounding : v.sounding = { s.sounding with remaining := 0 } := by
        rw [← empty]
        have sounding := congrArg State.sounding skipped.frame
        exact sounding
      exact congrArg (fun x : Sounding => { x with state := .idle, reason := none, settleDeadline := none, current := none }) sounding
    · have transmitters : v.transmitters = s.transmitters := by rw [skipped.frame]
      exact transmitters

end State
end Sys2Proof.Machine

/-! What a re-evaluation reports to the sweep: nothing while the primary stays eligible, a loss otherwise (R79 to R82, R154). -/

namespace Sys2Proof.Machine
namespace State
variable (s : State)

theorem probeDropped_eq : s.probeDropped = s.abandonProbe := by
  unfold State.probeDropped State.abandonProbe
  cases current : s.sounding.current with
  | none => cases pending : s.sounding.pendingProbe <;> rfl
  | some p => cases pending : s.sounding.pendingProbe <;> rfl

/-- What a fallback reported does depends on the sweep, the transmitters and the clock alone. -/
theorem fallbackReport_congr {s u : State} (sounding : u.sounding = s.sounding) (transmitters : u.transmitters = s.transmitters)
    (time : u.time = s.time) :
    u.fallbackReport.sounding = s.fallbackReport.sounding ∧ u.fallbackReport.transmitters = s.fallbackReport.transmitters := by
  have abandoned : u.abandonProbe.sounding = s.abandonProbe.sounding := by
    rw [State.abandonProbe_sounding, State.abandonProbe_sounding, sounding]
  have withdrawn : u.abandonProbe.transmitters = s.abandonProbe.transmitters := by
    unfold State.abandonProbe State.modTransmitter State.transmitter
    rw [sounding, transmitters]
    dsimp only
    split
    · rfl
    · exact transmitters
  have moved {v w : State} (g : Sounding → Sounding) (same : v.sounding = w.sounding) : (v.modSounding g).sounding = (w.modSounding g).sounding :=
    congrArg g same
  unfold State.fallbackReport
  dsimp only
  rw [sounding, time]
  split
  · exact ⟨sounding, transmitters⟩
  · split
    · exact ⟨moved _ abandoned, withdrawn⟩
    · exact ⟨moved _ sounding, transmitters⟩
    · exact ⟨sounding, transmitters⟩

theorem afterLoss_lost : s.afterLoss true = s.fallbackReport := by
  unfold State.afterLoss State.fallbackReport
  rw [probeDropped_eq]
  have zero : (true = false ∨ s.sounding.settle = 0) ↔ s.sounding.settle = 0 := by simp
  rw [if_congr zero rfl rfl]
  split
  · rfl
  · cases s.sounding.state with
    | running => rfl
    | idle => rfl
    | suspended =>
      cases s.sounding.reason with
      | none => rfl
      | some reason => cases reason <;> rfl

theorem afterLoss_kept : s.afterLoss false = s := by
  unfold State.afterLoss
  exact if_pos (Or.inl rfl)

/-- The kinds of change that report to the sweep come of an ineligible primary with no eligible pin (R79, R80). -/
theorem selectPrimary_loud {rank : List Path} {new : Option Path} {kind : ChangeKind} (choice : s.selectPrimary rank = some (new, kind)) :
    (kind = .fallback ∨ kind = .loss) ↔ s.losesPrimary s.paths = true := by
  have loses : s.losesPrimary s.paths = (s.selector.primary.any (fun y => !s.eligible y) && !s.selector.pin.any s.eligible) := rfl
  rw [loses]
  cases acting : s.actingPin with
  | some q =>
    obtain ⟨pinned, able⟩ := Option.filter_eq_some_iff.mp acting
    have pin : kind = .pin := by
      simp only [State.selectPrimary, acting] at choice
      split_ifs at choice
      cases choice
      rfl
    rw [pin, pinned]
    simp [able]
  | none =>
    have free : s.selector.pin.any s.eligible = false := by
      cases pin : s.selector.pin with
      | none => rfl
      | some q => exact Bool.eq_false_iff.mpr (Option.filter_eq_none_iff.mp acting q pin)
    cases held : s.selector.primary.filter s.eligible with
    | some x =>
      obtain ⟨primary, able⟩ := Option.filter_eq_some_iff.mp held
      rw [selectPrimary_able rank acting held] at choice
      obtain ⟨improve, -⟩ := improveStep_some choice
      rw [improve, primary]
      simp [able]
    | none =>
      rw [selectPrimary_lost rank acting held] at choice
      unfold State.fallbackStep at choice
      dsimp only at choice
      rw [free]
      split at choice <;> rename_i primary best
      · cases choice
        simp [primary]
      · cases choice
        have lost := Option.filter_eq_none_iff.mp held _ primary
        simp [primary, lost]
      · cases choice
        have lost := Option.filter_eq_none_iff.mp held _ primary
        simp [primary, lost]
      · cases choice

/-- Without a choice no loss is to be reported. -/
theorem selectPrimary_silent (choice : s.selectPrimary s.rankOrder = none) : s.losesPrimary s.paths = false := by
  obtain ⟨able, -, -⟩ := selectPrimary_none choice
  have loses : s.losesPrimary s.paths = (s.selector.primary.any (fun y => !s.eligible y) && !s.selector.pin.any s.eligible) := rfl
  rw [loses]
  cases primary : s.selector.primary with
  | none => rfl
  | some x => simp [able x primary]

/-- What a re-evaluation leaves of the sweep and the transmitters (R154). -/
theorem reEvaluate_afterLoss : s.reEvaluate.sounding = (s.afterLoss (s.losesPrimary s.paths)).sounding
    ∧ s.reEvaluate.transmitters = (s.afterLoss (s.losesPrimary s.paths)).transmitters := by
  have ranked : s.ranked.losesPrimary s.ranked.paths = s.losesPrimary s.paths := rfl
  cases choice : s.ranked.selectPrimary s.rankOrder with
  | none =>
    obtain ⟨-, -, -, -, sounding, transmitters⟩ := s.reEvaluate_kept choice
    rw [← ranked, s.ranked.selectPrimary_silent choice, afterLoss_kept]
    exact ⟨sounding, transmitters⟩
  | some c =>
    obtain ⟨new, kind⟩ := c
    have loud := s.ranked.selectPrimary_loud choice
    rw [ranked] at loud
    have changed := s.reEvaluate_changed choice
    have sounding : s.reEvaluate.sounding = (s.ranked.changePrimary new kind).sounding := by rw [changed]; rfl
    have transmitters : s.reEvaluate.transmitters = (s.ranked.changePrimary new kind).transmitters := by rw [changed]; rfl
    rw [sounding, transmitters]
    by_cases reports : kind = .fallback ∨ kind = .loss
    · rw [loud.mp reports, afterLoss_lost]
      obtain ⟨same, transmitters, time⟩ := s.ranked.primaryNoted_same new kind
      rw [changePrimary_eq, if_pos reports]
      exact fallbackReport_congr same transmitters time
    · rw [Bool.eq_false_iff.mpr (mt loud.mpr reports), afterLoss_kept]
      exact s.ranked.changePrimary_quiet new (not_or.mp reports)

end State
end Sys2Proof.Machine

/-! The report of a burst to its path (R59), and its SOUND record. -/

namespace Sys2Proof.Machine

theorem PathEntry.afterBurst_ok (e : PathEntry) (p : Path) (x : Nat) : e.afterBurst p .ok x = PathEntry.formed p { e with
    score := scoreGood e.score, delay := if e.locked then e.delay else some (applySample e.weight e.delay x) } := by
  have sampled : some (applySample e.weight e.delay x) = some (match e.delay with
      | none => x
      | some d => ((d : Int) + ((x : Int) - d) / (2 ^ (e.weight + 1) : Nat)).toNat) := by
    cases e.delay <;> rfl
  have delay : (if e.locked then e.delay else some (applySample e.weight e.delay x))
      = if BurstResult.ok = .ok ∧ e.locked = false then some (match e.delay with
          | none => x
          | some d => ((d : Int) + ((x : Int) - d) / (2 ^ (e.weight + 1) : Nat)).toNat)
        else e.delay := by
    rw [sampled]
    cases e.locked <;> rfl
  exact congrArg (fun d => PathEntry.formed p { e with score := scoreGood e.score, delay := d }) delay.symm

namespace State
variable (s : State)

/-! ## Re-evaluations that leave the sweep -/

/-- The primary, if there is one, may carry traffic. -/
def PrimaryAble : Prop := ∀ y, s.selector.primary = some y → s.eligible y = true

theorem PrimaryAble.loses_none {s : State} (able : s.PrimaryAble) : s.losesPrimary s.paths = false := by
  have loses : s.losesPrimary s.paths = (s.selector.primary.any (fun y => !s.eligible y) && !s.selector.pin.any s.eligible) := rfl
  rw [loses]
  cases primary : s.selector.primary with
  | none => rfl
  | some x => simp [able x primary]

theorem primaryAble_of_selected {s : State} (h : s.Selected) : s.PrimaryAble := h.2.1

theorem reEvaluate_quiet {s : State} (able : s.PrimaryAble) :
    s.reEvaluate.sounding = s.sounding ∧ s.reEvaluate.transmitters = s.transmitters := by
  have left := s.reEvaluate_afterLoss
  rwa [able.loses_none, afterLoss_kept] at left

theorem reEvaluate_logged : ∃ l, l.length ≤ 1 ∧ s.Logged l s.reEvaluate := by
  cases choice : s.ranked.selectPrimary s.rankOrder with
  | none => exact ⟨[], Nat.zero_le _, .of_log (s.reEvaluate_kept choice).2.2.1⟩
  | some c =>
    obtain ⟨new, kind⟩ := c
    have log : s.reEvaluate.log = (s.ranked.primaryNoted new kind).log := by
      rw [s.reEvaluate_changed choice]
      exact (s.ranked.changePrimary_log new kind).1
    let v := s.ranked.modSelector (fun x => { x with primary := new, guard := s.ranked.guardAfter s.ranked.selector.primary new })
    have same : v.log = s.log := rfl
    have written : s.Logged [⟨s.time.tod, s.time.quality, s.ranked.primaryBody new kind⟩] (v.logWrite (s.ranked.primaryBody new kind)) :=
      (v.logWrite_logged (s.ranked.primaryBody new kind)).after same
    have noted : s.Logged [⟨s.time.tod, s.time.quality, s.ranked.primaryBody new kind⟩] (s.ranked.primaryNoted new kind) :=
      written.raiseAll .primary
    refine ⟨[⟨s.time.tod, s.time.quality, s.ranked.primaryBody new kind⟩], ?_, noted.before log⟩
    exact Nat.le_refl 1

/-- A re-evaluation leaves the sweep, suspends it with its probe abandoned, or starts its settle deadline anew (R154). -/
theorem reEvaluate_sounding : s.reEvaluate.sounding = s.sounding
    ∨ (∃ d, s.reEvaluate.sounding = { s.sounding.abandoned with state := .suspended, reason := some .fallback, settleDeadline := d })
    ∨ ∃ d, s.reEvaluate.sounding = { s.sounding with settleDeadline := d } := by
  rw [s.reEvaluate_afterLoss.1]
  cases s.losesPrimary s.paths with
  | false => rw [afterLoss_kept]; exact .inl rfl
  | true =>
    rw [afterLoss_lost]
    unfold State.fallbackReport
    dsimp only
    split
    · exact .inl rfl
    · have abandoned := s.abandonProbe_sounding
      split
      · exact .inr (.inl ⟨some (s.time.mono + msToNs s.sounding.settle), congrArg (fun x : Sounding => { x with
          state := .suspended, reason := some .fallback, settleDeadline := some (s.time.mono + msToNs s.sounding.settle) }) abandoned⟩)
      · exact .inr (.inr ⟨_, rfl⟩)
      · exact .inl rfl

/-- The sweep's own settings and samples are left by a re-evaluation whatever it reports. -/
theorem reEvaluate_samples : s.reEvaluate.sounding.current = s.sounding.current ∧ s.reEvaluate.sounding.remaining = s.sounding.remaining
    ∧ (s.sounding.outstanding = none → s.reEvaluate.sounding.outstanding = none) := by
  rcases s.reEvaluate_sounding with same | ⟨d, suspended⟩ | ⟨d, again⟩
  · rw [same]
    exact ⟨rfl, rfl, id⟩
  · rw [suspended]
    exact ⟨rfl, rfl, fun _ => rfl⟩
  · rw [again]
    exact ⟨rfl, rfl, id⟩

/-! ## E formed anew -/

theorem recomputeDelay_eq (p : Path) : s.recomputeDelay p = s
    ∨ s.recomputeDelay p = (s.modEntry p (fun e => { e with effDelay := (s.entry p).formDelay p })).reEvaluate := by
  unfold State.recomputeDelay
  dsimp only
  split
  · exact .inl rfl
  · exact .inr rfl

theorem recomputeDelay_quiet {s : State} (able : s.PrimaryAble) (p : Path) :
    (s.recomputeDelay p).sounding = s.sounding ∧ (s.recomputeDelay p).transmitters = s.transmitters := by
  rcases s.recomputeDelay_eq p with same | moved
  · rw [same]
    exact ⟨rfl, rfl⟩
  · have able' : (s.modEntry p (fun e => { e with effDelay := (s.entry p).formDelay p })).PrimaryAble := by
      intro y primary
      refine Eq.trans ?_ (able y primary)
      unfold State.eligible
      rw [State.modEntry_entry]
      split
      · subst y
        rfl
      · rfl
    rw [moved]
    exact reEvaluate_quiet able'

theorem recomputeDelay_logged (p : Path) : ∃ l, l.length ≤ 1 ∧ s.Logged l (s.recomputeDelay p) := by
  rcases s.recomputeDelay_eq p with same | moved
  · exact ⟨[], Nat.zero_le _, .of_log (congrArg State.log same)⟩
  · obtain ⟨l, short, logged⟩ := (s.modEntry p (fun e => { e with effDelay := (s.entry p).formDelay p })).reEvaluate_logged
    rw [moved]
    exact ⟨l, short, logged.after rfl⟩

theorem recomputeDelay_samples (p : Path) : (s.recomputeDelay p).sounding.current = s.sounding.current
    ∧ (s.recomputeDelay p).sounding.remaining = s.sounding.remaining
    ∧ (s.sounding.outstanding = none → (s.recomputeDelay p).sounding.outstanding = none) := by
  rcases s.recomputeDelay_eq p with same | moved
  · rw [same]
    exact ⟨rfl, rfl, id⟩
  · rw [moved]
    exact reEvaluate_samples _

/-! ## The burst report (R59) -/

/-- The entry of a path with the score and the delay of a burst report, before E is formed. -/
def reportEntry (p : Path) (result : BurstResult) (sample : Nat) : State := match result with
  | .ok => s.modEntry p (fun e => { e with
      score := scoreGood e.score, delay := if e.locked then e.delay else some (applySample e.weight e.delay sample) })
  | .failed => s.modEntry p (fun e => { e with score := scoreFailed e.score })
  | _ => s

theorem burstReport_eq (p : Path) (result : BurstResult) (sample : Nat) : (s.burstReport p result sample).1
    = if result = .ok ∨ result = .failed then (s.reportEntry p result sample).recomputeDelay p else s := by
  cases result <;> rfl

theorem burstReport_held (p : Path) (result : BurstResult) (sample : Nat) :
    (s.burstReport p result sample).2 = (decide (result = .ok) && (s.entry p).locked) := by
  cases result with
  | ok => exact (Bool.true_and _).symm
  | failed | aborted | skipped => rfl

theorem burstReport_entry (p : Path) (result : BurstResult) (sample : Nat) (q : Path) : (s.burstReport p result sample).1.entry q
    = if q = p then (s.entry p).afterBurst p result sample else s.entry q := by
  rw [burstReport_eq]
  cases result with
  | aborted | skipped =>
    rw [if_neg (by decide)]
    split
    · subst q
      rfl
    · rfl
  | failed => exact s.modEntry_recomputeDelay_entry p _ q
  | ok =>
    rw [PathEntry.afterBurst_ok]
    exact s.modEntry_recomputeDelay_entry p _ q

end State
end Sys2Proof.Machine

/-! The end of a burst: the report, the SOUND record, then the next turn, the end of the sweep, or neither (R150, R145). -/

namespace Sys2Proof.Machine
theorem PathEntry.afterBurst_state (e : PathEntry) (p : Path) (result : BurstResult) (sample : Nat) :
    (e.afterBurst p result sample).state = e.state := by
  unfold PathEntry.afterBurst
  dsimp only
  split <;> rfl

namespace State
variable (s : State)

/-! ## What the burst report leaves -/

theorem PrimaryAble.congr {s t : State} (able : s.PrimaryAble) (selector : t.selector.primary = s.selector.primary)
    (same : ∀ q, t.eligible q = s.eligible q) : t.PrimaryAble := fun y primary => (same y).trans (able y (selector.symm.trans primary))

theorem reportEntry_entry (p : Path) (result : BurstResult) (sample : Nat) (q : Path) :
    ((s.reportEntry p result sample).entry q).eligible q = (s.entry q).eligible q := by
  cases result with
  | aborted | skipped => rfl
  | ok | failed =>
    rw [reportEntry, State.modEntry_entry]
    split
    · subst q
      rfl
    · rfl

theorem reportEntry_same (p : Path) (result : BurstResult) (sample : Nat) : (s.reportEntry p result sample).sounding = s.sounding
    ∧ (s.reportEntry p result sample).transmitters = s.transmitters ∧ (s.reportEntry p result sample).log = s.log
    ∧ (s.reportEntry p result sample).selector = s.selector := by
  cases result <;> exact ⟨rfl, rfl, rfl, rfl⟩

/-- With an able primary the report leaves the sweep and the transmitters. -/
theorem burstReport_quiet {s : State} (able : s.PrimaryAble) (p : Path) (result : BurstResult) (sample : Nat) :
    (s.burstReport p result sample).1.sounding = s.sounding ∧ (s.burstReport p result sample).1.transmitters = s.transmitters := by
  obtain ⟨sounding, transmitters, -, selector⟩ := s.reportEntry_same p result sample
  rw [burstReport_eq]
  split
  · have quiet := recomputeDelay_quiet (able.congr (congrArg Selector.primary selector) (s.reportEntry_entry p result sample)) p
    exact ⟨quiet.1.trans sounding, quiet.2.trans transmitters⟩
  · exact ⟨rfl, rfl⟩

/-- Whatever the report moves, the paths left stay and no probe becomes outstanding. -/
theorem burstReport_samples (p : Path) (result : BurstResult) (sample : Nat) :
    (s.burstReport p result sample).1.sounding.remaining = s.sounding.remaining
      ∧ (s.sounding.outstanding = none → (s.burstReport p result sample).1.sounding.outstanding = none) := by
  obtain ⟨sounding, -⟩ := s.reportEntry_same p result sample
  rw [burstReport_eq]
  split
  · obtain ⟨-, remaining, outstanding⟩ := (s.reportEntry p result sample).recomputeDelay_samples p
    rw [sounding] at remaining outstanding
    exact ⟨remaining, outstanding⟩
  · exact ⟨rfl, id⟩

theorem burstReport_logged (p : Path) (result : BurstResult) (sample : Nat) :
    ∃ l, l.length ≤ 1 ∧ s.Logged l (s.burstReport p result sample).1 := by
  obtain ⟨-, -, log, -⟩ := s.reportEntry_same p result sample
  rw [burstReport_eq]
  split
  · obtain ⟨l, short, logged⟩ := (s.reportEntry p result sample).recomputeDelay_logged p
    exact ⟨l, short, logged.after log⟩
  · exact ⟨[], Nat.zero_le _, .of_log rfl⟩

theorem burstReport_entriesBut (p : Path) (result : BurstResult) (sample : Nat) :
    s.entriesBut (s.burstReport p result sample).1 p := fun q other => by
  rw [burstReport_entry, if_neg other]

theorem burstReport_out (p : Path) (result : BurstResult) (sample : Nat) :
    (s.burstReport p result sample).1.outOfService = s.outOfService := by
  funext q
  unfold State.outOfService
  rw [burstReport_entry]
  split
  · subst q
    rw [PathEntry.afterBurst_state]
  · rfl

/-! ## The SOUND record -/

/-- The body of the SOUND record of a burst that ends. -/
def soundBody (p : Path) (result : BurstResult) (x : Sounding) (held : Bool) : RecordBody :=
  .sound p result x.valid x.lost x.minimum (s.entry p).delay held

theorem soundNoted_logged (p : Path) (result : BurstResult) (x : Sounding) (held : Bool) :
    s.Logged [⟨s.time.tod, s.time.quality, s.soundBody p result x held⟩] (s.soundNoted p result x held) :=
  (s.logWrite_logged (s.soundBody p result x held)).before rfl

theorem soundNoted_frame (p : Path) (result : BurstResult) (x : Sounding) (held : Bool) : s.soundNoted p result x held
    = { s with
      sounding := { s.sounding with current := none }, log := (s.soundNoted p result x held).log
      ports := (s.soundNoted p result x held).ports } := by
  have only := (s.logWrite_logOnly (s.soundBody p result x held)).1
  have is : s.soundNoted p result x held = (s.logWrite (s.soundBody p result x held)).modSounding (fun x => { x with current := none }) := rfl
  rw [is]
  generalize s.logWrite (s.soundBody p result x held) = u at only
  rw [only]
  rfl

theorem soundNoted_raised (p : Path) (result : BurstResult) (x : Sounding) (held : Bool) : s.portsRaised (s.soundNoted p result x held) :=
  (s.logWrite_logOnly (s.soundBody p result x held)).2

theorem soundNoted_last (p : Path) (result : BurstResult) (x : Sounding) (held : Bool) :
    (s.soundNoted p result x held).log.records.getLast?
      = some ⟨(s.soundNoted p result x held).log.next - 1, s.time.tod, s.time.quality, s.soundBody p result x held⟩ := by
  have next : (s.soundNoted p result x held).log.next = s.log.next + 1 := (s.soundNoted_logged p result x held).next
  have last := s.logWrite_last (s.soundBody p result x held)
  have is : (s.soundNoted p result x held).log.records = (s.logWrite (s.soundBody p result x held)).log.records := rfl
  rw [next, is, last, BitVec.add_sub_cancel]

/-! ## What follows it -/

theorem afterSound_goesOn {v : State} (goes : v.sounding.state = .running ∨ v.sounding.remaining = 0) :
    v.afterSound = v.pathTurn turnFuel := by
  unfold afterSound
  split
  · rename_i empty
    have lowest : v.sounding.remaining.lowest = none := by rw [empty]; rfl
    exact (v.pathTurn_end 5 lowest).symm
  · rename_i left
    rw [if_pos (goes.resolve_right left)]

theorem afterSound_waits {v : State} (suspended : v.sounding.state ≠ .running) (left : v.sounding.remaining ≠ 0) : v.afterSound = v := by
  unfold afterSound
  rw [if_neg left, if_neg suspended]

end State
end Sys2Proof.Machine

/-! The end of a burst in the words of the statements (R150, R145). -/

namespace Sys2Proof.Machine
namespace State
variable {s t u v w : State}

theorem skippedTurns_congr (remaining : t.sounding.remaining = s.sounding.remaining) (out : t.outOfService = s.outOfService) :
    t.skippedTurns = s.skippedTurns := by
  unfold State.skippedTurns
  rw [remaining, out]

theorem turnPath_congr (remaining : t.sounding.remaining = s.sounding.remaining) (out : t.outOfService = s.outOfService) :
    t.turnPath = s.turnPath := by
  unfold State.turnPath
  rw [remaining, out]

theorem skippedTurns_length_le (s : State) : s.skippedTurns.length ≤ 5 :=
  Nat.le_trans (List.takeWhile_prefix _).length_le (List.length_filter_le _ Path.all)

/-- A turn said of a state whose log is only as long and whose attention may be an older one. -/
theorem turnTaken_rebase (taken : v.turnTaken t) (sounding : w.sounding = v.sounding) (transmitters : w.transmitters = v.transmitters)
    (frame : w = { t with sounding := w.sounding, transmitters := w.transmitters, log := w.log, ports := w.ports })
    (next : w.log.next = v.log.next) (length : w.log.records.length ≤ 1000 → v.log.records.length = w.log.records.length)
    (raised : w.portsRaised t) : w.turnTaken t := by
  obtain ⟨serial, records, begun, ended, -, older⟩ := taken
  have base : w = { v with log := w.log, ports := w.ports } := by
    have tail := frame
    rw [older, sounding, transmitters] at tail
    exact tail
  have out : w.outOfService = v.outOfService := by rw [base]; rfl
  have skips : w.skippedTurns = v.skippedTurns := skippedTurns_congr (congrArg _ sounding) out
  have turn : w.turnPath = v.turnPath := turnPath_congr (congrArg _ sounding) out
  refine ⟨?_, fun early k q here => ?_, fun p chosen => ?_, fun none' => ?_, raised, ?_⟩
  · rw [serial, next, skips]
  · rw [skips] at here
    have there := records (by rw [length early]; exact early) k q here
    rw [length early, ← next] at there
    rw [there, base]
    rfl
  · rw [turn] at chosen
    rw [sounding]
    obtain ⟨left, issued⟩ := begun p chosen
    refine ⟨left, ?_⟩
    rw [base]
    exact issued
  · rw [turn] at none'
    rw [sounding, transmitters]
    exact ended none'
  · rw [frame]

/-! ## The burst over -/

theorem reverse_get {α : Type} {l : List α} {k : Nat} {x : α} (here : l.reverse[k]? = some x) :
    l[l.length - k - 1]? = some x := by
  obtain ⟨below, -⟩ := List.getElem?_eq_some_iff.mp here
  rw [List.length_reverse] at below
  rw [List.getElem?_reverse below] at here
  rw [Nat.sub_right_comm]
  exact here

/-- The last record before those of the turns passed over. -/
theorem record_before_turns (logged : v.Logged (v.skippedTurns.map v.skipNoted) t) {r : LogRecord}
    (last : v.log.records.getLast? = some r) : t.log.records[t.log.records.length - v.skippedTurns.length - 1]? = some r := by
  have few := v.skippedTurns_length_le
  have there := logged.earlier 0 (by rw [List.length_map]; omega)
  rw [List.length_map, Nat.zero_add, ← List.head?_eq_getElem?, List.head?_reverse, last] at there
  exact reverse_get there

/-- The state with the burst over, before the next turn, as `State.burstOver` says it. -/
def overNow (s t : State) : State :=
  { t with sounding := { s.sounding with current := none }, transmitters := s.transmitters, ports := s.ports }

/-- `State.burstOver` with the number of turns passed over given. -/
def overAfter (s t : State) (p : Path) (result : BurstResult) (passed : Nat) : Prop :=
  t.log.records[t.log.records.length - passed - 1]? = some ⟨t.log.next - BitVec.ofNat 32 passed - 1, s.time.tod, s.time.quality,
      .sound p result s.sounding.valid s.sounding.lost s.sounding.minimum (t.entry p).delay (decide (result = .ok) && (s.entry p).locked)⟩
    ∧ (s.sounding.state ≠ .running → s.sounding.remaining ≠ 0 →
        t.sounding = { s.sounding with current := none } ∧ t.transmitters = s.transmitters)
    ∧ ((s.sounding.state = .running ∨ s.sounding.remaining = 0) → State.turnTaken { s.overNow t with
        log := { t.log with
          records := t.log.records.take (t.log.records.length - passed), next := t.log.next - BitVec.ofNat 32 passed } } t)

theorem burstOver_eq (s t : State) (p : Path) (result : BurstResult) : s.burstOver t p result
    = s.overAfter t p result (if s.sounding.state = .running then (s.overNow t).skippedTurns.length else 0) := rfl

/-- The end of a burst while the sweep goes on, or with no path left. -/
theorem burstOver_goes {p : Path} {result : BurstResult} {held : Bool} (goes : s.sounding.state = .running ∨ s.sounding.remaining = 0)
    (sounding : v.sounding = { s.sounding with current := none }) (transmitters : v.transmitters = s.transmitters)
    (held' : held = (decide (result = .ok) && (s.entry p).locked))
    (last : v.log.records.getLast? = some ⟨v.log.next - 1, s.time.tod, s.time.quality,
      .sound p result s.sounding.valid s.sounding.lost s.sounding.minimum (v.entry p).delay held⟩)
    (taken : v.turnTaken t) (logged : v.Logged (v.skippedTurns.map v.skipNoted) t) (raised : s.portsRaised t) :
    s.burstOver t p result := by
  have older := taken.2.2.2.2.2
  have paths : t.paths = v.paths := by rw [older]
  have entry (q : Path) : t.entry q = v.entry q := by rw [older]; rfl
  have out : (s.overNow t).outOfService = v.outOfService := by
    funext q
    unfold State.outOfService
    rw [← entry q]
    rfl
  have skips : (s.overNow t).skippedTurns = v.skippedTurns := skippedTurns_congr (congrArg Sounding.remaining sounding).symm out
  have passed : (if s.sounding.state = .running then (s.overNow t).skippedTurns.length else 0) = v.skippedTurns.length := by
    rw [skips]
    split
    · rfl
    · rename_i suspended
      have empty : v.sounding.remaining = 0 := (congrArg Sounding.remaining sounding).trans (goes.resolve_left suspended)
      unfold State.skippedTurns
      rw [empty]
      rfl
  have next : t.log.next - BitVec.ofNat 32 v.skippedTurns.length = v.log.next := by
    rw [logged.next, List.length_map, BitVec.add_sub_cancel]
  have record := record_before_turns logged last
  rw [burstOver_eq, passed]
  refine ⟨?_, fun suspended left => absurd goes (not_or.mpr ⟨suspended, left⟩), fun _ => ?_⟩
  · rw [next, record, entry, held']
  · rw [next]
    refine turnTaken_rebase taken sounding.symm transmitters.symm rfl rfl (fun early => ?_) raised
    have short : (t.log.records.take (t.log.records.length - v.skippedTurns.length)).length
        = t.log.records.length - v.skippedTurns.length := List.length_take_of_le (Nat.sub_le _ _)
    have few := v.skippedTurns_length_le
    have grown := logged.growth
    rw [List.length_map] at grown
    have early' : t.log.records.length - v.skippedTurns.length ≤ 1000 := short ▸ early
    have count := grown (by omega)
    change v.log.records.length = (t.log.records.take (t.log.records.length - v.skippedTurns.length)).length
    omega

/-- The end of a burst of a suspended sweep with paths left. -/
theorem burstOver_waits {p : Path} {result : BurstResult} {held : Bool} (suspended : s.sounding.state ≠ .running)
    (left : s.sounding.remaining ≠ 0) (sounding : v.sounding = { s.sounding with current := none })
    (transmitters : v.transmitters = s.transmitters) (held' : held = (decide (result = .ok) && (s.entry p).locked))
    (last : v.log.records.getLast? = some ⟨v.log.next - 1, s.time.tod, s.time.quality,
      .sound p result s.sounding.valid s.sounding.lost s.sounding.minimum (v.entry p).delay held⟩) :
    s.burstOver v p result := by
  rw [burstOver_eq, if_neg suspended]
  refine ⟨?_, fun _ _ => ⟨sounding, transmitters⟩, fun goes => absurd goes (not_or.mpr ⟨suspended, left⟩)⟩
  rw [Nat.sub_zero, ← List.getLast?_eq_getElem?, last, held']
  congr 2
  exact congrArg (· - 1) (BitVec.sub_zero v.log.next).symm

end State
end Sys2Proof.Machine

/-! `State.endBurst` in the words of the statements (R150, R59, R145). -/

namespace Sys2Proof.Machine
namespace State
variable (s : State) (p : Path) (result : BurstResult)

/-- The state of a burst that ends with its SOUND record written, before what follows. -/
def burstNoted : State :=
  (s.burstReport p result (s.sounding.minimum.getD 0)).1.soundNoted p result s.sounding
    (s.burstReport p result (s.sounding.minimum.getD 0)).2

theorem endBurst_noted : s.endBurst p result = (s.burstNoted p result).afterSound := s.endBurst_eq p result

theorem burstNoted_entry (q : Path) : (s.burstNoted p result).entry q
    = if q = p then (s.entry p).afterBurst p result (s.sounding.minimum.getD 0) else s.entry q := by
  refine Eq.trans ?_ (s.burstReport_entry p result (s.sounding.minimum.getD 0) q)
  unfold burstNoted
  rw [soundNoted_frame]
  rfl

theorem burstNoted_routed : s.routed (s.burstNoted p result) := by
  refine State.routed_trans (State.burstReport_routed s p result (s.sounding.minimum.getD 0)) ?_
  refine State.routed_trans (State.logWrite_routed _ (State.soundBody (s.burstReport p result (s.sounding.minimum.getD 0)).1 p result
    s.sounding (s.burstReport p result (s.sounding.minimum.getD 0)).2)) ?_
  exact State.modSounding_routed _ (fun x => { x with current := none })

theorem burstNoted_sounding {s : State} (able : s.PrimaryAble) : (s.burstNoted p result).sounding = { s.sounding with current := none }
    ∧ (s.burstNoted p result).transmitters = s.transmitters := by
  obtain ⟨sounding, transmitters⟩ := burstReport_quiet able p result (s.sounding.minimum.getD 0)
  unfold burstNoted
  rw [soundNoted_frame]
  exact ⟨congrArg (fun x : Sounding => { x with current := none }) sounding, transmitters⟩

theorem burstNoted_remaining : (s.burstNoted p result).sounding.remaining = s.sounding.remaining
    ∧ (s.burstNoted p result).sounding.current = none
    ∧ (s.sounding.outstanding = none → (s.burstNoted p result).sounding.outstanding = none) := by
  obtain ⟨left, outstanding⟩ := s.burstReport_samples p result (s.sounding.minimum.getD 0)
  unfold burstNoted
  rw [soundNoted_frame]
  exact ⟨left, rfl, outstanding⟩

theorem burstNoted_out : (s.burstNoted p result).outOfService = s.outOfService := by
  refine Eq.trans ?_ (s.burstReport_out p result (s.sounding.minimum.getD 0))
  unfold burstNoted
  rw [soundNoted_frame]
  rfl

theorem burstReport_time (sample : Nat) : (s.burstReport p result sample).1.time = s.time := by
  rw [(State.burstReport_routed s p result sample).1]

/-- The body of the SOUND record of a burst on `p` that ends in `s` with a result (R150). -/
def endedBody : RecordBody :=
  .sound p result s.sounding.valid s.sounding.lost s.sounding.minimum
    ((s.entry p).afterBurst p result (s.sounding.minimum.getD 0)).delay (decide (result = .ok) && (s.entry p).locked)

theorem burstNoted_body : State.soundBody (s.burstReport p result (s.sounding.minimum.getD 0)).1 p result s.sounding
    (s.burstReport p result (s.sounding.minimum.getD 0)).2 = s.endedBody p result := by
  unfold soundBody endedBody
  rw [burstReport_held, burstReport_entry, if_pos rfl]

theorem burstNoted_logged : ∃ l, l.length ≤ 1
    ∧ s.Logged (l ++ [⟨s.time.tod, s.time.quality, s.endedBody p result⟩]) (s.burstNoted p result) := by
  obtain ⟨l, short, logged⟩ := s.burstReport_logged p result (s.sounding.minimum.getD 0)
  have noted := State.soundNoted_logged (s.burstReport p result (s.sounding.minimum.getD 0)).1 p result s.sounding
    (s.burstReport p result (s.sounding.minimum.getD 0)).2
  rw [burstNoted_body, burstReport_time] at noted
  exact ⟨l, short, logged.trans noted⟩

theorem burstNoted_last : (s.burstNoted p result).log.records.getLast?
    = some ⟨(s.burstNoted p result).log.next - 1, s.time.tod, s.time.quality, s.endedBody p result⟩ := by
  have last := State.soundNoted_last (s.burstReport p result (s.sounding.minimum.getD 0)).1 p result s.sounding
    (s.burstReport p result (s.sounding.minimum.getD 0)).2
  rw [burstNoted_body, burstReport_time] at last
  exact last

/-! ## The end of a burst -/

/-- What follows the SOUND record: a turn, or nothing. -/
theorem afterSound_cases (v : State) : (v.sounding.state = .running ∨ v.sounding.remaining = 0) ∧ v.turnTaken v.afterSound
      ∧ v.Logged (v.skippedTurns.map v.skipNoted) v.afterSound
    ∨ v.sounding.state ≠ .running ∧ v.sounding.remaining ≠ 0 ∧ v.afterSound = v := by
  by_cases goes : v.sounding.state = .running ∨ v.sounding.remaining = 0
  · rw [afterSound_goesOn goes]
    exact .inl ⟨goes, v.pathTurn_taken⟩
  · obtain ⟨suspended, left⟩ := not_or.mp goes
    exact .inr ⟨suspended, left, afterSound_waits suspended left⟩

theorem turnTaken_paths {v t : State} (taken : v.turnTaken t) : t.paths = v.paths := by rw [taken.2.2.2.2.2]

theorem afterSound_entry (v : State) (q : Path) : v.afterSound.entry q = v.entry q := by
  rcases v.afterSound_cases with ⟨-, taken, -⟩ | ⟨-, -, same⟩
  · exact congrArg (fun l : Vector PathEntry 5 => l[q.idx]) (turnTaken_paths taken)
  · rw [same]

theorem endBurst_entry (q : Path) : (s.endBurst p result).entry q
    = if q = p then (s.entry p).afterBurst p result (s.sounding.minimum.getD 0) else s.entry q := by
  rw [endBurst_noted, afterSound_entry, burstNoted_entry]

theorem endBurst_over {s : State} (able : s.PrimaryAble) : s.burstOver (s.endBurst p result) p result := by
  obtain ⟨sounding, transmitters⟩ := burstNoted_sounding p result able
  have last := s.burstNoted_last p result
  have delay : ((s.burstNoted p result).entry p).delay = ((s.entry p).afterBurst p result (s.sounding.minimum.getD 0)).delay := by
    rw [burstNoted_entry, if_pos rfl]
  unfold endedBody at last
  rw [← delay] at last
  have raised := (State.endBurst_routed s p result).2.2
  rw [endBurst_noted] at raised ⊢
  have state : (s.burstNoted p result).sounding.state = s.sounding.state := by rw [sounding]
  have remaining := (s.burstNoted_remaining p result).1
  rcases (s.burstNoted p result).afterSound_cases with ⟨goes, taken, logged⟩ | ⟨suspended, left, same⟩
  · rw [state, remaining] at goes
    exact burstOver_goes goes sounding transmitters rfl last taken logged raised
  · rw [same]
    rw [state] at suspended
    rw [remaining] at left
    exact burstOver_waits suspended left sounding transmitters rfl last

theorem turnTaken_idle {v t : State} (taken : v.turnTaken t) (left : v.sounding.remaining = 0) :
    t.sounding.state = .idle ∧ t.sounding.current = none ∧ ∀ q, AttnSet.has (t.port q).pending .sweep = true := by
  have turn : v.turnPath = none := by
    unfold State.turnPath
    rw [left]
    rfl
  obtain ⟨sounding, -, raised⟩ := taken.2.2.2.1 turn
  rw [sounding]
  exact ⟨rfl, rfl, raised⟩

/-- A burst that ends with no path left leaves no probe outstanding. -/
theorem endBurst_outstanding (left : s.sounding.remaining = 0) (none' : s.sounding.outstanding = none) :
    (s.endBurst p result).sounding.outstanding = none := by
  obtain ⟨remaining, -, outstanding⟩ := s.burstNoted_remaining p result
  rw [endBurst_noted]
  rcases (s.burstNoted p result).afterSound_cases with ⟨-, taken, -⟩ | ⟨-, more, -⟩
  · have turn : (s.burstNoted p result).turnPath = none := by
      unfold State.turnPath
      rw [remaining, left]
      rfl
    rw [(taken.2.2.2.1 turn).1]
    exact outstanding none'
  · exact absurd (remaining.trans left) more

theorem endBurst_ended : s.burstEnded (s.endBurst p (if 1 ≤ s.sounding.valid then .ok else .failed)) p := by
  generalize verdict : (if 1 ≤ s.sounding.valid then BurstResult.ok else .failed) = result
  have routed := State.endBurst_routed s p result
  have remaining := s.burstNoted_remaining p result
  have out := s.burstNoted_out p result
  have last := s.burstNoted_last p result
  have entry := s.endBurst_entry p result p
  rw [if_pos rfl] at entry
  have cases' := (s.burstNoted p result).afterSound_cases
  rw [← endBurst_noted] at cases'
  unfold endedBody at last
  rw [← entry] at last
  have clauses : (s.skippedTurns = [] → (s.endBurst p result).log.records.getLast? = some ⟨(s.endBurst p result).log.next - 1,
        s.time.tod, s.time.quality, .sound p result s.sounding.valid s.sounding.lost s.sounding.minimum
          ((s.endBurst p result).entry p).delay (decide (result = .ok) && (s.entry p).locked)⟩)
      ∧ (s.sounding.remaining = 0 → (s.endBurst p result).sounding.state = .idle ∧ (s.endBurst p result).sounding.current = none
        ∧ ∀ q, AttnSet.has ((s.endBurst p result).port q).pending .sweep = true) := by
    rcases cases' with ⟨-, taken, logged⟩ | ⟨-, left, same⟩
    · refine ⟨fun none' => ?_, fun left => turnTaken_idle taken (remaining.1.trans left)⟩
      rw [← skippedTurns_congr remaining.1 out] at none'
      rw [none'] at logged
      have serial : (s.endBurst p result).log.next = (s.burstNoted p result).log.next := logged.next.trans (BitVec.add_zero _)
      have first := logged.earlier 0 (by rw [List.map_nil]; decide)
      rw [List.map_nil, List.length_nil, ← List.head?_eq_getElem?, ← List.head?_eq_getElem?, List.head?_reverse, List.head?_reverse] at first
      rw [serial, first, last]
    · rw [same]
      exact ⟨fun _ => same ▸ last, fun none' => absurd (remaining.1.trans none') left⟩
  unfold State.burstEnded
  dsimp only
  rw [verdict]
  refine ⟨entry, clauses.1, clauses.2, fun able => endBurst_over p result able, fun q other => ?_, routed.2.1, routed.2.2, routed.1⟩
  rw [s.endBurst_entry p result q, if_neg other]

/-- The records of the end of a burst: at most one of a change of primary, the SOUND record, and those of the paths passed over. -/
theorem endBurst_logged : ∃ l l', l.length + l'.length ≤ 6
    ∧ s.Logged (l ++ [⟨s.time.tod, s.time.quality, s.endedBody p result⟩] ++ l') (s.endBurst p result) := by
  obtain ⟨l, short, logged⟩ := s.burstNoted_logged p result
  rw [endBurst_noted]
  rcases (s.burstNoted p result).afterSound_cases with ⟨-, -, skipped⟩ | ⟨-, -, same⟩
  · have few := (s.burstNoted p result).skippedTurns_length_le
    exact ⟨l, _, by rw [List.length_map]; omega, logged.trans skipped⟩
  · rw [same]
    exact ⟨l, [], by rw [List.length_nil]; omega, by rw [List.append_nil]; exact logged⟩

end State
end Sys2Proof.Machine

/-! The end of a probe: the next one, a wait, or the end of the burst (R146, R150), and O25. -/

namespace Sys2Proof.Machine
namespace State
variable {s : State} {p : Path}

/-! ## A burst that goes on (R146) -/

theorem continueBurst_none (current : s.sounding.current = none) : s.continueBurst = s := by
  simp only [State.continueBurst, current]

theorem continueBurst_waits (current : s.sounding.current = some p) (left : s.sounding.probeIndex < s.sounding.countCode + 1)
    {t1 : Nat} (last : s.sounding.lastT1 = some t1) (early : s.time.mono < t1 + s.sounding.spacing * 1000) : s.continueBurst = s := by
  have more : ¬s.sounding.burstLength ≤ s.sounding.probeIndex := Nat.not_le.mpr left
  have notYet : ¬(t1 + usToNs s.sounding.spacing ≤ s.time.mono) := Nat.not_le.mpr early
  simp [State.continueBurst, State.spacingReached, current, more, last, notYet]

theorem spacingReached_of (reached : ∀ t1, s.sounding.lastT1 = some t1 → t1 + s.sounding.spacing * 1000 ≤ s.time.mono) :
    s.spacingReached = true := by
  unfold State.spacingReached
  split
  · rfl
  · rename_i t1 last
    exact decide_eq_true (reached t1 last)

theorem continueBurst_issues (current : s.sounding.current = some p) (left : s.sounding.probeIndex < s.sounding.countCode + 1)
    (reached : ∀ t1, s.sounding.lastT1 = some t1 → t1 + s.sounding.spacing * 1000 ≤ s.time.mono) :
    s.continueBurst = s.issueProbe p := by
  have more : ¬s.sounding.burstLength ≤ s.sounding.probeIndex := Nat.not_le.mpr left
  simp [State.continueBurst, current, more, spacingReached_of reached]

theorem continueBurst_ends (current : s.sounding.current = some p) (over' : s.sounding.countCode + 1 ≤ s.sounding.probeIndex) :
    s.continueBurst = s.endBurst p (if 1 ≤ s.sounding.valid then .ok else .failed) := by
  have all : s.sounding.burstLength ≤ s.sounding.probeIndex := over'
  simp only [State.continueBurst, current, if_pos all, Sounding.result]

theorem continueBurst_ended (current : s.sounding.current = some p) (over' : s.sounding.countCode + 1 ≤ s.sounding.probeIndex) :
    s.burstEnded s.continueBurst p := by
  rw [continueBurst_ends current over']
  exact s.endBurst_ended p

theorem continueBurst_issued (current : s.sounding.current = some p) (left : s.sounding.probeIndex < s.sounding.countCode + 1)
    (reached : ∀ t1, s.sounding.lastT1 = some t1 → t1 + s.sounding.spacing * 1000 ≤ s.time.mono) :
    s.probeIssued s.continueBurst p := by
  rw [continueBurst_issues current left reached]
  exact s.issueProbe_issued p

/-! ## The echo service (R157) and an echo taken (R147, R148) -/

theorem echoService_later (busy : (s.transmitter p).inProgress ≠ none ∨ (s.entry p).state = .disabled) (tag : Byte) (index arrival : Nat) :
    s.echoService p tag index arrival = s.modTransmitter p (fun x => { x with echo := some ⟨tag, index, arrival⟩ }) := by
  have transmitter : (s.modTransmitter p (fun x => { x with echo := some ⟨tag, index, arrival⟩ })).transmitter p
      = { s.transmitter p with echo := some ⟨tag, index, arrival⟩ } := State.modTransmitter_transmitter_self s p _
  unfold State.echoService
  rcases busy with sending | disabled
  · exact State.arbitrate_of_busy (by rw [transmitter]; exact sending)
  · exact State.arbitrate_of_disabled disabled

theorem echoService_now (idle : (s.transmitter p).inProgress = none) (inService : (s.entry p).state ≠ .disabled) (tag : Byte)
    (index arrival : Nat) : s.echoService p tag index arrival = s.modTransmitter p (fun x => { x with
      echo := none
      inProgress := s.startFrame p (.echo tag index (min 4294967295 (s.time.mono - arrival))) }) := by
  have transmitter : (s.modTransmitter p (fun x => { x with echo := some ⟨tag, index, arrival⟩ })).transmitter p
      = { s.transmitter p with echo := some ⟨tag, index, arrival⟩ } := State.modTransmitter_transmitter_self s p _
  have starts := State.arbitrate_of_echo (s := s.modTransmitter p (fun x => { x with echo := some ⟨tag, index, arrival⟩ })) (p := p)
    (by rw [transmitter]; exact idle) inService (e := ⟨tag, index, arrival⟩) (by rw [transmitter])
  unfold State.echoService
  rw [starts, State.modTransmitter_modTransmitter]
  rfl

/-- The sweep and the path's statistics with a matching ECHO judged (R148), before the burst goes on. -/
def echoJudged (s : State) (p : Path) (round residence : Nat) : State :=
  if round ≤ residence then
    (s.modSounding (fun x => { x with outstanding := none })).modStats p (fun x => { x with probesInvalid := inc32 x.probesInvalid })
  else
    (s.modSounding (fun x => { x with
      outstanding := none, valid := x.valid + 1
      minimum := some (match x.minimum with | none => oneWaySample round residence | some m => min m (oneWaySample round residence)) })).modStats p
      (fun x => { x with probesValid := inc32 x.probesValid })

theorem judgeEcho_judged (s : State) (p : Path) (round residence : Nat) :
    s.judgeEcho p round residence = (s.echoJudged p round residence).continueBurst := by
  unfold State.judgeEcho echoJudged
  split <;> rfl

theorem takeEcho_stale (tag : Byte) (index residence t4 : Nat) (other : ∀ o, s.sounding.outstanding = some o →
    s.sounding.current ≠ some p ∨ s.sounding.tag ≠ tag ∨ o.index ≠ index) : s.takeEcho p tag index residence t4
      = s.modSounding (fun x => { x with stale := inc32 x.stale }) := by
  unfold State.takeEcho
  cases out : s.sounding.outstanding with
  | none => rfl
  | some o =>
    have differs : s.sounding.echoMatches p tag index = false := by
      unfold Sounding.echoMatches
      rw [out]
      rcases other o out with path | otherTag | otherIndex
      · simp [path]
      · simp [otherTag]
      · simp [otherIndex]
    simp [differs]

theorem takeEcho_matches {o : Outstanding} (out : s.sounding.outstanding = some o) (current : s.sounding.current = some p) {tag : Byte}
    (tagged : s.sounding.tag = tag) {index : Nat} (named : o.index = index) (residence t4 : Nat) :
    s.takeEcho p tag index residence t4 = (s.echoJudged p (t4 - o.t1) residence).continueBurst := by
  have same : s.sounding.echoMatches p tag index = true := by
    unfold Sounding.echoMatches
    simp [out, current, tagged, named]
  unfold State.takeEcho
  simp [out, same, judgeEcho_judged]

end State

theorem PathEntry.afterBurst_delay (e : PathEntry) (p : Path) (least : Nat) : (e.afterBurst p .ok least).delay
    = if e.locked then e.delay else match e.delay with
      | none => some least
      | some d => some ((d : Int) + ((least : Int) - d) / (2 ^ (e.weight + 1) : Nat)).toNat := by
  unfold PathEntry.afterBurst
  cases e.locked with
  | true => rfl
  | false => cases e.delay <;> rfl

theorem PathEntry.afterBurst_formed (e : PathEntry) (p : Path) {result : BurstResult} (reports : result = .ok ∨ result = .failed)
    (least : Nat) : (e.afterBurst p result least).effDelay = (e.afterBurst p result least).formDelay p := by
  unfold PathEntry.afterBurst
  dsimp only
  rw [if_pos reports]
  rfl

end Sys2Proof.Machine

/-! The last probe of the last path (R148, R150), and O25. -/

namespace Sys2Proof.Machine
namespace State
variable {s : State} {p : Path}

theorem echoJudged_invalid {round residence : Nat} (short : round ≤ residence) : s.echoJudged p round residence
    = { s.modEntry p (fun e => { e with stats := { e.stats with probesInvalid := min 4294967295 (e.stats.probesInvalid + 1) } }) with
      sounding := { s.sounding with outstanding := none } } := if_pos short

/-- The least sample with one more (R148). -/
def leastWith (s : State) (sample : Nat) : Nat := match s.sounding.minimum with
  | none => sample
  | some m => min m sample

theorem echoJudged_valid {round residence : Nat} (long : residence < round) : s.echoJudged p round residence
    = { s.modEntry p (fun e => { e with stats := { e.stats with probesValid := min 4294967295 (e.stats.probesValid + 1) } }) with
      sounding := { s.sounding with
        outstanding := none, valid := s.sounding.valid + 1
        minimum := some (s.leastWith (min 16777215 ((round - residence) / 2))) } } := if_neg (Nat.not_le.mpr long)

theorem echoJudged_sounding (round residence : Nat) :
    (s.echoJudged p round residence).sounding.current = s.sounding.current
      ∧ (s.echoJudged p round residence).sounding.probeIndex = s.sounding.probeIndex
      ∧ (s.echoJudged p round residence).sounding.countCode = s.sounding.countCode
      ∧ (s.echoJudged p round residence).sounding.lastT1 = s.sounding.lastT1
      ∧ (s.echoJudged p round residence).sounding.spacing = s.sounding.spacing
      ∧ (s.echoJudged p round residence).time = s.time := by
  unfold echoJudged
  split <;> exact ⟨rfl, rfl, rfl, rfl, rfl, rfl⟩

/-- What the end of a burst shows that has a valid sample and is the last of its sweep (R150, R59). -/
theorem lastBurst_ok (valid : 1 ≤ s.sounding.valid) (left : s.sounding.remaining = 0) (out : s.sounding.outstanding = none) {least : Nat}
    (minimum : s.sounding.minimum = some least) : let t := s.endBurst p .ok
    t.sounding.state = .idle ∧ t.sounding.current = none ∧ t.sounding.outstanding = none
      ∧ t.entry p = (s.entry p).afterBurst p .ok least ∧ (t.entry p).effDelay = (t.entry p).formDelay p
      ∧ (∀ q, AttnSet.has (t.port q).pending .sweep = true)
      ∧ t.log.records.getLast? = some ⟨t.log.next - 1, s.time.tod, s.time.quality,
          .sound p .ok s.sounding.valid s.sounding.lost (some least) (t.entry p).delay (s.entry p).locked⟩
      ∧ s.entriesBut t p ∧ s.sameParameters t ∧ s.portsRaised t ∧ s.routeOnly t := by
  have ended := s.endBurst_ended p
  unfold State.burstEnded at ended
  dsimp only at ended
  rw [if_pos valid, minimum] at ended
  have none' : s.skippedTurns = [] := by
    unfold State.skippedTurns
    rw [left]
    rfl
  obtain ⟨entry, last, idle, -, others, parameters, raised, route⟩ := ended
  obtain ⟨state, current, sweep⟩ := idle left
  have formed := PathEntry.afterBurst_formed (s.entry p) p (.inl rfl : BurstResult.ok = .ok ∨ BurstResult.ok = .failed) least
  refine ⟨state, current, s.endBurst_outstanding p .ok left out, entry, ?_, sweep, last none', others, parameters, raised, route⟩
  rw [entry]
  exact formed

theorem echoJudged_routed (round residence : Nat) : s.routed (s.echoJudged p round residence) := by
  unfold echoJudged
  split <;> exact State.routed_trans (State.modSounding_routed _ _) (State.modStats_routed _ _ _)

theorem modEntry_entriesBut (s : State) (p : Path) (g : PathEntry → PathEntry) : s.entriesBut (s.modEntry p g) p := fun q other => by
  rw [State.modEntry_entry, if_neg other]

theorem entriesBut_trans {t u : State} (h : s.entriesBut t p) (h' : t.entriesBut u p) : s.entriesBut u p :=
  fun q other => (h' q other).trans (h q other)

/-- The last echo of the last path, valid (R148, R150). -/
theorem lastEcho_valid (over' : s.sounding.countCode + 1 ≤ s.sounding.probeIndex) (current : s.sounding.current = some p)
    (left : s.sounding.remaining = 0) {round residence : Nat} (long : residence < round) :
    let least := s.leastWith (min 16777215 ((round - residence) / 2))
    let t := (s.echoJudged p round residence).continueBurst
    t.sounding.state = .idle ∧ t.sounding.current = none ∧ t.sounding.outstanding = none
      ∧ (t.entry p).score = (s.entry p).score / 2
      ∧ (t.entry p).delay = (if (s.entry p).locked then (s.entry p).delay else match (s.entry p).delay with
          | none => some least
          | some d => some ((d : Int) + ((least : Int) - d) / (2 ^ ((s.entry p).weight + 1) : Nat)).toNat)
      ∧ (t.entry p).effDelay = (t.entry p).formDelay p
      ∧ (∀ q, AttnSet.has (t.port q).pending .sweep = true)
      ∧ t.log.records.getLast? = some ⟨t.log.next - 1, s.time.tod, s.time.quality,
          .sound p .ok (s.sounding.valid + 1) s.sounding.lost (some least) (t.entry p).delay (s.entry p).locked⟩
      ∧ s.entriesBut t p ∧ s.sameParameters t ∧ s.portsRaised t ∧ s.routeOnly t := by
  intro least t
  have routed := s.echoJudged_routed (p := p) round residence
  have judged := s.echoJudged_valid (p := p) long
  have sounding := congrArg State.sounding judged
  dsimp only at sounding
  have entry : (s.echoJudged p round residence).entry p
      = { s.entry p with stats := { (s.entry p).stats with probesValid := min 4294967295 ((s.entry p).stats.probesValid + 1) } } := by
    rw [judged]
    exact State.modEntry_entry_self s p
      (fun e => { e with stats := { e.stats with probesValid := min 4294967295 (e.stats.probesValid + 1) } })
  have others : s.entriesBut (s.echoJudged p round residence) p := by
    rw [judged]
    exact s.modEntry_entriesBut p
      (fun e => { e with stats := { e.stats with probesValid := min 4294967295 (e.stats.probesValid + 1) } })
  have time : (s.echoJudged p round residence).time = s.time := (echoJudged_sounding round residence).2.2.2.2.2
  have ends : t = (s.echoJudged p round residence).endBurst p .ok := by
    refine (continueBurst_ends (by rw [sounding]; exact current) (by rw [sounding]; exact over')).trans ?_
    rw [sounding, if_pos (Nat.le_add_left 1 _)]
  have last := lastBurst_ok (s := s.echoJudged p round residence) (p := p) (by rw [sounding]; exact Nat.le_add_left 1 _)
    (by rw [sounding]; exact left) (by rw [sounding]) (least := least) (by rw [sounding])
  rw [← ends] at last
  dsimp only at last
  obtain ⟨state, current, out, burst, formed, sweep, record, others', parameters, raised, route⟩ := last
  rw [time, entry, sounding] at record
  rw [entry] at burst
  refine ⟨state, current, out, ?_, ?_, formed, sweep, record, entriesBut_trans others others',
    State.sameParameters_trans routed.2.1 parameters, State.portsRaised_trans routed.2.2 raised, State.routeOnly_trans routed.1 route⟩
  · rw [burst]
    rfl
  · rw [burst]
    exact PathEntry.afterBurst_delay _ p least

end State

/-- Settles O25: an echo is answered at once by an idle transmitter, and a matching one is judged before the burst goes on. -/
theorem echoesAnsweredAndSampled : Obligations.EchoesAnsweredAndSampled := by
  refine ⟨fun s p tag index arrival => ⟨fun busy => State.echoService_later busy tag index arrival, fun idle inService =>
    State.echoService_now idle inService tag index arrival⟩, fun s p tag index residence t4 => ⟨fun out => ?_, fun o out =>
    ⟨fun other => ?_, fun current tagged named => ?_⟩⟩⟩
  · exact State.takeEcho_stale tag index residence t4 (fun o named => (Option.some_ne_none o (named.symm.trans out)).elim)
  · refine State.takeEcho_stale tag index residence t4 (fun o' named => ?_)
    cases out.symm.trans named
    exact other
  · obtain ⟨current', index', count, last, spacing, time⟩ := State.echoJudged_sounding (s := s) (p := p) (t4 - o.t1) residence
    have is := State.takeEcho_matches out current tagged named residence t4
    intro sample least judged
    have same : judged = s.echoJudged p (t4 - o.t1) residence := rfl
    rw [is, same]
    refine ⟨fun t1 more started early => ?_, fun more reached => ?_, fun over' => ?_, fun over' left long => ?_⟩
    · exact State.continueBurst_waits (current'.trans current) (by rw [index', count]; exact more) (last.trans started)
        (by rw [time, spacing]; exact early)
    · exact State.continueBurst_issued (current'.trans current) (by rw [index', count]; exact more)
        (by rw [last, time, spacing]; exact reached)
    · exact State.continueBurst_ended (current'.trans current) (by rw [index', count]; exact over')
    · exact State.lastEcho_valid over' current left long

end Sys2Proof.Machine

/-! The Sounding Unit's timers run out, and O56. -/

namespace Sys2Proof.Machine
namespace State
variable {s : State} {p : Path}

/-! ## The probe spacing (R146) -/

theorem probeIssue_not_due (notDue : s.probeIssueDue = false) : s.probeIssue = s := by
  unfold State.probeIssue
  rw [notDue]
  rfl

theorem probeIssueDue_iff : s.probeIssueDue = true ↔ (s.sounding.state = .running ∧ s.sounding.current ≠ none
    ∧ s.sounding.pendingProbe = none ∧ s.sounding.outstanding = none ∧ s.sounding.probeIndex < s.sounding.countCode + 1)
      ∧ s.spacingReached = true := by
  unfold State.probeIssueDue Sounding.burstLength
  simp [Option.isSome_iff_ne_none, and_assoc]

theorem probeIssue_blocked (blocked : s.sounding.state ≠ .running ∨ s.sounding.current = none ∨ s.sounding.pendingProbe ≠ none
    ∨ s.sounding.outstanding ≠ none ∨ s.sounding.countCode + 1 ≤ s.sounding.probeIndex) : s.probeIssue = s := by
  refine probeIssue_not_due (Bool.eq_false_iff.mpr fun due => ?_)
  obtain ⟨⟨running, current, pending, out, more⟩, -⟩ := probeIssueDue_iff.mp due
  rcases blocked with h | h | h | h | h
  · exact h running
  · exact current h
  · exact h pending
  · exact h out
  · exact Nat.not_le.mpr more h

theorem probeIssue_early {t1 : Nat} (last : s.sounding.lastT1 = some t1) (early : s.time.mono < t1 + s.sounding.spacing * 1000) :
    s.probeIssue = s := by
  refine probeIssue_not_due (Bool.eq_false_iff.mpr fun due => ?_)
  obtain ⟨-, reached⟩ := probeIssueDue_iff.mp due
  simp only [State.spacingReached, last] at reached
  exact Nat.not_le.mpr early (of_decide_eq_true reached)

theorem probeIssue_due (running : s.sounding.state = .running) (current : s.sounding.current = some p)
    (pending : s.sounding.pendingProbe = none) (out : s.sounding.outstanding = none)
    (more : s.sounding.probeIndex < s.sounding.countCode + 1)
    (reached : ∀ t1, s.sounding.lastT1 = some t1 → t1 + s.sounding.spacing * 1000 ≤ s.time.mono) : s.probeIssue = s.continueBurst :=
  if_pos (probeIssueDue_iff.mpr ⟨⟨running, current ▸ Option.some_ne_none p, pending, out, more⟩, spacingReached_of reached⟩)

/-! ## The probe timeout (R149) -/

theorem probeTimeout_none (out : s.sounding.outstanding = none) : s.probeTimeout = s := by
  simp [State.probeTimeout, State.probeTimeoutDue, State.reached, out]

theorem probeTimeout_early {o : Outstanding} (out : s.sounding.outstanding = some o) (early : s.time.mono < o.deadline) :
    s.probeTimeout = s := by
  simp [State.probeTimeout, State.probeTimeoutDue, State.reached, out, Nat.not_le.mpr early]

/-- The outstanding probe of `p` counted lost. -/
def probeLost (s : State) (p : Path) : State :=
  { s.modEntry p (fun e => { e with stats := { e.stats with probesLost := min 4294967295 (e.stats.probesLost + 1) } }) with
    sounding := { s.sounding with outstanding := none, lost := s.sounding.lost + 1 } }

theorem probeTimeout_due {o : Outstanding} (out : s.sounding.outstanding = some o) (current : s.sounding.current = some p)
    (due : o.deadline ≤ s.time.mono) : s.probeTimeout = (s.probeLost p).continueBurst := by
  have passed : s.probeTimeoutDue = true := by
    simp [State.probeTimeoutDue, State.reached, out, due]
  unfold State.probeTimeout
  rw [if_pos passed]
  simp only [current]
  rfl

theorem probeLost_entry (s : State) (p : Path) : (s.probeLost p).entry p
    = { s.entry p with stats := { (s.entry p).stats with probesLost := min 4294967295 ((s.entry p).stats.probesLost + 1) } } :=
  State.modEntry_entry_self s p
    (fun e => { e with stats := { e.stats with probesLost := min 4294967295 (e.stats.probesLost + 1) } })

/-- The last probe of the last path lost, with no valid sample (R149, R150). -/
theorem lastProbe_lost (over' : s.sounding.countCode + 1 ≤ s.sounding.probeIndex) (current : s.sounding.current = some p)
    (valid : s.sounding.valid = 0) (left : s.sounding.remaining = 0) : let t := (s.probeLost p).continueBurst
    t.sounding.state = .idle ∧ t.sounding.current = none ∧ t.sounding.outstanding = none
      ∧ (t.entry p).score = min 255 ((s.entry p).score + 64)
      ∧ (t.entry p).delay = (s.entry p).delay ∧ (t.entry p).stats = ((s.probeLost p).entry p).stats
      ∧ (∀ q, AttnSet.has (t.port q).pending .sweep = true)
      ∧ t.log.records.getLast? = some ⟨t.log.next - 1, s.time.tod, s.time.quality,
          .sound p .failed 0 (s.sounding.lost + 1) s.sounding.minimum (s.entry p).delay false⟩
      ∧ s.entriesBut t p ∧ s.sameParameters t ∧ s.portsRaised t ∧ s.routeOnly t := by
  intro t
  have noSample : ¬1 ≤ (s.probeLost p).sounding.valid := Nat.not_le.mpr (Nat.lt_one_iff.mpr valid)
  have ends : t = (s.probeLost p).endBurst p .failed := by
    refine (continueBurst_ends (s := s.probeLost p) current over').trans ?_
    rw [if_neg noSample]
  have ended := (s.probeLost p).endBurst_ended p
  unfold State.burstEnded at ended
  dsimp only at ended
  rw [if_neg noSample, ← ends] at ended
  have none' : (s.probeLost p).skippedTurns = [] := by
    have left' : (s.probeLost p).sounding.remaining = 0 := left
    unfold State.skippedTurns
    rw [left']
    rfl
  obtain ⟨entry, last, idle, -, others, parameters, raised, route⟩ := ended
  obtain ⟨state, none'', sweep⟩ := idle left
  have record := last none'
  have out := (s.probeLost p).endBurst_outstanding p .failed left rfl
  rw [← ends] at out
  have before : s.routed (s.probeLost p) := State.routed_trans
    (State.modEntry_routed s p (fun e => { e with stats := { e.stats with probesLost := min 4294967295 (e.stats.probesLost + 1) } }))
    (State.modSounding_routed _ (fun _ => { s.sounding with outstanding := none, lost := s.sounding.lost + 1 }))
  have delay : (t.entry p).delay = (s.entry p).delay := by
    rw [entry, probeLost_entry]
    rfl
  refine ⟨state, none'', out, ?_, delay, ?_, sweep, ?_,
    entriesBut_trans (s.modEntry_entriesBut p
      (fun e => { e with stats := { e.stats with probesLost := min 4294967295 (e.stats.probesLost + 1) } })) others,
    State.sameParameters_trans before.2.1 parameters, State.portsRaised_trans before.2.2 raised, State.routeOnly_trans before.1 route⟩
  · rw [entry, probeLost_entry]
    rfl
  · rw [entry]
    rfl
  · rw [record, delay]
    have zero : (s.probeLost p).sounding.valid = 0 := valid
    rw [zero]
    rfl

/-! ## The settle deadline (R154) and RESUME SWEEP (R152) -/

/-- A suspended sweep set RUNNING again. -/
def resumed (s : State) : State :=
  { s with sounding := { s.sounding with state := .running, reason := none, settleDeadline := none } }

theorem resume_current (current : s.sounding.current = some p) : s.resume = s.resumed.continueBurst := by
  have named : s.resumed.sounding.current.isSome = true := by
    have same : s.resumed.sounding.current = some p := current
    rw [same]
    rfl
  exact if_pos named

theorem resume_none (current : s.sounding.current = none) : s.resume = s.resumed.pathTurn turnFuel := by
  have named : ¬s.resumed.sounding.current.isSome = true := by
    have same : s.resumed.sounding.current = none := current
    rw [same]
    exact Bool.false_ne_true
  exact if_neg named

theorem settleDeadline_other (other : s.sounding.state ≠ .suspended ∨ s.sounding.reason ≠ some .fallback) : s.settleDeadline = s := by
  refine if_neg fun due => ?_
  unfold State.settleDue at due
  rw [Bool.and_eq_true, Bool.and_eq_true, beq_iff_eq, beq_iff_eq] at due
  exact other.elim (absurd due.1.1) (absurd due.1.2)

theorem settleDeadline_early {d : Nat} (deadline : s.sounding.settleDeadline = some d) (early : s.time.mono < d) : s.settleDeadline = s := by
  simp [State.settleDeadline, State.settleDue, State.reached, deadline, Nat.not_le.mpr early]

theorem settleDeadline_due {d : Nat} (suspended : s.sounding.state = .suspended) (reason : s.sounding.reason = some .fallback)
    (deadline : s.sounding.settleDeadline = some d) (due : d ≤ s.time.mono) : s.settleDeadline = s.resume := by
  simp [State.settleDeadline, State.settleDue, State.reached, suspended, reason, deadline, due]

end State

/-- Settles O56: each timer of the Sounding Unit does nothing before its moment and then lets the burst or the sweep go on. -/
theorem sweepTimersRunOut : Obligations.SweepTimersRunOut := by
  intro s
  have issue : exec .probeIssue s = .next s.probeIssue := rfl
  have timeout : exec .probeTimeout s = .next s.probeTimeout := rfl
  have settle : exec .settleDeadline s = .next s.settleDeadline := rfl
  rw [issue, timeout, settle]
  refine ⟨fun blocked => congrArg _ (State.probeIssue_blocked blocked), fun t1 last early => congrArg _ (State.probeIssue_early last early),
    fun p running current pending out more reached => ⟨_, rfl, ?_⟩, fun out => congrArg _ (State.probeTimeout_none out),
    fun o p out current => ⟨fun early => congrArg _ (State.probeTimeout_early out early), fun due more => ?_, fun due over' => ?_,
      fun due over' valid left => ?_⟩, fun other => congrArg _ (State.settleDeadline_other other),
    fun d p suspended reason deadline current => ⟨fun early => congrArg _ (State.settleDeadline_early deadline early),
      fun due more t1 last early => ?_⟩,
    fun d suspended reason deadline => ⟨fun _ early => congrArg _ (State.settleDeadline_early deadline early),
      fun current due => ⟨_, rfl, ?_⟩, fun p current due over' => ⟨_, rfl, ?_⟩, fun p current due more reached => ⟨_, rfl, ?_⟩⟩⟩
  · rw [State.probeIssue_due running current pending out more reached]
    exact State.continueBurst_issued current more reached
  · rw [State.probeTimeout_due out current due]
    exact ⟨fun t1 last early => congrArg _ (State.continueBurst_waits (s := s.probeLost p) current more last early),
      fun reached => ⟨_, rfl, State.continueBurst_issued (s := s.probeLost p) current more reached⟩⟩
  · rw [State.probeTimeout_due out current due]
    exact ⟨_, rfl, State.continueBurst_ended (s := s.probeLost p) current over'⟩
  · rw [State.probeTimeout_due out current due]
    exact ⟨_, rfl, State.lastProbe_lost over' current valid left⟩
  · rw [State.settleDeadline_due suspended reason deadline due, State.resume_current current]
    exact congrArg _ (State.continueBurst_waits (s := s.resumed) current more last early)
  · rw [State.settleDeadline_due suspended reason deadline due, State.resume_none current]
    exact s.resumed.pathTurn_taken.1
  · rw [State.settleDeadline_due suspended reason deadline due, State.resume_current current]
    exact State.continueBurst_ended (s := s.resumed) current over'
  · rw [State.settleDeadline_due suspended reason deadline due, State.resume_current current]
    exact State.continueBurst_issued (s := s.resumed) current more reached

end Sys2Proof.Machine

/-! The commands of the Sounding Unit, and O55. -/

namespace Sys2Proof.Machine

theorem exec_startSweep (port : Port) (args : List Byte) (s : State) : exec (.startSweep port args) s
    = .next (s.command port (sweepArgs args) Role.supervises (fun a t => t.startSweep a)) := rfl

theorem exec_suspendSweep (port : Port) (s : State) : exec (.suspendSweep port []) s
    = .next (s.command port (some ()) Role.supervises (fun _ t => .ok t.suspendSweep)) := rfl

theorem exec_resumeSweep (port : Port) (s : State) : exec (.resumeSweep port []) s
    = .next (s.command port (some ()) Role.supervises (fun _ t => .ok t.resumeSweep)) := rfl

theorem exec_cancelSweep (port : Port) (s : State) : exec (.cancelSweep port []) s
    = .next (s.command port (some ()) Role.supervises (fun _ t => .ok t.cancelSweep)) := rfl

theorem sweepArgs_bytes (set code : Byte) {spacing timeout settle : Nat} (hs : spacing < 65536) (ht : timeout < 65536) (he : settle < 65536) :
    sweepArgs ([set, code] ++ leBytes 2 spacing ++ leBytes 2 timeout ++ leBytes 2 settle)
      = some ⟨set.toNat, code.toNat, spacing, timeout, settle⟩ := by
  have read : sweepArgs ([set, code] ++ leBytes 2 spacing ++ leBytes 2 timeout ++ leBytes 2 settle)
      = some ⟨set.toNat, code.toNat, leNat (leBytes 2 spacing), leNat (leBytes 2 timeout), leNat (leBytes 2 settle)⟩ := rfl
  rw [read, leNat_leBytes_two hs, leNat_leBytes_two ht, leNat_leBytes_two he]

namespace State
variable (s : State) (port : Port) (r : ResultCode)

/-! ## START SWEEP (R144) -/

/-- The sweep as START SWEEP leaves it before the first turn. -/
def sweepSet (a : SweepArgs) : State :=
  { s with sounding := { s.sounding with
      state := .running, reason := none, settleDeadline := none, tag := s.sounding.tag + 1, pathSet := BitVec.ofNat 5 a.pathSet
      remaining := BitVec.ofNat 5 a.pathSet, countCode := a.countCode, spacing := a.spacing, timeout := max 1 a.timeout
      settle := a.settle, minimum := none, valid := 0, lost := 0 } }

theorem startSweep_argument {a : SweepArgs} (bad : a.pathSet = 0 ∨ 32 ≤ a.pathSet ∨ 15 < a.countCode ∨ a.spacing < 10) :
    s.startSweep a = .error .argument := if_pos bad

theorem startSweep_inRange {a : SweepArgs} (range : 1 ≤ a.pathSet ∧ a.pathSet < 32 ∧ a.countCode ≤ 15 ∧ 10 ≤ a.spacing) :
    s.startSweep a = if s.sounding.isActive then .error .busy else .ok ((s.sweepSet a).pathTurn turnFuel) := by
  obtain ⟨some', few, count, spacing⟩ := range
  exact if_neg (by omega)

/-! ## SUSPEND SWEEP, RESUME SWEEP (R152) -/

theorem suspendSweep_setResult : (s.setResult port r).suspendSweep = s.suspendSweep.setResult port r := by
  unfold State.suspendSweep
  rw [setResult_sounding]
  split
  · rw [State.abandonProbe_setResult, setResult_modSounding]
  · rfl

theorem resumeSweep_setResult : (s.setResult port r).resumeSweep = s.resumeSweep.setResult port r := by
  unfold State.resumeSweep State.resume
  rw [setResult_sounding]
  dsimp only
  rw [setResult_modSounding, setResult_sounding, continueBurst_setResult, pathTurn_setResult]
  split
  · split <;> rfl
  · rfl

theorem abandonProbe_frame : s.abandonProbe = { s with transmitters := s.abandonProbe.transmitters, sounding := s.sounding.abandoned } := by
  unfold State.abandonProbe
  dsimp only
  split <;> rfl

/-- A RUNNING sweep suspended: the probe withdrawn or abandoned. -/
theorem suspendSweep_running (running : s.sounding.state = .running) : let t := s.suspendSweep
    t.sounding = { s.sounding with
        state := .suspended, reason := some .command, settleDeadline := none, pendingProbe := none, outstanding := none }
      ∧ (∀ p, t.transmitter p = if s.sounding.current = some p ∧ s.sounding.pendingProbe ≠ none then
          { s.transmitter p with probe := none } else s.transmitter p)
      ∧ t = { s with sounding := t.sounding, transmitters := t.transmitters } := by
  intro t
  have is : t = s.abandonProbe.modSounding (fun x => { x with state := .suspended, reason := some .command, settleDeadline := none }) :=
    if_pos running
  have frame := s.abandonProbe_frame
  have withdrawn := s.abandonProbe_transmitter
  rw [is]
  generalize s.abandonProbe = u at frame withdrawn
  refine ⟨?_, fun p => (withdrawn p).trans (if_congr and_comm rfl rfl), ?_⟩
  · rw [frame]
    rfl
  · rw [frame]
    rfl

/-! ## CANCEL SWEEP (R153) -/

/-- The burst in progress aborted with its SOUND record, before the sweep ends. -/
def burstAborted : State := match s.sounding.current with
  | some p => s.abandonProbe.logWrite (.sound p .aborted s.sounding.valid s.sounding.lost s.sounding.minimum (s.entry p).delay false)
  | none => s

theorem cancelSweep_active (active : s.sounding.state ≠ .idle) :
    s.cancelSweep = (s.burstAborted.modSounding (fun x => { x with remaining := 0 })).endSweep := by
  have sounding := s.abandonProbe_sounding
  have entry (p : Path) : s.abandonProbe.entry p = s.entry p := by rw [s.abandonProbe_frame]; rfl
  unfold State.cancelSweep burstAborted
  rw [if_neg active]
  cases s.sounding.current with
  | none => rfl
  | some p =>
    dsimp only
    rw [sounding, entry]
    rfl

theorem burstAborted_setResult : (s.setResult port r).burstAborted = s.burstAborted.setResult port r := by
  unfold burstAborted
  rw [setResult_sounding]
  cases s.sounding.current with
  | none => rfl
  | some p =>
    dsimp only
    rw [State.abandonProbe_setResult, State.logWrite_setResult, setResult_entry]

theorem cancelSweep_setResult : (s.setResult port r).cancelSweep = s.cancelSweep.setResult port r := by
  by_cases idle : s.sounding.state = .idle
  · have same : s.cancelSweep = s := if_pos idle
    rw [same]
    exact if_pos idle
  · rw [s.cancelSweep_active idle, State.cancelSweep_active (s.setResult port r) idle, burstAborted_setResult, setResult_modSounding,
      endSweep_setResult]

/-- What the abort of the burst in progress leaves. -/
theorem burstAborted_leaves : let u := s.burstAborted
    u.sounding = { s.sounding with
        pendingProbe := if s.sounding.current = none then s.sounding.pendingProbe else none
        outstanding := if s.sounding.current = none then s.sounding.outstanding else none }
      ∧ (∀ p, u.transmitter p = if s.sounding.current = some p ∧ s.sounding.pendingProbe ≠ none then
          { s.transmitter p with probe := none } else s.transmitter p)
      ∧ (∀ p, s.sounding.current = some p → u.log.records.getLast? = some ⟨s.log.next, s.time.tod, s.time.quality,
          .sound p .aborted s.sounding.valid s.sounding.lost s.sounding.minimum (s.entry p).delay false⟩)
      ∧ (s.sounding.current = none → u.log = s.log) ∧ s.portsRaised u
      ∧ u = { s with sounding := u.sounding, transmitters := u.transmitters, log := u.log, ports := u.ports } := by
  intro u
  cases current : s.sounding.current with
  | none =>
    have same : u = s := by
      simp only [u, burstAborted, current]
    rw [same]
    refine ⟨?_, fun p => ?_, fun p named => (Option.some_ne_none p named.symm).elim, fun _ => rfl, s.portsRaised_refl, rfl⟩
    · rw [if_pos rfl, if_pos rfl]
    · exact (if_neg fun both => Option.some_ne_none p both.1.symm).symm
  | some p =>
    have is : u = s.abandonProbe.logWrite (.sound p .aborted s.sounding.valid s.sounding.lost s.sounding.minimum (s.entry p).delay false) := by
      simp only [u, burstAborted, current]
    have frame := s.abandonProbe_frame
    have withdrawn := s.abandonProbe_transmitter
    rw [current] at withdrawn
    have only := State.logWrite_logOnly s.abandonProbe (.sound p .aborted s.sounding.valid s.sounding.lost s.sounding.minimum (s.entry p).delay false)
    have last := State.logWrite_last s.abandonProbe (.sound p .aborted s.sounding.valid s.sounding.lost s.sounding.minimum (s.entry p).delay false)
    rw [← is] at only last
    generalize s.abandonProbe = v at frame withdrawn only last
    have sounding : u.sounding = s.sounding.abandoned := by rw [only.1, frame]
    refine ⟨?_, fun q => ?_, fun q named => ?_, fun none' => (Option.some_ne_none p none').elim, ?_, ?_⟩
    · rw [sounding, if_neg (Option.some_ne_none p), if_neg (Option.some_ne_none p)]
      rfl
    · exact (State.logOnly_transmitter only q).trans ((withdrawn q).trans (if_congr and_comm rfl rfl))
    · cases named
      rw [last, frame]
    · exact State.portsRaised_trans (State.portsRaised_of_ports (by rw [frame])) only.2
    · rw [only.1, frame]

/-- CANCEL SWEEP of an active sweep. -/
theorem cancelSweep_leaves (active : s.sounding.state ≠ .idle) : let t := s.cancelSweep
    t.sounding = { s.sounding with
        state := .idle, reason := none, settleDeadline := none, current := none, remaining := 0
        pendingProbe := if s.sounding.current = none then s.sounding.pendingProbe else none
        outstanding := if s.sounding.current = none then s.sounding.outstanding else none }
      ∧ (∀ p, t.transmitter p = if s.sounding.current = some p ∧ s.sounding.pendingProbe ≠ none then
          { s.transmitter p with probe := none } else s.transmitter p)
      ∧ (∀ q, AttnSet.has (t.port q).pending .sweep = true)
      ∧ (∀ p, s.sounding.current = some p → t.log.records.getLast? = some ⟨s.log.next, s.time.tod, s.time.quality,
          .sound p .aborted s.sounding.valid s.sounding.lost s.sounding.minimum (s.entry p).delay false⟩)
      ∧ (s.sounding.current = none → t.log = s.log) ∧ s.portsRaised t
      ∧ t = { s with sounding := t.sounding, transmitters := t.transmitters, log := t.log, ports := t.ports } := by
  intro t
  have is : t = (s.burstAborted.modSounding (fun x => { x with remaining := 0 })).endSweep := s.cancelSweep_active active
  obtain ⟨sounding, transmitters, last, log, raised, frame⟩ := s.burstAborted_leaves
  have ended := State.raiseAll_eq ((s.burstAborted.modSounding (fun x => { x with remaining := 0 })).modSounding (fun x => { x with
    state := .idle, reason := none, settleDeadline := none, current := none })) .sweep
  have more := State.raiseAll_portsRaised ((s.burstAborted.modSounding (fun x => { x with remaining := 0 })).modSounding (fun x => { x with
    state := .idle, reason := none, settleDeadline := none, current := none })) .sweep
  have sweep := raiseAll_has ((s.burstAborted.modSounding (fun x => { x with remaining := 0 })).modSounding (fun x => { x with
    state := .idle, reason := none, settleDeadline := none, current := none })) .sweep
  rw [State.endSweep] at is
  rw [← is] at ended more sweep
  clear_value t
  generalize s.burstAborted = u at *
  have sounding' : t.sounding = { u.sounding with
      remaining := 0, state := .idle, reason := none, settleDeadline := none, current := none } := by rw [ended]; rfl
  have log' : t.log = u.log := by rw [ended]; rfl
  have transmitters' : t.transmitters = u.transmitters := by rw [ended]; rfl
  have same (p : Path) : t.transmitter p = u.transmitter p := congrArg (fun l : Vector Transmitter 5 => l[p.idx]) transmitters'
  refine ⟨?_, fun p => (same p).trans (transmitters p), sweep, fun p named => ?_, fun none' => log'.trans (log none'), ?_, ?_⟩
  · rw [sounding', sounding]
  · rw [log']
    exact last p named
  · exact State.portsRaised_trans raised (State.portsRaised_trans (State.portsRaised_of_ports rfl) more)
  · rw [ended, frame]
    rfl

end State

/-- Settles O55: each command of the sweep acts on the answered state as its rule says, and has no effect in another state. -/
theorem sweepCommandsTaken : Obligations.SweepCommandsTaken := by
  intro s port ready role x
  have right : Role.supervises (s.port port).role = true := Role.supervises_iff.mpr role
  have suspend : exec (.suspendSweep port []) s = .next (s.answered port .ok).suspendSweep := (exec_suspendSweep port s).trans
    (congrArg _ (State.command_answered (g := State.suspendSweep) ready right rfl (fun u => (u.suspendSweep_setResult port .ok).symm)))
  have resume : exec (.resumeSweep port []) s = .next (s.answered port .ok).resumeSweep := (exec_resumeSweep port s).trans
    (congrArg _ (State.command_answered (g := State.resumeSweep) ready right rfl (fun u => (u.resumeSweep_setResult port .ok).symm)))
  have cancel : exec (.cancelSweep port []) s = .next (s.answered port .ok).cancelSweep := (exec_cancelSweep port s).trans
    (congrArg _ (State.command_answered (g := State.cancelSweep) ready right rfl (fun u => (u.cancelSweep_setResult port .ok).symm)))
  rw [suspend, resume, cancel]
  have resumes (suspended : x.state = .suspended) : (s.answered port .ok).resumeSweep = (s.answered port .ok).resume := if_pos suspended
  refine ⟨fun set code spacing timeout settle hs ht he => ⟨fun bad => ?_, fun range active => ?_, fun range idle => ?_⟩,
    fun notRunning => congrArg _ (if_neg notRunning), fun running => ⟨_, rfl, State.suspendSweep_running (s.answered port .ok) running⟩,
    fun notSuspended => congrArg _ (if_neg notSuspended),
    fun p suspended current more => ⟨fun t1 last early => ?_, fun reached => ⟨_, rfl, ?_⟩⟩,
    fun suspended current => ⟨_, rfl, ?_⟩, fun p suspended current over' => ⟨_, rfl, ?_⟩, fun idle => congrArg _ (if_pos idle),
    fun active => ⟨_, rfl, ?_⟩⟩
  · rw [exec_startSweep, sweepArgs_bytes set code hs ht he]
    refine congrArg _ (s.command_refused port _ _ _ .argument ready right (State.startSweep_argument _ ?_))
    dsimp only
    omega
  · rw [exec_startSweep, sweepArgs_bytes set code hs ht he]
    refine congrArg _ (s.command_refused port _ _ _ .busy ready right ((State.startSweep_inRange _ range).trans (if_pos ?_)))
    exact bne_iff_ne.mpr active
  · rw [exec_startSweep, sweepArgs_bytes set code hs ht he]
    have inactive : ¬s.sounding.isActive = true := fun active => bne_iff_ne.mp active idle
    have taken := State.command_answered (a := (⟨set.toNat, code.toNat, spacing, timeout, settle⟩ : SweepArgs))
      (take := fun a t => t.startSweep a) (g := fun u => (u.sweepSet ⟨set.toNat, code.toNat, spacing, timeout, settle⟩).pathTurn turnFuel)
      ready right ((State.startSweep_inRange _ range).trans (if_neg inactive))
      (fun u => (State.pathTurn_setResult port .ok turnFuel (u.sweepSet ⟨set.toNat, code.toNat, spacing, timeout, settle⟩)).symm)
    rw [taken]
    exact ⟨_, rfl, (State.pathTurn_taken _).1⟩
  · rw [resumes suspended, State.resume_current (s := s.answered port .ok) current]
    exact congrArg _ (State.continueBurst_waits (s := (s.answered port .ok).resumed) current more last early)
  · rw [resumes suspended, State.resume_current (s := s.answered port .ok) current]
    exact State.continueBurst_issued (s := (s.answered port .ok).resumed) current more reached
  · rw [resumes suspended, State.resume_none (s := s.answered port .ok) current]
    exact (s.answered port .ok).resumed.pathTurn_taken.1
  · rw [resumes suspended, State.resume_current (s := s.answered port .ok) current]
    exact State.continueBurst_ended (s := (s.answered port .ok).resumed) current over'
  · obtain ⟨sounding, transmitters, sweep, last, log, raised, frame⟩ := State.cancelSweep_leaves (s.answered port .ok) active
    exact ⟨sounding, transmitters, sweep, last, log, (State.portsRaised.lastResult raised port).trans (s.answered_lastResult port .ok),
      raised, frame⟩

end Sys2Proof.Machine

/-! A re-evaluation settles the selection: another one changes no primary (R78 to R81). -/

namespace Sys2Proof.Machine
namespace State
variable {s t : State}

/-- A re-evaluation would keep the primary. -/
def Stable (s : State) : Prop := s.selectPrimary s.rankOrder = none

/-- The choice of the primary depends on what the selector and the entries show of it. -/
theorem selectPrimary_congr (primary : t.selector.primary = s.selector.primary) (pin : t.selector.pin = s.selector.pin)
    (hysteresis : t.selector.hysteresis = s.selector.hysteresis) (eligible : t.eligible = s.eligible)
    (promotable : t.promotable = s.promotable) (effDelay : t.effDelay = s.effDelay) :
    t.selectPrimary t.rankOrder = s.selectPrimary s.rankOrder := by
  simp only [State.selectPrimary, State.actingPin, State.improveStep, State.fallbackStep, State.bestPromotable, State.bestEligible,
    State.rankOrder, primary, pin, hysteresis, eligible, promotable, effDelay]

theorem Stable.congr (h : s.Stable) (primary : t.selector.primary = s.selector.primary) (pin : t.selector.pin = s.selector.pin)
    (hysteresis : t.selector.hysteresis = s.selector.hysteresis) (eligible : t.eligible = s.eligible)
    (promotable : t.promotable = s.promotable) (effDelay : t.effDelay = s.effDelay) : t.Stable :=
  (selectPrimary_congr primary pin hysteresis eligible promotable effDelay).trans h

/-- With the primary that was chosen nothing more is chosen. -/
theorem selectPrimary_again {new : Option Path} {kind : ChangeKind} (choice : s.selectPrimary s.rankOrder = some (new, kind)) :
    (s.modSelector (fun x => { x with primary := new })).Stable := by
  have improved {x y : Path} (able : s.promotable y = true)
      (least : ∀ q, q ≠ x → q ≠ y → s.promotable q = true → s.effDelay y ≤ s.effDelay q)
      (other : x = y ∨ s.effDelay y ≤ s.effDelay x) :
      (s.modSelector (fun z => { z with primary := some y })).improveStep s.rankOrder y = none := by
    refine (improveStep_none (s := s.modSelector (fun z => { z with primary := some y }))).mpr ?_
    rintro ⟨q, differs, promotable, less⟩
    have less' : s.effDelay q + s.selector.hysteresis < s.effDelay y := less
    by_cases old : q = x
    · subst old
      rcases other with same | before
      · exact differs same
      · omega
    · have := least q old differs promotable
      omega
  cases acting : s.actingPin with
  | some q =>
    simp only [State.selectPrimary, acting] at choice
    split at choice
    · cases choice
    · cases choice
      have acting' : (s.modSelector (fun x => { x with primary := some q })).actingPin = some q := acting
      unfold Stable State.selectPrimary
      rw [acting']
      exact if_pos rfl
  | none =>
    have free {y : Option Path} : (s.modSelector (fun x => { x with primary := y })).actingPin = none := acting
    have goesOn {y : Path} (able : s.eligible y = true)
        (none' : (s.modSelector (fun z => { z with primary := some y })).improveStep s.rankOrder y = none) :
        (s.modSelector (fun z => { z with primary := some y })).Stable :=
      (selectPrimary_able _ free (Option.filter_eq_some_iff.mpr ⟨rfl, able⟩)).trans none'
    cases held : s.selector.primary.filter s.eligible with
    | some x =>
      rw [selectPrimary_able _ acting held] at choice
      obtain ⟨-, y, rfl, -, able, less, least⟩ := improveStep_least choice
      exact goesOn (eligible_of_promotable able) (improved able (fun q old _ => least q old) (.inr (by omega)))
    | none =>
      rw [selectPrimary_lost _ acting held] at choice
      have best : new = (s.bestPromotable s.rankOrder).or (s.bestEligible s.rankOrder) := by
        unfold State.fallbackStep at choice
        dsimp only at choice
        split at choice <;> rename_i chosen
        · cases choice
          exact chosen.symm
        · cases choice
          exact chosen.symm
        · cases choice
          exact chosen.symm
        · cases choice
      cases promoted : s.bestPromotable s.rankOrder with
      | some y =>
        obtain ⟨able, least⟩ := least_of_find (fun q h => eligible_of_promotable h) promoted
        rw [promoted] at best
        cases best
        refine goesOn (eligible_of_promotable able) (improved (x := y) able (fun q _ _ other => ?_) (.inl rfl))
        have before := least q other
        unfold RanksBefore at before
        omega
      | none =>
        have unpromotable := find_rankOrder_none promoted
        rw [promoted] at best
        cases eligible : s.bestEligible s.rankOrder with
        | some y =>
          rw [eligible] at best
          cases best
          refine goesOn (bestEligible_least eligible).1 (improveStep_none.mpr ?_)
          rintro ⟨q, -, able, -⟩
          exact Bool.false_ne_true ((unpromotable q).symm.trans able)
        | none =>
          rw [eligible] at best
          obtain rfl : new = none := best
          refine (selectPrimary_lost _ free rfl).trans ?_
          unfold State.fallbackStep
          have same : ((s.modSelector (fun x => { x with primary := none })).bestPromotable s.rankOrder).or
              ((s.modSelector (fun x => { x with primary := none })).bestEligible s.rankOrder) = none := by
            refine Eq.trans ?_ (congrArg₂ Option.or promoted eligible)
            rfl
          have rank : (s.modSelector (fun x => { x with primary := none })).rankOrder = s.rankOrder := rfl
          dsimp only
          rw [rank, same]
          rfl

theorem eligible_congr (paths : t.paths = s.paths) : t.eligible = s.eligible := by
  funext q
  unfold State.eligible State.entry
  rw [paths]

theorem promotable_congr (paths : t.paths = s.paths) : t.promotable = s.promotable := by
  funext q
  unfold State.promotable State.entry
  rw [paths]

theorem effDelay_congr (paths : t.paths = s.paths) : t.effDelay = s.effDelay := by
  funext q
  unfold State.effDelay State.entry
  rw [paths]

theorem reEvaluate_stable (s : State) : s.reEvaluate.Stable := by
  have paths := s.reEvaluate_paths
  have parameters := (State.reEvaluate_routed s).2.1
  have pin : s.reEvaluate.selector.pin = s.selector.pin := by rw [parameters]
  have hysteresis : s.reEvaluate.selector.hysteresis = s.selector.hysteresis := by rw [parameters]
  cases choice : s.ranked.selectPrimary s.rankOrder with
  | none =>
    have stable : s.ranked.Stable := choice
    exact stable.congr (s.reEvaluate_kept choice).1 pin hysteresis (eligible_congr paths) (promotable_congr paths) (effDelay_congr paths)
  | some c =>
    obtain ⟨new, kind⟩ := c
    have stable := selectPrimary_again (s := s.ranked) choice
    exact stable.congr (s.reEvaluate_changed_selector choice).1 pin hysteresis (eligible_congr paths) (promotable_congr paths)
      (effDelay_congr paths)

/-- A re-evaluation of a stable selection writes nothing and leaves the sweep. -/
theorem Stable.reEvaluate (h : s.Stable) : s.reEvaluate.log = s.log ∧ s.reEvaluate.ports = s.ports
    ∧ s.reEvaluate.sounding = s.sounding ∧ s.reEvaluate.transmitters = s.transmitters := by
  obtain ⟨-, -, log, ports, sounding, transmitters⟩ := s.reEvaluate_kept h
  exact ⟨log, ports, sounding, transmitters⟩

end State
end Sys2Proof.Machine

/-! A change of local state: the entry, the STATE record and the reports, one after another (R39). -/

namespace Sys2Proof.Machine

/-- An entry that enters a local state (R39); entry to RECOVERING starts a recover hold, any other state leaves none (R46). -/
def PathEntry.enter (e : PathEntry) (new : LocalState) (reason : Reason) (mono : Nat) : PathEntry := { e with
  state := new, reason := reason, entered := mono
  holdDeadline := if new = .recovering then some (mono + e.recoverHold * 1000000) else none }

/-- A transmitter after the report of a change of local state (R13, R39). -/
def Transmitter.stopped (new : LocalState) (m : Transmitter) : Transmitter := match new with
  | .disabled => { m with queue := [], echo := none, beacon := .stopped }
  | .failed => { m with queue := [] }
  | _ => m

/-- An entry with the copies of a flush counted (R13). -/
def PathEntry.flushed (e : PathEntry) (n : Nat) : PathEntry :=
  { e with stats := { e.stats with flushDrops := min 4294967295 (e.stats.flushDrops + n) } }

namespace State
variable (s : State)

/-! ## What a re-evaluation leaves of a transmitter -/

/-- Only the probe of a transmitter moves in a re-evaluation. -/
theorem reEvaluate_transmitter (q : Path) : ∃ k, s.reEvaluate.transmitter q = { s.transmitter q with probe := k } := by
  have same : s.reEvaluate.transmitter q = (s.afterLoss (s.losesPrimary s.paths)).transmitter q :=
    congrArg (fun l : Vector Transmitter 5 => l[q.idx]) s.reEvaluate_afterLoss.2
  rw [same]
  cases s.losesPrimary s.paths with
  | false => rw [afterLoss_kept]; exact ⟨_, rfl⟩
  | true =>
    have withdrawn : ∃ k, s.abandonProbe.transmitter q = { s.transmitter q with probe := k } := by
      rw [s.abandonProbe_transmitter]
      split
      · exact ⟨none, rfl⟩
      · exact ⟨_, rfl⟩
    rw [afterLoss_lost]
    unfold State.fallbackReport
    dsimp only
    split
    · exact ⟨_, rfl⟩
    · split
      · exact withdrawn
      · exact ⟨_, rfl⟩
      · exact ⟨_, rfl⟩

/-- Of the sweep a re-evaluation leaves the burst's path and samples. -/
theorem reEvaluate_burst : s.reEvaluate.sounding.current = s.sounding.current ∧ s.reEvaluate.sounding.valid = s.sounding.valid
    ∧ s.reEvaluate.sounding.lost = s.sounding.lost ∧ s.reEvaluate.sounding.minimum = s.sounding.minimum := by
  rcases s.reEvaluate_sounding with same | ⟨d, suspended⟩ | ⟨d, again⟩
  · rw [same]
    exact ⟨rfl, rfl, rfl, rfl⟩
  · rw [suspended]
    exact ⟨rfl, rfl, rfl, rfl⟩
  · rw [again]
    exact ⟨rfl, rfl, rfl, rfl⟩

/-! ## The steps of a change of local state -/

variable (p : Path) (new : LocalState) (reason : Reason)

/-- What the STATE record shows. -/
def stateBody : RecordBody := .state p (s.entry p).state new reason ((s.entry p).marginOf p)

/-- The entry moved, the STATE record written and PATH raised. -/
def stateNoted : State :=
  ((s.modEntry p (fun e => e.enter new reason s.time.mono)).logWrite (s.stateBody p new reason)).raiseAll .path

/-- Then the reports to the Route Selector and the transmitter. -/
def stateReported : State := (s.stateNoted p new reason).reEvaluate.transmitterReport p new

theorem setLocalState_eq : s.setLocalState p new reason = (s.stateReported p new reason).soundingReport p new := rfl

theorem stateNoted_logOnly : (s.modEntry p (fun e => e.enter new reason s.time.mono)).logOnly (s.stateNoted p new reason) :=
  State.logOnly_trans (State.logWrite_logOnly _ _) (State.raiseAll_logOnly _ _)

theorem stateNoted_entry (q : Path) : (s.stateNoted p new reason).entry q
    = if q = p then (s.entry p).enter new reason s.time.mono else s.entry q := by
  refine (State.logOnly_entry (s.stateNoted_logOnly p new reason) q).trans ?_
  rw [State.modEntry_entry]

theorem stateNoted_same : (s.stateNoted p new reason).sounding = s.sounding ∧ (s.stateNoted p new reason).transmitters = s.transmitters
    ∧ (s.stateNoted p new reason).selector = s.selector ∧ (s.stateNoted p new reason).time = s.time
    ∧ (s.stateNoted p new reason).receivers = s.receivers := by
  rw [(s.stateNoted_logOnly p new reason).1]
  exact ⟨rfl, rfl, rfl, rfl, rfl⟩

theorem stateNoted_logged : s.Logged [⟨s.time.tod, s.time.quality, s.stateBody p new reason⟩] (s.stateNoted p new reason) := by
  let v := s.modEntry p (fun e => e.enter new reason s.time.mono)
  have same : v.log = s.log := rfl
  exact ((v.logWrite_logged (s.stateBody p new reason)).after same).raiseAll .path

theorem stateNoted_has (q : Port) : AttnSet.has ((s.stateNoted p new reason).port q).pending .path = true := raiseAll_has _ .path q

/-! ## The report to the transmitter -/

theorem flush_entry (q : Path) : (s.flush p).entry q = if q = p then (s.entry p).flushed (s.transmitter p).queue.length else s.entry q := by
  have counted : (s.flush p).entry q = (s.modEntry p (fun e => e.flushed (s.transmitter p).queue.length)).entry q := rfl
  rw [counted, State.modEntry_entry]

theorem transmitterReport_out {new : LocalState} (out : new = .failed ∨ new = .disabled) :
    s.transmitterReport p new = (s.modEntry p (fun e => e.flushed (s.transmitter p).queue.length)).modTransmitter p (Transmitter.stopped new) := by
  rcases out with rfl | rfl
  · rfl
  · exact State.modTransmitter_modTransmitter (s.modEntry p (fun e => e.flushed (s.transmitter p).queue.length)) p
      (fun t => { t with queue := [] }) (fun t => { t with echo := none, beacon := .stopped })

end State
end Sys2Proof.Machine

/-! A path that leaves service: its flush, and the end of a burst on it (R13, R39, R151, R154). -/

namespace Sys2Proof.Machine

/-- The result of a burst on a path that leaves service (R151). -/
def Sounding.stopResult (x : Sounding) (new : LocalState) : BurstResult := if new = .disabled then .aborted else x.closure

namespace State
variable (s : State)

/-! ## The sweep before the end of the burst -/

/-- A probe is withdrawn in the same way in states with the same sweep and transmitters. -/
theorem abandonProbe_congr {s u : State} (sounding : u.sounding = s.sounding) (transmitters : u.transmitters = s.transmitters) :
    u.abandonProbe.sounding = s.abandonProbe.sounding ∧ u.abandonProbe.transmitters = s.abandonProbe.transmitters := by
  refine ⟨?_, ?_⟩
  · rw [State.abandonProbe_sounding, State.abandonProbe_sounding, sounding]
  · unfold State.abandonProbe State.modTransmitter State.transmitter
    rw [sounding, transmitters]
    dsimp only
    split
    · rfl
    · exact transmitters

theorem afterLoss_congr {s u : State} (sounding : u.sounding = s.sounding) (transmitters : u.transmitters = s.transmitters)
    (time : u.time = s.time) (lost : Bool) :
    (u.afterLoss lost).sounding = (s.afterLoss lost).sounding ∧ (u.afterLoss lost).transmitters = (s.afterLoss lost).transmitters := by
  cases lost with
  | false =>
    rw [afterLoss_kept, afterLoss_kept]
    exact ⟨sounding, transmitters⟩
  | true =>
    rw [afterLoss_lost, afterLoss_lost]
    exact fallbackReport_congr sounding transmitters time

theorem afterLoss_frame (lost : Bool) : s.afterLoss lost
    = { s with sounding := (s.afterLoss lost).sounding, transmitters := (s.afterLoss lost).transmitters } := by
  cases lost with
  | false =>
    rw [afterLoss_kept]
  | true =>
    have frame := s.abandonProbe_frame
    rw [afterLoss_lost]
    unfold State.fallbackReport
    generalize s.abandonProbe = u at frame
    dsimp only
    split
    · rfl
    · split
      · rw [frame]
        rfl
      · rfl
      · rfl

theorem losesPrimary_congr {s u : State} (primary : u.selector.primary = s.selector.primary) (pin : u.selector.pin = s.selector.pin)
    {paths paths' : Vector PathEntry 5}
    (same : State.eligible { u with paths := paths } = State.eligible { s with paths := paths' }) :
    u.losesPrimary paths = s.losesPrimary paths' := by
  unfold State.losesPrimary
  rw [primary, pin, same]

/-! ## The end of a burst said of an earlier state -/

/-- The end of a burst said of a state that shows the same sweep, clock and lock. -/
theorem burstOver_congr {s u t : State} {p : Path} {result : BurstResult} (h : s.burstOver t p result)
    (sounding : u.sounding = s.sounding) (transmitters : u.transmitters = s.transmitters)
    (time : u.time = s.time) (locked : (u.entry p).locked = (s.entry p).locked) (raised : u.portsRaised t) : u.burstOver t p result := by
  rw [burstOver_eq] at h ⊢
  obtain ⟨record, waits, goes⟩ := h
  have remaining : u.sounding.remaining = s.sounding.remaining := congrArg Sounding.remaining sounding
  have now : (u.overNow t).skippedTurns = (s.overNow t).skippedTurns := skippedTurns_congr remaining rfl
  rw [sounding, now]
  refine ⟨?_, ?_, ?_⟩
  · rw [time, sounding, locked]
    exact record
  · rw [sounding, transmitters]
    exact waits
  · rw [sounding]
    intro on
    have over' : { u.sounding with current := none } = { s.sounding with current := none } := by rw [sounding]
    exact turnTaken_rebase (goes on) over' transmitters rfl rfl (fun _ => rfl) raised

end State
end Sys2Proof.Machine

/-! A path that leaves service, in the words of the statements (R13, R39, R151, R154). -/

namespace Sys2Proof.Machine
namespace State
variable (s : State) (p : Path) {new : LocalState} (reason : Reason)

/-- The entry of a path that leaves service: entered, its flush counted, and the report of a burst on it. -/
def takenEntry (new : LocalState) : PathEntry :=
  let e := ((s.entry p).enter new reason s.time.mono).flushed (s.transmitter p).queue.length
  if s.sounding.current = some p then e.afterBurst p (s.sounding.stopResult new) (s.sounding.minimum.getD 0) else e

/-! ## Before the report to the sweep -/

theorem stateReported_routed : s.routed (s.stateReported p new reason) := by
  refine State.routed_trans ?_ (State.transmitterReport_routed _ p new)
  refine State.routed_trans ?_ (State.reEvaluate_routed _)
  exact State.routed_trans (State.modEntry_routed s p _) (State.logOnly_routed (s.stateNoted_logOnly p new reason))

section Reported
variable (out : new = .failed ∨ new = .disabled)
include out

theorem stateReported_eq : s.stateReported p new reason
    = ((s.stateNoted p new reason).reEvaluate.modEntry p (fun e => e.flushed (s.transmitter p).queue.length)).modTransmitter p
        (Transmitter.stopped new) := by
  obtain ⟨-, transmitters, -⟩ := s.stateNoted_same p new reason
  have before : (s.stateNoted p new reason).transmitter p = s.transmitter p := congrArg (fun l : Vector Transmitter 5 => l[p.idx]) transmitters
  obtain ⟨k, only⟩ := (s.stateNoted p new reason).reEvaluate_transmitter p
  unfold stateReported
  rw [transmitterReport_out _ p out, only, before]

theorem stateReported_entry (q : Path) : (s.stateReported p new reason).entry q
    = if q = p then ((s.entry p).enter new reason s.time.mono).flushed (s.transmitter p).queue.length else s.entry q := by
  have paths := (s.stateNoted p new reason).reEvaluate_paths
  have entry (q : Path) : (s.stateNoted p new reason).reEvaluate.entry q = (s.stateNoted p new reason).entry q :=
    congrArg (fun l : Vector PathEntry 5 => l[q.idx]) paths
  rw [stateReported_eq s p reason out, State.modTransmitter_entry, State.modEntry_entry, entry, entry, stateNoted_entry, stateNoted_entry,
    if_pos rfl]
  by_cases here : q = p
  · rw [if_pos here, if_pos here]
  · rw [if_neg here, if_neg here, if_neg here]

theorem stateReported_sweep (lost : Bool) (loses : (s.stateNoted p new reason).losesPrimary (s.stateNoted p new reason).paths = lost) :
    (s.stateReported p new reason).sounding = (s.afterLoss lost).sounding
      ∧ (s.stateReported p new reason).transmitters = ((s.afterLoss lost).modTransmitter p (Transmitter.stopped new)).transmitters := by
  obtain ⟨sounding, transmitters, -, time, -⟩ := s.stateNoted_same p new reason
  obtain ⟨left, sent⟩ := (s.stateNoted p new reason).reEvaluate_afterLoss
  obtain ⟨left', sent'⟩ := afterLoss_congr sounding transmitters time lost
  rw [loses] at left sent
  have moved {u v : State} (same : u.transmitters = v.transmitters) :
      (u.modTransmitter p (Transmitter.stopped new)).transmitters = (v.modTransmitter p (Transmitter.stopped new)).transmitters := by
    unfold State.modTransmitter State.transmitter
    rw [same]
  rw [stateReported_eq s p reason out]
  exact ⟨left.trans left', moved (sent.trans sent')⟩

theorem stateReported_able : (s.stateReported p new reason).PrimaryAble := by
  have paths := (s.stateNoted p new reason).reEvaluate_paths
  have selected := primaryAble_of_selected ((s.stateNoted p new reason).reEvaluate_selected)
  rw [stateReported_eq s p reason out]
  refine selected.congr rfl fun q => ?_
  unfold State.eligible
  rw [State.modTransmitter_entry, State.modEntry_entry]
  split
  · subst q
    rfl
  · rfl

theorem stateReported_logged : ∃ l, l.length ≤ 1
    ∧ s.Logged (⟨s.time.tod, s.time.quality, s.stateBody p new reason⟩ :: l) (s.stateReported p new reason) := by
  obtain ⟨l, short, logged⟩ := (s.stateNoted p new reason).reEvaluate_logged
  rw [stateReported_eq s p reason out]
  exact ⟨l, short, ((s.stateNoted_logged p new reason).trans logged).before rfl⟩

end Reported

end State
end Sys2Proof.Machine

/-! The end of a burst on a path that leaves service (R151), and the whole of a change of state that takes it out. -/

namespace Sys2Proof.Machine
namespace State
variable (s : State) (p : Path) {new : LocalState} (reason : Reason) (out : new = .failed ∨ new = .disabled)

/-! ## Of one state -/

/-- The report to the sweep of a path that leaves service. -/
theorem soundingReport_out {new : LocalState} (out : new = .failed ∨ new = .disabled) : s.soundingReport p new
    = if s.sounding.current = some p then s.abandonProbe.endBurst p (s.sounding.stopResult new) else s := by
  rcases out with rfl | rfl
  · rfl
  · rfl

theorem abandonProbe_able {s : State} (able : s.PrimaryAble) : s.abandonProbe.PrimaryAble :=
  able.congr (by rw [s.abandonProbe_frame]) fun q => by
    rw [s.abandonProbe_frame]
    rfl

/-- The issue of a probe leaves the burst's path. -/
theorem probeIssued_current {s t : State} {p : Path} (issued : s.probeIssued t p) : t.sounding.current = s.sounding.current := by
  obtain ⟨waits, starts, echoFirst, -, -⟩ := issued
  by_cases blocked : (s.transmitter p).inProgress ≠ none ∨ (s.entry p).state = .disabled
  · rw [(waits blocked).1]
  · obtain ⟨idle, inService⟩ := not_or.mp blocked
    cases echo : (s.transmitter p).echo with
    | none => rw [(starts (not_not.mp idle) inService echo).1]
    | some e => rw [(echoFirst e (not_not.mp idle) inService echo).1]

/-- A burst that ends without a probe pending leaves the transmitter of a path that is out of service. -/
theorem endBurst_transmitter {s : State} (able : s.PrimaryAble) (p : Path) (result : BurstResult) (out : s.outOfService p = true) :
    (s.endBurst p result).transmitter p = s.transmitter p ∧ (s.endBurst p result).sounding.current ≠ some p := by
  obtain ⟨-, transmitters⟩ := burstNoted_sounding p result able
  have before : (s.burstNoted p result).transmitter p = s.transmitter p := congrArg (fun l : Vector Transmitter 5 => l[p.idx]) transmitters
  have out' := congrFun (s.burstNoted_out p result) p
  rw [endBurst_noted, ← before]
  rcases (s.burstNoted p result).afterSound_cases with ⟨-, taken, -⟩ | ⟨-, -, same⟩
  · obtain ⟨-, -, begun, ended, -, -⟩ := taken
    cases turn : (s.burstNoted p result).turnPath with
    | none =>
      obtain ⟨sounding, transmitters, -⟩ := ended turn
      rw [sounding]
      exact ⟨congrArg (fun l : Vector Transmitter 5 => l[p.idx]) transmitters, fun named => by cases named⟩
    | some q =>
      have other : p ≠ q := by
        rintro rfl
        obtain ⟨-, -, inService⟩ := (s.burstNoted p result).turnPath_split turn
        rw [out', out] at inService
        cases inService
      obtain ⟨-, issued⟩ := begun q turn
      refine ⟨issued.2.2.2.1 p other, ?_⟩
      rw [probeIssued_current issued]
      exact fun named => other (Option.some_inj.mp named).symm
  · rw [same, (s.burstNoted_remaining p result).2.1]
    exact ⟨rfl, fun named => by cases named⟩

end State
end Sys2Proof.Machine

/-! A change of local state that takes a path out of service, as a whole (R39, R13, R151, R154). -/

namespace Sys2Proof.Machine
namespace State
variable (s : State) (p : Path) {new : LocalState} (reason : Reason)

/-- The burst that the sweep is at is the same before the report to the sweep. -/
theorem stateReported_burst (out : new = .failed ∨ new = .disabled) :
    (s.stateReported p new reason).sounding.current = s.sounding.current
      ∧ (s.stateReported p new reason).sounding.valid = s.sounding.valid
      ∧ (s.stateReported p new reason).sounding.lost = s.sounding.lost
      ∧ (s.stateReported p new reason).sounding.minimum = s.sounding.minimum := by
  have same := (s.stateNoted_same p new reason).1
  have burst := (s.stateNoted p new reason).reEvaluate_burst
  rw [same] at burst
  rw [stateReported_eq s p reason out]
  exact burst

/-- The state in which the burst on the path that leaves service ends. -/
def burstLeft (new : LocalState) : State := (s.stateReported p new reason).abandonProbe

section Out
variable (out : new = .failed ∨ new = .disabled)
include out

theorem setLocalState_cases : (s.sounding.current = some p
      ∧ s.setLocalState p new reason = (s.burstLeft p reason new).endBurst p (s.sounding.stopResult new))
    ∨ (s.sounding.current ≠ some p ∧ s.setLocalState p new reason = s.stateReported p new reason) := by
  obtain ⟨current, valid, -⟩ := s.stateReported_burst p reason out
  have result : (s.stateReported p new reason).sounding.stopResult new = s.sounding.stopResult new := by
    unfold Sounding.stopResult Sounding.closure
    rw [valid]
  rw [setLocalState_eq, soundingReport_out _ p out, current, result]
  by_cases here : s.sounding.current = some p
  · exact .inl ⟨here, if_pos here⟩
  · exact .inr ⟨here, if_neg here⟩

theorem burstLeft_entry (q : Path) : (s.burstLeft p reason new).entry q
    = if q = p then ((s.entry p).enter new reason s.time.mono).flushed (s.transmitter p).queue.length else s.entry q := by
  rw [← stateReported_entry s p reason out]
  unfold burstLeft
  rw [abandonProbe_frame]
  rfl

omit out in
theorem burstLeft_sounding : (s.burstLeft p reason new).sounding = (s.stateReported p new reason).sounding.abandoned :=
  State.abandonProbe_sounding _

theorem burstLeft_able : (s.burstLeft p reason new).PrimaryAble := abandonProbe_able (s.stateReported_able p reason out)

theorem burstLeft_out : (s.burstLeft p reason new).outOfService p = true := by
  unfold State.outOfService
  rw [burstLeft_entry s p reason out, if_pos rfl]
  rcases out with rfl | rfl <;> rfl

theorem setLocalState_entry (q : Path) : (s.setLocalState p new reason).entry q
    = if q = p then s.takenEntry p reason new else s.entry q := by
  obtain ⟨-, -, -, minimum⟩ := s.stateReported_burst p reason out
  unfold takenEntry
  rcases s.setLocalState_cases p reason out with ⟨here, is⟩ | ⟨elsewhere, is⟩
  · have samples : (s.burstLeft p reason new).sounding.minimum = s.sounding.minimum := by
      rw [burstLeft_sounding]
      exact minimum
    rw [is, endBurst_entry, samples, burstLeft_entry s p reason out, burstLeft_entry s p reason out, if_pos rfl]
    dsimp only
    rw [if_pos here]
    by_cases same : q = p
    · rw [if_pos same, if_pos same]
    · rw [if_neg same, if_neg same, if_neg same]
  · rw [is, stateReported_entry s p reason out]
    dsimp only
    rw [if_neg elsewhere]

/-- The transmitter of a path that leaves service is stopped; its probe may be withdrawn. -/
theorem setLocalState_transmitter : (∃ k, (s.setLocalState p new reason).transmitter p
      = { (s.transmitter p).stopped new with probe := k }) ∧ (s.setLocalState p new reason).sounding.current ≠ some p := by
  obtain ⟨current, -⟩ := s.stateReported_burst p reason out
  obtain ⟨k, before⟩ := (s.stateNoted p new reason).reEvaluate_transmitter p
  obtain ⟨-, transmitters, -⟩ := s.stateNoted_same p new reason
  have old : (s.stateNoted p new reason).transmitter p = s.transmitter p := congrArg (fun l : Vector Transmitter 5 => l[p.idx]) transmitters
  have stopped : (s.stateReported p new reason).transmitter p = { (s.transmitter p).stopped new with probe := k } := by
    rw [stateReported_eq s p reason out, State.modTransmitter_transmitter_self, State.modEntry_transmitter, before, old]
    rcases out with rfl | rfl <;> rfl
  rcases s.setLocalState_cases p reason out with ⟨here, is⟩ | ⟨elsewhere, is⟩
  · obtain ⟨same, left⟩ := endBurst_transmitter (s.burstLeft_able p reason out) p (s.sounding.stopResult new) (s.burstLeft_out p reason out)
    rw [is, same]
    refine ⟨?_, left⟩
    unfold burstLeft
    rw [abandonProbe_transmitter, stopped]
    split
    · exact ⟨none, rfl⟩
    · exact ⟨k, rfl⟩
  · rw [is]
    exact ⟨⟨k, stopped⟩, current ▸ elsewhere⟩

omit out in
theorem setLocalState_has (q : Port) : AttnSet.has ((s.setLocalState p new reason).port q).pending .path = true := by
  have raised : (s.stateNoted p new reason).portsRaised (s.setLocalState p new reason) := by
    rw [setLocalState_eq]
    refine State.portsRaised_trans ?_ (State.soundingReport_routed _ p new).2.2
    exact State.portsRaised_trans (State.reEvaluate_routed _).2.2 (State.transmitterReport_routed _ p new).2.2
  exact portsRaised.has raised (s.stateNoted_has p new reason q)

/-- The SOUND record of the burst that ends. -/
def takenSound (new : LocalState) : RecordBody :=
  .sound p (s.sounding.stopResult new) s.sounding.valid s.sounding.lost s.sounding.minimum (s.takenEntry p reason new).delay
    (decide (s.sounding.stopResult new = .ok) && (s.entry p).locked)

/-- The STATE record is written first; the SOUND record of a burst on the path follows. -/
theorem setLocalState_logged : ∃ l, l.length ≤ 8
    ∧ s.Logged (⟨s.time.tod, s.time.quality, s.stateBody p new reason⟩ :: l) (s.setLocalState p new reason)
    ∧ (s.sounding.current = some p → s.takenSound p reason new ∈ l.map Noted.body) := by
  obtain ⟨l, short, logged⟩ := s.stateReported_logged p reason out
  rcases s.setLocalState_cases p reason out with ⟨here, is⟩ | ⟨elsewhere, is⟩
  · obtain ⟨l₁, l₂, few, ended⟩ := (s.burstLeft p reason new).endBurst_logged p (s.sounding.stopResult new)
    have left : s.Logged (⟨s.time.tod, s.time.quality, s.stateBody p new reason⟩ :: l) (s.burstLeft p reason new) :=
      logged.before (by unfold burstLeft; rw [abandonProbe_frame])
    refine ⟨_, ?_, is ▸ left.trans ended, fun _ => ?_⟩
    · simp only [List.append_eq, List.length_append, List.length_cons, List.length_nil]
      omega
    · have body : (s.burstLeft p reason new).endedBody p (s.sounding.stopResult new) = s.takenSound p reason new := by
        obtain ⟨-, valid, lost, minimum⟩ := s.stateReported_burst p reason out
        have sounding := s.burstLeft_sounding p (new := new) reason
        have entry := s.burstLeft_entry p reason out p
        rw [if_pos rfl] at entry
        unfold endedBody takenSound takenEntry
        rw [sounding, entry]
        dsimp only [Sounding.abandoned]
        rw [if_pos here, valid, lost, minimum]
        rfl
      simp [body]
  · exact ⟨l, Nat.le_trans short (by decide), is ▸ logged, fun here => absurd here elsewhere⟩

end Out

end State
end Sys2Proof.Machine

/-! What leaving service does to the sweep, in the words of the statements (R39, R151, R154). -/

namespace Sys2Proof.Machine
theorem PathEntry.afterBurst_able (e : PathEntry) (p q : Path) (result : BurstResult) (least : Nat) :
    (e.afterBurst p result least).eligible q = e.eligible q := by
  unfold PathEntry.afterBurst
  dsimp only
  split <;> rfl

namespace State

/-- What taking a path out of service leaves of the sweep: a fallback first, then the end of a burst on the path. -/
theorem sweepLeft_of {s y t : State} {p : Path} {result : BurstResult} {stop : Transmitter → Transmitter} {lost : Bool}
    (loses : s.losesPrimary t.paths = lost) (sounding : y.sounding = (s.afterLoss lost).sounding)
    (transmitters : y.transmitters = ((s.afterLoss lost).modTransmitter p stop).transmitters) (time : y.time = s.time)
    (locked : (y.entry p).locked = (s.entry p).locked) (raised : s.portsRaised t) (able : y.PrimaryAble)
    (burst : s.sounding.current = some p → t = y.abandonProbe.endBurst p result)
    (elsewhere : s.sounding.current ≠ some p → t.sounding = y.sounding ∧ t.transmitters = y.transmitters) :
    s.sweepLeft t p result stop := by
  unfold State.sweepLeft
  dsimp only
  rw [loses]
  refine ⟨fun here => ?_, fun other => ?_⟩
  · have over' := endBurst_over p result (abandonProbe_able able)
    rw [← burst here] at over'
    have frame := s.afterLoss_frame lost
    rw [probeDropped_eq]
    have dropped := State.abandonProbe_frame ((s.afterLoss lost).modTransmitter p stop)
    have left := y.abandonProbe_frame
    obtain ⟨sounding', transmitters'⟩ := abandonProbe_congr (s := y) (u := (s.afterLoss lost).modTransmitter p stop) sounding.symm
      transmitters.symm
    have time' : ((s.afterLoss lost).modTransmitter p stop).abandonProbe.time = y.abandonProbe.time := by
      rw [dropped, left, State.modTransmitter_time, time, frame]
    refine burstOver_congr over' sounding' transmitters' time' ?_ ?_
    · have entry : ((s.afterLoss lost).modTransmitter p stop).abandonProbe.entry p = s.entry p := by
        rw [dropped, frame]
        rfl
      have entry' : y.abandonProbe.entry p = y.entry p := by
        rw [left]
        rfl
      rw [entry, entry', locked]
    · refine State.portsRaised_trans (State.portsRaised_of_ports ?_) raised
      rw [dropped, State.modTransmitter_ports, frame]
  · obtain ⟨same, same'⟩ := elsewhere other
    exact ⟨same.trans sounding, same'.trans transmitters⟩

/-- The same said of an earlier state that shows the same sweep, clock, selector and lock. -/
theorem sweepLeft_congr {s u t : State} {p : Path} {result : BurstResult} {stop : Transmitter → Transmitter}
    (h : s.sweepLeft t p result stop) (sounding : u.sounding = s.sounding) (transmitters : u.transmitters = s.transmitters)
    (time : u.time = s.time) (selector : u.selector = s.selector) (locked : (u.entry p).locked = (s.entry p).locked)
    (raised : u.portsRaised t) : u.sweepLeft t p result stop := by
  have loses : u.losesPrimary t.paths = s.losesPrimary t.paths := losesPrimary_congr (by rw [selector]) (by rw [selector]) rfl
  obtain ⟨left, sent⟩ := afterLoss_congr sounding transmitters time (s.losesPrimary t.paths)
  have moved : ((u.afterLoss (s.losesPrimary t.paths)).modTransmitter p stop).transmitters
      = ((s.afterLoss (s.losesPrimary t.paths)).modTransmitter p stop).transmitters := by
    unfold State.modTransmitter State.transmitter
    rw [sent]
  obtain ⟨burst, elsewhere⟩ := h
  unfold State.sweepLeft
  dsimp only
  rw [loses, sounding, moved]
  have left' : ((u.afterLoss (s.losesPrimary t.paths)).modTransmitter p stop).sounding
      = ((s.afterLoss (s.losesPrimary t.paths)).modTransmitter p stop).sounding := left
  refine ⟨fun here => ?_, fun other => ?_⟩
  · have over' := burst here
    rw [probeDropped_eq] at over' ⊢
    obtain ⟨sounding', transmitters'⟩ := abandonProbe_congr left' moved
    have frame := State.abandonProbe_frame ((u.afterLoss (s.losesPrimary t.paths)).modTransmitter p stop)
    have frame' := State.abandonProbe_frame ((s.afterLoss (s.losesPrimary t.paths)).modTransmitter p stop)
    have kept := u.afterLoss_frame (s.losesPrimary t.paths)
    have kept' := s.afterLoss_frame (s.losesPrimary t.paths)
    refine burstOver_congr over' sounding' transmitters' ?_ ?_ ?_
    · rw [frame, frame', State.modTransmitter_time, State.modTransmitter_time, kept, kept', time]
    · have entry : ((u.afterLoss (s.losesPrimary t.paths)).modTransmitter p stop).abandonProbe.entry p = u.entry p := by
        rw [frame, kept]
        rfl
      have entry' : ((s.afterLoss (s.losesPrimary t.paths)).modTransmitter p stop).abandonProbe.entry p = s.entry p := by
        rw [frame', kept']
        rfl
      rw [entry, entry', locked]
    · refine State.portsRaised_trans (State.portsRaised_of_ports ?_) raised
      rw [frame, State.modTransmitter_ports, kept]
  · rw [left']
    exact elsewhere other

/-! ## A change of local state -/

variable (s : State) (p : Path) {new : LocalState} (reason : Reason) (out : new = .failed ∨ new = .disabled)

include out

/-- Which paths are eligible is settled before the flush and the end of a burst. -/
theorem setLocalState_eligible : State.eligible { s with paths := (s.setLocalState p new reason).paths }
    = State.eligible { s with paths := (s.stateNoted p new reason).paths } := by
  funext q
  have left : State.eligible { s with paths := (s.setLocalState p new reason).paths } q = ((s.setLocalState p new reason).entry q).eligible q := rfl
  have noted : State.eligible { s with paths := (s.stateNoted p new reason).paths } q = ((s.stateNoted p new reason).entry q).eligible q := rfl
  rw [left, noted, setLocalState_entry s p reason out, stateNoted_entry]
  split
  · unfold takenEntry
    dsimp only
    split
    · rw [PathEntry.afterBurst_able]
      rfl
    · rfl
  · rfl

theorem setLocalState_sweepLeft : s.sweepLeft (s.setLocalState p new reason) p (s.sounding.stopResult new) (Transmitter.stopped new) := by
  obtain ⟨sounding, -, selector, -⟩ := s.stateNoted_same p new reason
  have loses : s.losesPrimary (s.setLocalState p new reason).paths
      = (s.stateNoted p new reason).losesPrimary (s.stateNoted p new reason).paths := by
    refine losesPrimary_congr (by rw [selector]) (by rw [selector]) ?_
    rw [setLocalState_eligible s p reason out]
    rfl
  obtain ⟨left, sent⟩ := s.stateReported_sweep p reason out _ rfl
  have time := (s.stateReported_routed p (new := new) reason).1
  have entry := s.stateReported_entry p reason out p
  rw [if_pos rfl] at entry
  refine sweepLeft_of loses left sent (by rw [time]) (by rw [entry]; rfl) (State.setLocalState_routed s p new reason).2.2
    (s.stateReported_able p reason out) (fun here => ?_) (fun other => ?_)
  · rcases s.setLocalState_cases p reason out with ⟨-, is⟩ | ⟨elsewhere, -⟩
    · exact is
    · exact absurd here elsewhere
  · rcases s.setLocalState_cases p reason out with ⟨here, -⟩ | ⟨-, is⟩
    · exact absurd here other
    · rw [is]
      exact ⟨rfl, rfl⟩

end State
end Sys2Proof.Machine

/-! The evaluation of a path in contact, said of its entry alone (R42 to R44, R46). -/

namespace Sys2Proof.Machine

/-- The margin in force is reported and below a threshold (R42, R43). -/
def PathEntry.below (e : PathEntry) (p : Path) (t : Int) : Bool := marginBelow (e.marginOf p) t

/-- The moment of the recover hold's end has come (R46). -/
def PathEntry.holdOver (e : PathEntry) (mono : Nat) : Bool := e.holdDeadline.any (fun d => decide (d ≤ mono))

/-- Where a recovered path goes (R42). -/
def PathEntry.recovered (e : PathEntry) (p : Path) : LocalState × Reason :=
  if e.below p e.bank.wn then (.fading, .margin) else (.active, e.reason)

/-- The transition of a path in contact (R42 to R44). -/
def PathEntry.moves (e : PathEntry) (p : Path) (mono : Nat) : Option (LocalState × Reason) := match e.state with
  | .disabled => none
  | .failed => if e.below p e.bank.rc then none else some (.recovering, e.reason)
  | .recovering =>
    if e.below p e.bank.rc then some (.failed, .margin) else if e.holdOver mono then some (.active, e.reason) else none
  | .active => if e.below p e.bank.fl then some (.failed, .margin) else if e.below p e.bank.wn then some (.fading, .margin) else none
  | .fading => if e.below p e.bank.fl then some (.failed, .margin) else if e.below p e.bank.k then none else some (.active, .margin)

theorem State.reached_holdOver (s : State) (e : PathEntry) : s.reached e.holdDeadline = e.holdOver s.time.mono := by
  unfold State.reached PathEntry.holdOver
  cases e.holdDeadline <;> rfl

theorem State.transition_contact {s : State} {p : Path} (contact : s.inContact p) :
    s.transition p = (s.entry p).moves p s.time.mono := by
  obtain ⟨heard, fit⟩ := contact
  have rc : marginAtLeast ((s.entry p).marginOf p) (s.entry p).bank.rc = !(s.entry p).below p (s.entry p).bank.rc := rfl
  have k : marginAtLeast ((s.entry p).marginOf p) (s.entry p).bank.k = !(s.entry p).below p (s.entry p).bank.k := rfl
  have low (t : Int) : marginBelow ((s.entry p).marginOf p) t = (s.entry p).below p t := rfl
  unfold State.transition PathEntry.moves
  dsimp only
  rw [heard, fit, rc, k, s.reached_holdOver]
  simp only [low]
  cases (s.entry p).state with
  | disabled => rfl
  | failed => cases (s.entry p).below p (s.entry p).bank.rc <;> rfl
  | recovering => rfl
  | active => rfl
  | fading =>
    cases (s.entry p).below p (s.entry p).bank.fl with
    | true => rfl
    | false => cases (s.entry p).below p (s.entry p).bank.k <;> rfl

/-! ## Where an evaluation ends -/

section Ends
variable {e : PathEntry} {p : Path} {mono : Nat}

theorem PathEntry.evaluatesTo_failed (state : e.state = .failed) : e.evaluatesTo p mono
    = if e.below p e.bank.rc then (.failed, e.reason) else if e.recoverHold = 0 then e.recovered p else (.recovering, e.reason) := by
  have margin : (if p = .f then none else e.margin) = e.marginOf p := rfl
  unfold PathEntry.evaluatesTo PathEntry.recovered PathEntry.below
  simp only [state, margin]
  cases e.marginOf p <;> rfl

theorem PathEntry.evaluatesTo_recovering (state : e.state = .recovering) : e.evaluatesTo p mono
    = if e.below p e.bank.rc then (.failed, .margin) else if e.holdOver mono then e.recovered p else (.recovering, e.reason) := by
  have margin : (if p = .f then none else e.margin) = e.marginOf p := rfl
  unfold PathEntry.evaluatesTo PathEntry.recovered PathEntry.below PathEntry.holdOver
  simp only [state, margin]
  cases e.holdDeadline with
  | none => cases e.marginOf p <;> rfl
  | some d =>
    have over' : ((some d).any fun d => decide (d ≤ mono)) = decide (d ≤ mono) := rfl
    rw [over']
    simp only [decide_eq_true_eq]
    cases e.marginOf p <;> rfl

theorem PathEntry.evaluatesTo_active (state : e.state = .active) : e.evaluatesTo p mono
    = if e.below p e.bank.fl then (.failed, .margin) else e.recovered p := by
  have margin : (if p = .f then none else e.margin) = e.marginOf p := rfl
  unfold PathEntry.evaluatesTo PathEntry.recovered PathEntry.below
  simp only [state, margin]
  cases e.marginOf p <;> rfl

theorem PathEntry.evaluatesTo_fading (state : e.state = .fading) : e.evaluatesTo p mono
    = if e.below p e.bank.fl then (.failed, .margin) else if e.below p e.bank.k then (.fading, e.reason) else (.active, .margin) := by
  have margin : (if p = .f then none else e.margin) = e.marginOf p := rfl
  unfold PathEntry.evaluatesTo PathEntry.below
  simp only [state, margin]
  cases e.marginOf p <;> rfl

theorem PathEntry.evaluatesTo_disabled (state : e.state = .disabled) : e.evaluatesTo p mono = (.disabled, e.reason) := by
  unfold PathEntry.evaluatesTo
  simp only [state]

/-- A margin below a threshold is below a higher one. -/
theorem PathEntry.below_mono {a b : Int} (le : a ≤ b) (low : e.below p a = true) : e.below p b = true := by
  unfold PathEntry.below at *
  cases margin : e.marginOf p with
  | none =>
    rw [margin] at low
    cases low
  | some m =>
    rw [margin] at low
    have less : m < a := of_decide_eq_true low
    exact decide_eq_true (Int.lt_of_lt_of_le less le)

theorem PathEntry.below_f (e : PathEntry) (t : Int) : e.below .f t = false := rfl

/-- In order: a path below Fl is below Wn, one below Wn is below K, and one below Fl is below Rc (R49). -/
theorem PathEntry.inOrder.below (h : e.inOrder p) : (e.below p e.bank.wn = false → e.below p e.bank.fl = false)
    ∧ (e.below p e.bank.k = false → e.below p e.bank.wn = false) ∧ (e.below p e.bank.rc = false → e.below p e.bank.fl = false) := by
  by_cases fibre : p = .f
  · subst fibre
    exact ⟨fun _ => rfl, fun _ => rfl, fun _ => rfl⟩
  · have ordered : e.bank.fl < e.bank.wn ∧ e.bank.wn ≤ e.bank.k ∧ e.bank.fl < e.bank.rc := h fibre
    obtain ⟨first, second, third⟩ := ordered
    have lift {a b : Int} (le : a ≤ b) (high : e.below p b = false) : e.below p a = false := by
      by_contra low
      rw [PathEntry.below_mono le (Bool.eq_true_of_not_eq_false low)] at high
      cases high
    exact ⟨lift (Int.le_of_lt first), lift second, lift (Int.le_of_lt third)⟩

end Ends

end Sys2Proof.Machine

/-! An evaluation of an entry in contact settles it as the rules say (R42 to R44, R46). -/

namespace Sys2Proof.Machine

/-- An entry after one transition, or as it was. -/
def PathEntry.moved (e : PathEntry) (p : Path) (mono : Nat) : PathEntry := match e.moves p mono with
  | some (new, reason) => e.enter new reason mono
  | none => e

section Moved
variable {e : PathEntry} {p : Path} {mono : Nat} {new : LocalState} {reason : Reason}

theorem PathEntry.moved_some (moves : e.moves p mono = some (new, reason)) : e.moved p mono = e.enter new reason mono := by
  simp only [PathEntry.moved, moves]

theorem PathEntry.moved_none (stays : e.moves p mono = none) : e.moved p mono = e := by
  simp only [PathEntry.moved, stays]

/-- An evaluation makes three transitions at most (R44). -/
def PathEntry.evaluated (e : PathEntry) (p : Path) (mono : Nat) : PathEntry := ((e.moved p mono).moved p mono).moved p mono

theorem PathEntry.settles_enter (differs : new ≠ e.state) (ends : (new, reason) = e.evaluatesTo p mono) :
    e.settles (e.enter new reason mono) p mono :=
  ⟨ends, fun same => absurd same differs, fun _ => ⟨rfl, rfl⟩⟩

theorem PathEntry.settles_same (ends : (e.state, e.reason) = e.evaluatesTo p mono) : e.settles e p mono :=
  ⟨ends, fun _ => ⟨rfl, rfl⟩, fun differs => absurd rfl differs⟩

/-- An entry that stays is settled where it is. -/
theorem PathEntry.evaluated_stays (stays : e.moves p mono = none) : e.evaluated p mono = e := by
  rw [PathEntry.evaluated, PathEntry.moved_none stays, PathEntry.moved_none stays, PathEntry.moved_none stays]

theorem PathEntry.evaluated_once (moves : e.moves p mono = some (new, reason))
    (stays : (e.enter new reason mono).moves p mono = none) : e.evaluated p mono = e.enter new reason mono := by
  rw [PathEntry.evaluated, PathEntry.moved_some moves, PathEntry.moved_none stays, PathEntry.moved_none stays]

/-! ## The transitions of an entry that has just entered a state -/

theorem PathEntry.enter_failed_stays (low : e.below p e.bank.rc = true) : (e.enter .failed reason mono).moves p mono = none := if_pos low

theorem PathEntry.enter_fading_stays (order : e.inOrder p) (fit : e.below p e.bank.fl = false) (low : e.below p e.bank.wn = true) :
    (e.enter .fading reason mono).moves p mono = none := by
  have below : e.below p e.bank.k = true := by
    by_contra high
    rw [order.below.2.1 (Bool.eq_false_iff.mpr high)] at low
    cases low
  have first : (e.enter .fading reason mono).moves p mono = if e.below p e.bank.fl then some (.failed, .margin)
    else if e.below p e.bank.k then none else some (.active, .margin) := rfl
  rw [first, fit, below]
  rfl

theorem PathEntry.enter_active_moves (fit : e.below p e.bank.fl = false) : (e.enter .active reason mono).moves p mono
    = if e.below p e.bank.wn then some (.fading, .margin) else none := by
  have first : (e.enter .active reason mono).moves p mono = if e.below p e.bank.fl then some (.failed, .margin)
    else if e.below p e.bank.wn then some (.fading, .margin) else none := rfl
  rw [first, fit]
  rfl

theorem PathEntry.holdOver_of {d : Nat} (held : e.holdDeadline = some d) : e.holdOver mono = decide (d ≤ mono) := by
  unfold PathEntry.holdOver
  rw [held]
  rfl

theorem PathEntry.enter_recovering_moves (fit : e.below p e.bank.rc = false) : (e.enter .recovering reason mono).moves p mono
    = if e.recoverHold = 0 then some (.active, reason) else none := by
  have held : (e.enter .recovering reason mono).holdDeadline = some (mono + e.recoverHold * 1000000) := rfl
  have first : (e.enter .recovering reason mono).moves p mono = if e.below p e.bank.rc then some (.failed, .margin)
    else if (e.enter .recovering reason mono).holdOver mono then some (.active, reason) else none := rfl
  rw [first, fit, if_neg Bool.false_ne_true, PathEntry.holdOver_of held]
  refine if_congr ?_ rfl rfl
  rw [decide_eq_true_eq]
  omega

/-- A recovered path is ACTIVE, or FADING below Wn (R42). -/
theorem PathEntry.enter_active_moved (order : e.inOrder p) (fit : e.below p e.bank.fl = false) :
    ((e.enter .active e.reason mono).moved p mono) = e.enter (e.recovered p).1 (e.recovered p).2 mono
      ∧ (e.enter (e.recovered p).1 (e.recovered p).2 mono).moves p mono = none := by
  have moves := PathEntry.enter_active_moves (reason := e.reason) (mono := mono) fit
  unfold PathEntry.recovered
  cases low : e.below p e.bank.wn with
  | true =>
    rw [low] at moves
    exact ⟨PathEntry.moved_some moves, PathEntry.enter_fading_stays order fit low⟩
  | false =>
    rw [low] at moves
    exact ⟨PathEntry.moved_none moves, moves⟩

theorem PathEntry.recovered_state (e : PathEntry) (p : Path) : (e.recovered p).1 = .fading ∨ (e.recovered p).1 = .active := by
  unfold PathEntry.recovered
  cases e.below p e.bank.wn
  · exact .inr rfl
  · exact .inl rfl

/-! ## Where it ends -/

/-- An entry in contact with its thresholds in order settles (R42 to R44, R46). -/
theorem PathEntry.evaluated_settles (order : e.inOrder p) : e.settles (e.evaluated p mono) p mono := by
  obtain ⟨wnFl, kWn, rcFl⟩ := order.below
  cases state : e.state with
  | disabled =>
    have stays : e.moves p mono = none := by simp only [PathEntry.moves, state]
    rw [PathEntry.evaluated_stays stays]
    refine PathEntry.settles_same ?_
    rw [PathEntry.evaluatesTo_disabled state, state]
  | failed =>
    have ends := PathEntry.evaluatesTo_failed (p := p) (mono := mono) state
    cases low : e.below p e.bank.rc with
    | true =>
      have stays : e.moves p mono = none := by simp only [PathEntry.moves, state, low, if_true]
      rw [PathEntry.evaluated_stays stays]
      refine PathEntry.settles_same ?_
      rw [ends, low, state]
      rfl
    | false =>
      have moves : e.moves p mono = some (.recovering, e.reason) := by simp [PathEntry.moves, state, low]
      have next := PathEntry.enter_recovering_moves (reason := e.reason) (mono := mono) low
      rw [low, if_neg Bool.false_ne_true] at ends
      by_cases hold : e.recoverHold = 0
      · rw [if_pos hold] at next ends
        have active := (PathEntry.enter_active_moved (mono := mono) order (rcFl low)).1
        have is : e.evaluated p mono = e.enter (e.recovered p).1 (e.recovered p).2 mono := by
          rw [PathEntry.evaluated, PathEntry.moved_some moves, PathEntry.moved_some next]
          exact active
        rw [is]
        refine PathEntry.settles_enter ?_ ends.symm
        rw [state]
        rcases e.recovered_state p with h | h <;> rw [h] <;> decide
      · rw [if_neg hold] at next ends
        rw [PathEntry.evaluated_once moves next]
        exact PathEntry.settles_enter (by rw [state]; decide) ends.symm
  | recovering =>
    have ends := PathEntry.evaluatesTo_recovering (p := p) (mono := mono) state
    cases low : e.below p e.bank.rc with
    | true =>
      have moves : e.moves p mono = some (.failed, .margin) := by simp [PathEntry.moves, state, low]
      rw [PathEntry.evaluated_once moves (PathEntry.enter_failed_stays low)]
      rw [low, if_pos rfl] at ends
      exact PathEntry.settles_enter (by rw [state]; decide) ends.symm
    | false =>
      rw [low, if_neg Bool.false_ne_true] at ends
      cases late : e.holdOver mono with
      | true =>
        have moves : e.moves p mono = some (.active, e.reason) := by simp [PathEntry.moves, state, low, late]
        obtain ⟨active, stays⟩ := PathEntry.enter_active_moved (mono := mono) order (rcFl low)
        have is : e.evaluated p mono = e.enter (e.recovered p).1 (e.recovered p).2 mono := by
          rw [PathEntry.evaluated, PathEntry.moved_some moves, active, PathEntry.moved_none stays]
        rw [is]
        rw [late, if_pos rfl] at ends
        refine PathEntry.settles_enter ?_ ends.symm
        rw [state]
        rcases e.recovered_state p with h | h <;> rw [h] <;> decide
      | false =>
        have stays : e.moves p mono = none := by simp [PathEntry.moves, state, low, late]
        rw [PathEntry.evaluated_stays stays]
        refine PathEntry.settles_same ?_
        rw [ends, late, state]
        rfl
  | active =>
    have ends := PathEntry.evaluatesTo_active (p := p) (mono := mono) state
    cases low : e.below p e.bank.fl with
    | true =>
      have moves : e.moves p mono = some (.failed, .margin) := by simp [PathEntry.moves, state, low]
      have stays : (e.enter .failed .margin mono).moves p mono = none := by
        refine PathEntry.enter_failed_stays ?_
        by_contra high
        rw [rcFl (Bool.eq_false_iff.mpr high)] at low
        cases low
      rw [PathEntry.evaluated_once moves stays]
      rw [low, if_pos rfl] at ends
      exact PathEntry.settles_enter (by rw [state]; decide) ends.symm
    | false =>
      rw [low, if_neg Bool.false_ne_true] at ends
      unfold PathEntry.recovered at ends
      cases weak : e.below p e.bank.wn with
      | true =>
        have moves : e.moves p mono = some (.fading, .margin) := by simp [PathEntry.moves, state, low, weak]
        rw [PathEntry.evaluated_once moves (PathEntry.enter_fading_stays order low weak)]
        rw [weak, if_pos rfl] at ends
        exact PathEntry.settles_enter (by rw [state]; decide) ends.symm
      | false =>
        have stays : e.moves p mono = none := by simp [PathEntry.moves, state, low, weak]
        rw [PathEntry.evaluated_stays stays]
        refine PathEntry.settles_same ?_
        rw [ends, weak, state]
        rfl
  | fading =>
    have ends := PathEntry.evaluatesTo_fading (p := p) (mono := mono) state
    cases low : e.below p e.bank.fl with
    | true =>
      have moves : e.moves p mono = some (.failed, .margin) := by simp [PathEntry.moves, state, low]
      have stays : (e.enter .failed .margin mono).moves p mono = none := by
        refine PathEntry.enter_failed_stays ?_
        by_contra high
        rw [rcFl (Bool.eq_false_iff.mpr high)] at low
        cases low
      rw [PathEntry.evaluated_once moves stays]
      rw [low, if_pos rfl] at ends
      exact PathEntry.settles_enter (by rw [state]; decide) ends.symm
    | false =>
      rw [low, if_neg Bool.false_ne_true] at ends
      cases strong : e.below p e.bank.k with
      | false =>
        have moves : e.moves p mono = some (.active, .margin) := by simp [PathEntry.moves, state, low, strong]
        have stays : (e.enter .active .margin mono).moves p mono = none := by
          rw [PathEntry.enter_active_moves low, kWn strong]
          rfl
        rw [PathEntry.evaluated_once moves stays]
        rw [strong, if_neg Bool.false_ne_true] at ends
        exact PathEntry.settles_enter (by rw [state]; decide) ends.symm
      | true =>
        have stays : e.moves p mono = none := by simp [PathEntry.moves, state, low, strong]
        rw [PathEntry.evaluated_stays stays]
        refine PathEntry.settles_same ?_
        rw [ends, strong, state]
        rfl

end Moved

end Sys2Proof.Machine

/-! The entry that an evaluation of the part leaves (R42 to R44). -/

namespace Sys2Proof.Machine

/-- Two entries differ in nothing but what a closed burst moves, E and the flush drops. -/
def PathEntry.Agrees (e e' : PathEntry) : Prop :=
  e' = { e with
    delay := e'.delay, score := e'.score, effDelay := e'.effDelay
    stats := { e.stats with flushDrops := e'.stats.flushDrops } }

section Agrees
variable {e e' e'' : PathEntry} {p : Path} {mono : Nat}

theorem PathEntry.Agrees.refl (e : PathEntry) : e.Agrees e := rfl

theorem PathEntry.Agrees.trans (h : e.Agrees e') (h' : e'.Agrees e'') : e.Agrees e'' := by
  unfold PathEntry.Agrees at *
  rw [h', h]

theorem PathEntry.Agrees.enter (h : e.Agrees e') (new : LocalState) (reason : Reason) :
    (e.enter new reason mono).Agrees (e'.enter new reason mono) := by
  unfold PathEntry.Agrees at *
  rw [h]
  rfl

theorem PathEntry.Agrees.moves (h : e.Agrees e') : e'.moves p mono = e.moves p mono := by
  unfold PathEntry.Agrees at h
  rw [h]
  rfl

theorem PathEntry.Agrees.moved (h : e.Agrees e') : (e.moved p mono).Agrees (e'.moved p mono) := by
  unfold PathEntry.moved
  rw [h.moves]
  cases e.moves p mono with
  | none => exact h
  | some c => exact h.enter c.1 c.2

theorem PathEntry.Agrees.iterate (h : e.Agrees e') (n : Nat) :
    ((fun e => e.moved p mono)^[n] e).Agrees ((fun e => e.moved p mono)^[n] e') := by
  induction n generalizing e e' with
  | zero => exact h
  | succ n ih => exact ih h.moved

theorem PathEntry.Agrees.evaluatedFrom (h : e.Agrees e') : e.evaluatedFrom e' := by
  unfold PathEntry.Agrees at h
  rw [h]
  rfl

theorem PathEntry.evaluatedFrom.trans (h : e.evaluatedFrom e') (h' : e'.evaluatedFrom e'') : e.evaluatedFrom e'' := by
  unfold PathEntry.evaluatedFrom at *
  rw [h', h]

theorem PathEntry.evaluatedFrom_enter (e : PathEntry) (new : LocalState) (reason : Reason) (mono : Nat) :
    e.evaluatedFrom (e.enter new reason mono) := rfl

/-- An entry that agrees with a settled one is settled. -/
theorem PathEntry.settles.agrees (h : e.settles e' p mono) (same : e'.Agrees e'') : e.settles e'' p mono := by
  unfold PathEntry.Agrees at same
  rw [same]
  exact h

theorem PathEntry.afterBurst_agrees (e : PathEntry) (p : Path) (result : BurstResult) (least : Nat) :
    e.Agrees (e.afterBurst p result least) := by
  unfold PathEntry.afterBurst
  dsimp only
  split <;> rfl

end Agrees

namespace State
variable (s : State) (p : Path)

theorem takenEntry_agrees (new : LocalState) (reason : Reason) :
    ((s.entry p).enter new reason s.time.mono).Agrees (s.takenEntry p reason new) := by
  have flushed : ((s.entry p).enter new reason s.time.mono).Agrees
      (((s.entry p).enter new reason s.time.mono).flushed (s.transmitter p).queue.length) := rfl
  unfold takenEntry
  dsimp only
  split
  · exact flushed.trans (PathEntry.afterBurst_agrees _ p _ _)
  · exact flushed

/-- A change of local state that keeps the path in service. -/
theorem setLocalState_in {new : LocalState} (stays : ¬(new = .failed ∨ new = .disabled)) (reason : Reason) :
    s.setLocalState p new reason = (s.stateNoted p new reason).reEvaluate := by
  rw [setLocalState_eq]
  have silent : s.stateReported p new reason = (s.stateNoted p new reason).reEvaluate := by
    cases new with
    | failed | disabled => simp at stays
    | recovering | fading | active => rfl
  rw [silent]
  unfold State.soundingReport
  split
  · cases new with
    | failed | disabled => simp at stays
    | recovering | fading | active => rfl
  · rfl

theorem setLocalState_entriesBut (new : LocalState) (reason : Reason) : s.entriesBut (s.setLocalState p new reason) p := fun q other => by
  by_cases out : new = .failed ∨ new = .disabled
  · rw [s.setLocalState_entry p reason out, if_neg other]
  · have paths := (s.stateNoted p new reason).reEvaluate_paths
    have entry : (s.stateNoted p new reason).reEvaluate.entry q = (s.stateNoted p new reason).entry q :=
      congrArg (fun l : Vector PathEntry 5 => l[q.idx]) paths
    rw [s.setLocalState_in p out, entry, stateNoted_entry, if_neg other]

theorem setLocalState_agrees (new : LocalState) (reason : Reason) :
    ((s.entry p).enter new reason s.time.mono).Agrees ((s.setLocalState p new reason).entry p) := by
  by_cases out : new = .failed ∨ new = .disabled
  · rw [s.setLocalState_entry p reason out, if_pos rfl]
    exact s.takenEntry_agrees p new reason
  · have paths := (s.stateNoted p new reason).reEvaluate_paths
    have entry : (s.stateNoted p new reason).reEvaluate.entry p = (s.stateNoted p new reason).entry p :=
      congrArg (fun l : Vector PathEntry 5 => l[p.idx]) paths
    rw [s.setLocalState_in p out, entry, stateNoted_entry, if_pos rfl]
    exact PathEntry.Agrees.refl _

theorem setLocalState_same (new : LocalState) (reason : Reason) : (s.setLocalState p new reason).time = s.time
    ∧ (s.setLocalState p new reason).receivers = s.receivers := by
  have route := (State.setLocalState_routed s p new reason).1
  rw [route]
  exact ⟨rfl, rfl⟩

theorem inContact_iff : s.inContact p ↔ (s.receiver p).silence.silent = false ∧ (s.entry p).exhausted = false := Iff.rfl

/-- A path in contact stays so through its changes of state. -/
theorem setLocalState_contact {s : State} {p : Path} (contact : s.inContact p) (new : LocalState) (reason : Reason) :
    (s.setLocalState p new reason).inContact p := by
  obtain ⟨heard, fit⟩ := contact
  have agrees := s.setLocalState_agrees p new reason
  have receivers := (s.setLocalState_same p new reason).2
  have receiver : (s.setLocalState p new reason).receiver p = s.receiver p := congrArg (fun l : Vector Receiver 5 => l[p.idx]) receivers
  refine ⟨by rw [receiver]; exact heard, ?_⟩
  unfold PathEntry.Agrees at agrees
  rw [agrees]
  exact fit

/-! ## The evaluation -/

theorem evaluateUpTo_none {s : State} {p : Path} (stays : s.transition p = none) (n : Nat) : s.evaluateUpTo n p = s := by
  cases n with
  | zero => rfl
  | succ n =>
    rw [State.evaluateUpTo]
    simp only [stays]

theorem evaluateUpTo_some {s : State} {p : Path} {new : LocalState} {reason : Reason} (moves : s.transition p = some (new, reason)) (n : Nat) :
    s.evaluateUpTo (n + 1) p = (s.setLocalState p new reason).evaluateUpTo n p := by
  rw [State.evaluateUpTo]
  simp only [moves]

theorem evaluateUpTo_agrees {s : State} {p : Path} (contact : s.inContact p) (n : Nat) :
    ((fun e => e.moved p s.time.mono)^[n] (s.entry p)).Agrees ((s.evaluateUpTo n p).entry p) := by
  induction n generalizing s with
  | zero => exact PathEntry.Agrees.refl _
  | succ n ih =>
    have transition := State.transition_contact contact
    cases moves : (s.entry p).moves p s.time.mono with
    | none =>
      rw [moves] at transition
      have fixed : (s.entry p).moved p s.time.mono = s.entry p := PathEntry.moved_none moves
      rw [evaluateUpTo_none transition, Function.iterate_fixed fixed]
      exact PathEntry.Agrees.refl _
    | some c =>
      obtain ⟨new, reason⟩ := c
      rw [moves] at transition
      have later := ih (setLocalState_contact contact new reason)
      rw [(s.setLocalState_same p new reason).1] at later
      have first : (s.entry p).moved p s.time.mono = (s.entry p).enter new reason s.time.mono := PathEntry.moved_some moves
      rw [evaluateUpTo_some transition, Function.iterate_succ_apply, first]
      exact ((s.setLocalState_agrees p new reason).iterate n).trans later

/-- The evaluation of a path in contact settles its entry when its thresholds are in order. -/
theorem evaluate_settles {s : State} {p : Path} (contact : s.inContact p) (order : (s.entry p).inOrder p) :
    (s.entry p).settles ((s.evaluate p).entry p) p s.time.mono :=
  (PathEntry.evaluated_settles order).agrees (evaluateUpTo_agrees contact 3)

theorem evaluateUpTo_from (n : Nat) (s : State) : (s.entry p).evaluatedFrom ((s.evaluateUpTo n p).entry p)
    ∧ s.entriesBut (s.evaluateUpTo n p) p := by
  induction n generalizing s with
  | zero => exact ⟨rfl, fun _ _ => rfl⟩
  | succ n ih =>
    cases moves : s.transition p with
    | none =>
      rw [evaluateUpTo_none moves]
      exact ⟨rfl, fun _ _ => rfl⟩
    | some c =>
      obtain ⟨new, reason⟩ := c
      obtain ⟨later, others⟩ := ih (s.setLocalState p new reason)
      rw [evaluateUpTo_some moves]
      refine ⟨?_, entriesBut_trans (s.setLocalState_entriesBut p new reason) others⟩
      exact ((PathEntry.evaluatedFrom_enter (s.entry p) new reason s.time.mono).trans
        (s.setLocalState_agrees p new reason).evaluatedFrom).trans later

theorem evaluate_from : (s.entry p).evaluatedFrom ((s.evaluate p).entry p) ∧ s.entriesBut (s.evaluate p) p := evaluateUpTo_from p 3 s

theorem evaluate_stays {s : State} {p : Path} (stays : s.transition p = none) : s.evaluate p = s := evaluateUpTo_none stays 3

theorem transition_disabled {s : State} {p : Path} (disabled : (s.entry p).state = .disabled) : s.transition p = none := by
  unfold State.transition
  simp only [disabled]

/-- A path that fails and may not recover at once has failed when the evaluation ends. -/
theorem evaluate_once {s : State} {p : Path} {new : LocalState} {reason : Reason} (moves : s.transition p = some (new, reason))
    (stays : (s.setLocalState p new reason).transition p = none) : s.evaluate p = s.setLocalState p new reason :=
  (evaluateUpTo_some moves 2).trans (evaluateUpTo_none stays 2)

end State
end Sys2Proof.Machine

/-! The timers of a path run out, and O38. -/

namespace Sys2Proof.Machine
theorem PathEntry.Agrees.state {e e' : PathEntry} (h : e.Agrees e') : e'.state = e.state ∧ e'.reason = e.reason
    ∧ e'.holdDeadline = e.holdDeadline ∧ e'.entered = e.entered := by
  unfold PathEntry.Agrees at h
  rw [h]
  exact ⟨rfl, rfl, rfl, rfl⟩

/-- No margin is reported below a threshold that all reported margins reach. -/
theorem PathEntry.below_false {e : PathEntry} {p : Path} {t : Int} (reaches : ∀ m, e.marginOf p = some m → t ≤ m) : e.below p t = false := by
  unfold PathEntry.below
  cases margin : e.marginOf p with
  | none => rfl
  | some m => exact decide_eq_false (Int.not_lt.mpr (reaches m margin))

namespace State
variable {s : State} {p : Path}

/-- An entry that makes one transition and then stays. -/
theorem evaluate_enters (contact : s.inContact p) {new : LocalState} {reason : Reason}
    (moves : (s.entry p).moves p s.time.mono = some (new, reason))
    (stays : ((s.entry p).enter new reason s.time.mono).moves p s.time.mono = none) :
    ((s.entry p).enter new reason s.time.mono).Agrees ((s.evaluate p).entry p) := by
  have agrees := evaluateUpTo_agrees contact 3
  have is : (fun e => e.moved p s.time.mono)^[3] (s.entry p) = (s.entry p).enter new reason s.time.mono := PathEntry.evaluated_once moves stays
  rwa [is] at agrees

/-! ## The error window (R45) -/

theorem windowEnd_early {w : ErrorWindow} (window : (s.entry p).window = some w) (early : s.time.mono < w.endAt) : s.windowEnd p = s := by
  simp [State.windowEnd, State.windowDue, State.reached, window, Nat.not_le.mpr early]

/-- The entry with the next error window begun. -/
def windowNext (s : State) (p : Path) (w : ErrorWindow) : PathEntry :=
  { s.entry p with window := some ⟨w.endAt, w.endAt + (s.entry p).windowLength * 1000000, 0⟩ }

theorem modEntry_congr {g : PathEntry → PathEntry} {e : PathEntry} (is : g (s.entry p) = e) :
    s.modEntry p g = s.modEntry p (fun _ => e) := by
  simp only [State.modEntry, is]

theorem windowEnd_due {w : ErrorWindow} (window : (s.entry p).window = some w) (due : w.endAt ≤ s.time.mono) :
    s.windowEnd p = (s.modEntry p (fun _ => s.windowNext p w)).evaluate p := by
  have late : s.windowDue p = true := by
    simp [State.windowDue, State.reached, window, due]
  refine (if_pos late).trans (congrArg (fun u : State => u.evaluate p) (modEntry_congr ?_))
  rw [window]
  rfl

/-! ## The recover hold (R46) and the report timeout (R48) -/

theorem recoverHoldExpiry_early {d : Nat} (hold : (s.entry p).holdDeadline = some d) (early : s.time.mono < d) : s.recoverHoldExpiry p = s := by
  simp [State.recoverHoldExpiry, State.holdDue, State.reached, hold, Nat.not_le.mpr early]

theorem recoverHoldExpiry_due {d : Nat} (recovering : (s.entry p).state = .recovering) (hold : (s.entry p).holdDeadline = some d)
    (due : d ≤ s.time.mono) : s.recoverHoldExpiry p = s.evaluate p := by
  simp [State.recoverHoldExpiry, State.holdDue, State.reached, recovering, hold, due]

theorem reportExpiry_early {d : Nat} (deadline : (s.entry p).reportDeadline = some d) (early : s.time.mono < d) : s.reportExpiry p = s := by
  simp [State.reportExpiry, State.reportDue, State.reached, deadline, Nat.not_le.mpr early]

theorem reportExpiry_due {d : Nat} (deadline : (s.entry p).reportDeadline = some d) (due : d ≤ s.time.mono) :
    s.reportExpiry p = (s.modEntry p (fun e => { e with stale := true, reportDeadline := none })).raiseAll .path := by
  simp [State.reportExpiry, State.reportDue, State.reached, deadline, due]

/-! ## An entry replaced and its path evaluated -/

/-- What the evaluation of a path with a new entry leaves outside it. -/
theorem evaluate_mod (s : State) (p : Path) (e : PathEntry) : let t := (s.modEntry p (fun _ => e)).evaluate p
    e.evaluatedFrom (t.entry p) ∧ s.entriesBut t p ∧ s.sameParameters t ∧ s.portsRaised t ∧ s.routeOnly t := by
  intro t
  obtain ⟨moved, others⟩ := (s.modEntry p (fun _ => e)).evaluate_from p
  rw [State.modEntry_entry_self] at moved
  have routed := State.routed_trans (s.modEntry_routed p (fun _ => e)) (State.evaluate_routed _ p)
  exact ⟨moved, entriesBut_trans (s.modEntry_entriesBut p _) others, routed.2.1, routed.2.2, routed.1⟩

theorem modEntry_contact {e : PathEntry} (heard : (s.receiver p).silence.silent = false) (fit : e.exhausted = false) :
    (s.modEntry p (fun _ => e)).inContact p := by
  refine ⟨heard, ?_⟩
  rw [State.modEntry_entry_self]
  exact fit

theorem evaluate_mod_settles {e : PathEntry} (heard : (s.receiver p).silence.silent = false) (fit : e.exhausted = false)
    (order : e.inOrder p) : e.settles (((s.modEntry p (fun _ => e)).evaluate p).entry p) p s.time.mono := by
  have settles := evaluate_settles (modEntry_contact heard fit) (by rw [State.modEntry_entry_self]; exact order)
  rw [State.modEntry_entry_self] at settles
  exact settles

/-- A failed path that is neither silent nor out of errors nor below Rc recovers (R42, R46). -/
theorem evaluate_recovers (contact : s.inContact p) (failed : (s.entry p).state = .failed)
    (fit : (s.entry p).below p (s.entry p).bank.rc = false) (hold : 1 ≤ (s.entry p).recoverHold) : let e := (s.evaluate p).entry p
    e.state = .recovering ∧ e.reason = (s.entry p).reason
      ∧ e.holdDeadline = some (s.time.mono + (s.entry p).recoverHold * 1000000) := by
  have moves : (s.entry p).moves p s.time.mono = some (.recovering, (s.entry p).reason) := by simp [PathEntry.moves, failed, fit]
  have next := PathEntry.enter_recovering_moves (reason := (s.entry p).reason) (mono := s.time.mono) fit
  rw [if_neg (Nat.ne_of_gt hold)] at next
  obtain ⟨state, reason, deadline, -⟩ := (evaluate_enters contact moves next).state
  exact ⟨state, reason, deadline⟩

/-- A path whose recover hold is over and whose margin is good becomes ACTIVE (R46). -/
theorem evaluate_activates (contact : s.inContact p) (recovering : (s.entry p).state = .recovering)
    (late : (s.entry p).holdOver s.time.mono = true) (rc : (s.entry p).below p (s.entry p).bank.rc = false)
    (wn : (s.entry p).below p (s.entry p).bank.wn = false) (fl : (s.entry p).below p (s.entry p).bank.fl = false) :
    let e := (s.evaluate p).entry p
    e.state = .active ∧ e.reason = (s.entry p).reason ∧ e.holdDeadline = none := by
  have moves : (s.entry p).moves p s.time.mono = some (.active, (s.entry p).reason) := by simp [PathEntry.moves, recovering, rc, late]
  have next := PathEntry.enter_active_moves (reason := (s.entry p).reason) (mono := s.time.mono) fl
  rw [wn, if_neg Bool.false_ne_true] at next
  obtain ⟨state, reason, deadline, -⟩ := (evaluate_enters contact moves next).state
  exact ⟨state, reason, deadline⟩

end State

/-- Settles O38: each timer does nothing before its moment; then the path is evaluated, or marked STALE. -/
theorem pathTimersExpire : Obligations.PathTimersExpire := by
  intro s p
  have window : exec (.errorWindowEnd p) s = .next (s.windowEnd p) := rfl
  have hold : exec (.recoverHoldExpiry p) s = .next (s.recoverHoldExpiry p) := rfl
  have report : exec (.reportTimeout p) s = .next (s.reportExpiry p) := rfl
  rw [window, hold, report]
  refine ⟨fun w running => ⟨fun early => congrArg _ (State.windowEnd_early running early), fun due => ?_⟩,
    fun d recovering deadline => ⟨fun early => congrArg _ (State.recoverHoldExpiry_early deadline early), fun due => ?_⟩,
    fun d deadline => ⟨fun early => congrArg _ (State.reportExpiry_early deadline early), fun due => ?_⟩⟩
  · rw [State.windowEnd_due running due]
    obtain ⟨moved, others⟩ := s.evaluate_mod p (s.windowNext p w)
    refine ⟨_, rfl, moved, State.evaluate_mod_settles, fun d timer failed limit held fit => ?_, others⟩
    have heard : (s.receiver p).silence.silent = false := by rw [timer]; rfl
    have few : (s.windowNext p w).exhausted = false := decide_eq_false (Nat.not_le.mpr limit)
    have entry : (s.modEntry p (fun _ => s.windowNext p w)).entry p = s.windowNext p w := State.modEntry_entry_self s p _
    have recovers := State.evaluate_recovers (State.modEntry_contact heard few) (by rw [entry]; exact failed)
      (by rw [entry]; exact PathEntry.below_false fit) (by rw [entry]; exact held)
    rw [entry] at recovers
    exact recovers
  · rw [State.recoverHoldExpiry_due recovering deadline due]
    obtain ⟨moved, others⟩ := s.evaluate_from p
    have routed := State.evaluate_routed s p
    refine ⟨_, rfl, moved, State.evaluate_settles, fun x timer few fit => ?_, others, routed.2.1, routed.2.2, routed.1⟩
    have heard : (s.receiver p).silence.silent = false := by rw [timer]; rfl
    have notOut : (s.entry p).exhausted = false := by
      unfold PathEntry.exhausted
      cases running : (s.entry p).window with
      | none => rfl
      | some w => exact decide_eq_false (Nat.not_le.mpr (few w running))
    have late : (s.entry p).holdOver s.time.mono = true := by
      rw [PathEntry.holdOver_of deadline]
      exact decide_eq_true due
    exact State.evaluate_activates ⟨heard, notOut⟩ recovering late (PathEntry.below_false fun m h => (fit m h).1)
      (PathEntry.below_false fun m h => (fit m h).2.1) (PathEntry.below_false fun m h => (fit m h).2.2)
  · rw [State.reportExpiry_due deadline due]
    have others := s.modEntry_entriesBut p (fun e => { e with stale := true, reportDeadline := none })
    have raised := State.raiseAll_portsRaised (s.modEntry p (fun e => { e with stale := true, reportDeadline := none })) .path
    exact ⟨_, rfl, State.modEntry_entry_self s p (fun e => { e with stale := true, reportDeadline := none }), others,
      State.raiseAll_has _ .path, raised, rfl⟩

end Sys2Proof.Machine

/-! A path that fails, in the words of the statements (R39, R42, R13, R151). -/

namespace Sys2Proof.Machine
namespace State

/-- What a failure says of a state that an input made of `s₀` before the path failed: the entry may be another, and a change of
primary may have been recorded. -/
structure SameBurst (s₀ s : State) (p : Path) : Prop where
  mono : s.time.mono = s₀.time.mono
  queue : (s.transmitter p).queue = (s₀.transmitter p).queue
  current : s.sounding.current = s₀.sounding.current
  valid : s.sounding.valid = s₀.sounding.valid
  lost : s.sounding.lost = s₀.sounding.lost
  minimum : s.sounding.minimum = s₀.sounding.minimum
  logged : ∃ l, l.length ≤ 1 ∧ s₀.Logged l s

theorem SameBurst.of_same {s₀ s : State} (p : Path) (time : s.time = s₀.time) (transmitters : s.transmitters = s₀.transmitters)
    (sounding : s.sounding = s₀.sounding) (log : s.log = s₀.log) : s₀.SameBurst s p := by
  have transmitter : s.transmitter p = s₀.transmitter p := congrArg (fun l : Vector Transmitter 5 => l[p.idx]) transmitters
  exact ⟨by rw [time], by rw [transmitter], by rw [sounding], by rw [sounding], by rw [sounding], by rw [sounding],
    [], Nat.zero_le 1, .of_log log⟩

/-- A re-evaluation leaves the burst, and the queues, and writes one record at most. -/
theorem SameBurst.reEvaluate {s₀ s : State} {p : Path} (h : s₀.SameBurst s p) (same : s₀.log = s.log) : s₀.SameBurst s.reEvaluate p := by
  obtain ⟨mono, queue, current, valid, lost, minimum, -⟩ := h
  obtain ⟨l, short, logged⟩ := s.reEvaluate_logged
  obtain ⟨current', valid', lost', minimum'⟩ := s.reEvaluate_burst
  obtain ⟨k, only⟩ := s.reEvaluate_transmitter p
  have time : s.reEvaluate.time = s.time := by rw [(State.reEvaluate_routed s).1]
  exact ⟨by rw [time]; exact mono, by rw [only]; exact queue, current'.trans current, valid'.trans valid, lost'.trans lost,
    minimum'.trans minimum, l, short, logged.after same.symm⟩

theorem takenEntry_failed (s : State) (p : Path) (reason : Reason) : s.takenEntry p reason .failed
    = (s.entry p).afterFailure p reason s.time.mono (s.transmitter p).queue.length s.sounding := rfl

theorem afterFailure_congr {x y : Sounding} (current : x.current = y.current) (valid : x.valid = y.valid) (minimum : x.minimum = y.minimum)
    (e : PathEntry) (p : Path) (reason : Reason) (mono flushed : Nat) :
    e.afterFailure p reason mono flushed x = e.afterFailure p reason mono flushed y := by
  unfold PathEntry.afterFailure Sounding.closure
  rw [current, valid, minimum]

/-- The failure of a path, said of an earlier state with the same burst. -/
theorem setLocalState_pathFailed {s₀ s : State} {p : Path} (same : s₀.SameBurst s p) (reason : Reason) :
    s₀.pathFailed (s.setLocalState p .failed reason) p (s.entry p) reason := by
  obtain ⟨mono, queue, current, valid, lost, minimum, l₀, short, before⟩ := same
  have entry := s.setLocalState_entry p reason (new := .failed) (.inl rfl) p
  obtain ⟨⟨k, stopped⟩, left⟩ := s.setLocalState_transmitter p reason (new := .failed) (.inl rfl)
  obtain ⟨l, few, after, sound⟩ := s.setLocalState_logged p reason (new := .failed) (.inl rfl)
  rw [if_pos rfl] at entry
  have failed : (s.setLocalState p .failed reason).entry p
      = (s.entry p).afterFailure p reason s₀.mono (s₀.transmitter p).queue.length s₀.sounding := by
    rw [entry, takenEntry_failed, mono, queue, afterFailure_congr current valid minimum]
    rfl
  refine ⟨failed, by rw [stopped]; rfl, left, s.setLocalState_has p reason, fun room => ?_⟩
  have written := (before.trans after).written (by rw [List.length_append, List.length_cons]; omega)
  rw [written]
  refine ⟨?_, fun here => ?_⟩
  · rw [List.map_append, List.mem_append]
    exact .inr List.mem_cons_self
  · have body := sound (current.trans here)
    have is : s.takenSound p reason .failed = .sound p s₀.sounding.closure s₀.sounding.valid s₀.sounding.lost s₀.sounding.minimum
        ((s.setLocalState p .failed reason).entry p).delay (decide (1 ≤ s₀.sounding.valid) && (s.entry p).locked) := by
      have result : s.sounding.stopResult .failed = s₀.sounding.closure := by
        unfold Sounding.stopResult Sounding.closure
        rw [valid]
        rfl
      have ok : decide (s₀.sounding.closure = .ok) = decide (1 ≤ s₀.sounding.valid) := by
        unfold Sounding.closure
        by_cases h : 1 ≤ s₀.sounding.valid
        · rw [if_pos h]
          simp [h]
        · rw [if_neg h]
          simp [h]
      unfold takenSound
      rw [result, valid, lost, minimum, entry, ok]
    rw [← is, List.map_append, List.mem_append]
    exact .inr (List.mem_cons_of_mem _ body)

/-! ## A path in service whose errors are exhausted, or that is silent, fails (R42, R44) -/

section Fails
variable {s : State} {p : Path}

theorem transition_errors (heard : (s.receiver p).silence.silent = false) (out : (s.entry p).exhausted = true)
    (service : (s.entry p).state ≠ .disabled ∧ (s.entry p).state ≠ .failed) : s.transition p = some (.failed, .errors) := by
  unfold State.transition
  dsimp only
  rw [heard, out]
  cases state : (s.entry p).state with
  | disabled => exact absurd state service.1
  | failed => exact absurd state service.2
  | recovering | active | fading => rfl

theorem transition_silent (silent : (s.receiver p).silence.silent = true)
    (service : (s.entry p).state ≠ .disabled ∧ (s.entry p).state ≠ .failed) : s.transition p = some (.failed, .silence) := by
  unfold State.transition
  dsimp only
  rw [silent]
  cases state : (s.entry p).state with
  | disabled => exact absurd state service.1
  | failed => exact absurd state service.2
  | recovering | active | fading => rfl

theorem transition_failed_stays (failed : (s.entry p).state = .failed)
    (blocked : (s.receiver p).silence.silent = true ∨ (s.entry p).exhausted = true) : s.transition p = none := by
  unfold State.transition
  dsimp only
  rw [failed]
  rcases blocked with silent | out
  · rw [silent]
    rfl
  · rw [out]
    cases (s.receiver p).silence.silent <;> rfl

/-- The path has failed and stays so. -/
theorem setLocalState_failed_stays (reason : Reason)
    (blocked : (s.receiver p).silence.silent = true ∨ (s.entry p).exhausted = true) :
    (s.setLocalState p .failed reason).transition p = none := by
  have agrees := s.setLocalState_agrees p .failed reason
  have receiver : (s.setLocalState p .failed reason).receiver p = s.receiver p :=
    congrArg (fun l : Vector Receiver 5 => l[p.idx]) (s.setLocalState_same p .failed reason).2
  refine transition_failed_stays agrees.state.1 ?_
  rw [receiver]
  refine blocked.imp id fun out => ?_
  unfold PathEntry.Agrees at agrees
  rw [agrees]
  exact out

theorem evaluate_errors (heard : (s.receiver p).silence.silent = false) (out : (s.entry p).exhausted = true)
    (service : (s.entry p).state ≠ .disabled ∧ (s.entry p).state ≠ .failed) : s.evaluate p = s.setLocalState p .failed .errors :=
  evaluate_once (transition_errors heard out service) (setLocalState_failed_stays .errors (.inr out))

theorem evaluate_silent (silent : (s.receiver p).silence.silent = true)
    (service : (s.entry p).state ≠ .disabled ∧ (s.entry p).state ≠ .failed) : s.evaluate p = s.setLocalState p .failed .silence :=
  evaluate_once (transition_silent silent service) (setLocalState_failed_stays .silence (.inl silent))

end Fails

theorem stopped_failed : Transmitter.stopped .failed = fun m => { m with queue := [] } := rfl

theorem stopResult_failed (x : Sounding) : x.stopResult .failed = x.closure := rfl

end State
end Sys2Proof.Machine

/-! SET PATH TIMERS, and O33. -/

namespace Sys2Proof.Machine

theorem exec_setPathTimers (port : Port) (args : List Byte) (s : State) : exec (.setPathTimers port args) s
    = .next (s.command port (pathTimersArgs args) Role.operates (fun a t => t.setPathTimers a)) := rfl

theorem pathTimersArgs_bytes (b : Byte) {silence window limit hold report : Nat} (hs : silence < 4294967296) (hw : window < 65536)
    (hl : limit < 65536) (hh : hold < 65536) (hr : report < 65536) :
    pathTimersArgs ([b] ++ leBytes 4 silence ++ leBytes 2 window ++ leBytes 2 limit ++ leBytes 2 hold ++ leBytes 2 report)
      = some ⟨b.toNat, silence, window, limit, hold, report⟩ := by
  have read : pathTimersArgs ([b] ++ leBytes 4 silence ++ leBytes 2 window ++ leBytes 2 limit ++ leBytes 2 hold ++ leBytes 2 report)
      = some ⟨b.toNat, leNat (leBytes 4 silence), leNat (leBytes 2 window), leNat (leBytes 2 limit), leNat (leBytes 2 hold),
        leNat (leBytes 2 report)⟩ := rfl
  rw [read, leNat_leBytes_four hs, leNat_leBytes_two hw, leNat_leBytes_two hl, leNat_leBytes_two hh, leNat_leBytes_two hr]

namespace State
variable {s : State} {port : Port} {p : Path}

theorem setPathTimers_argument {a : PathTimersArgs} (bad : 4 < a.path ∨ ¬a.InRange) : s.setPathTimers a = .error .argument := by
  unfold State.setPathTimers
  cases named : Path.ofIndex a.path with
  | none => rfl
  | some p =>
    refine if_neg (bad.resolve_left fun above => ?_)
    rw [Path.ofIndex_eq_none above] at named
    cases named

theorem setPathTimers_idx {a : PathTimersArgs} (named : a.path = p.idx.val) (range : a.InRange) :
    s.setPathTimers a = .ok ((s.modEntry p a.store).evaluate p) := by
  unfold State.setPathTimers
  rw [named, Path.ofIndex_idx]
  exact if_pos range

/-! ## An entry replaced in the answered state -/

/-- What an evaluation in the answered state leaves, said of the state before. -/
theorem evaluate_answered (s : State) (port : Port) (p : Path) (e : PathEntry) :
    let t := ((s.answered port .ok).modEntry p (fun _ => e)).evaluate p
    e.evaluatedFrom (t.entry p) ∧ (t.port port).lastResult = .ok ∧ s.entriesBut t p ∧ s.sameParameters t ∧ s.routeOnly t := by
  intro t
  obtain ⟨moved, others, parameters, raised, route⟩ := (s.answered port .ok).evaluate_mod p e
  refine ⟨moved, (State.portsRaised.lastResult raised port).trans (s.answered_lastResult port .ok), others, parameters, ?_⟩
  exact route

/-- The failure of a path whose entry the input replaced: the clauses of `State.pathFailed` and `State.sweepLeft`. -/
theorem answered_fails (s : State) (port : Port) (p : Path) {e : PathEntry} (locked : e.locked = (s.entry p).locked) (reason : Reason) :
    let t := ((s.answered port .ok).modEntry p (fun _ => e)).setLocalState p .failed reason
    s.pathFailed t p e reason ∧ (s.answered port .ok).sweepLeft t p s.sounding.closure (fun m => { m with queue := [] }) := by
  intro t
  have entry : ((s.answered port .ok).modEntry p (fun _ => e)).entry p = e := State.modEntry_entry_self _ p _
  have same : s.SameBurst ((s.answered port .ok).modEntry p (fun _ => e)) p := .of_same p rfl rfl rfl rfl
  have failed := setLocalState_pathFailed same reason
  rw [entry] at failed
  have left := setLocalState_sweepLeft ((s.answered port .ok).modEntry p (fun _ => e)) p reason (new := .failed) (.inl rfl)
  have raised := (State.setLocalState_routed ((s.answered port .ok).modEntry p (fun _ => e)) p .failed reason).2.2
  have lock : ((s.answered port .ok).entry p).locked = (((s.answered port .ok).modEntry p (fun _ => e)).entry p).locked := by
    rw [entry, locked]
    rfl
  exact ⟨failed, sweepLeft_congr left rfl rfl rfl rfl lock raised⟩

theorem setPathTimers_taken {a : PathTimersArgs} (ready : s.resetting = none) (operator : (s.port port).role = .operator)
    (named : a.path = p.idx.val) (range : a.InRange) :
    s.command port (some a) Role.operates (fun a t => t.setPathTimers a)
      = ((s.answered port .ok).modEntry p (fun _ => a.store (s.entry p))).evaluate p := by
  have taken := State.command_answered (take := fun a t => t.setPathTimers a) (g := fun u => (u.modEntry p a.store).evaluate p)
    ready (Role.operates_iff.mpr operator) (setPathTimers_idx named range)
    (fun u => ((u.modEntry p a.store).evaluate_setResult port .ok p).symm)
  exact taken.trans (congrArg (fun u : State => u.evaluate p) (modEntry_congr rfl))

end State

/-- Settles O33: the five values are stored and the path is evaluated with them; a window at the new limit fails it. -/
theorem pathTimersStored : Obligations.PathTimersStored := by
  intro s port p b silence window limit hold report ready operator hs hw hl hh hr
  have right : Role.operates (s.port port).role = true := Role.operates_iff.mpr operator
  dsimp only
  rw [exec_setPathTimers, pathTimersArgs_bytes b hs hw hl hh hr]
  refine ⟨fun bad => ?_, fun named range => ?_⟩
  · refine congrArg _ (s.command_refused port _ _ _ .argument ready right (State.setPathTimers_argument (bad.imp id fun outside all => ?_)))
    obtain ⟨low, high, first, -, some', -, -, least, most⟩ := all
    exact outside ⟨low, high, first, some', least, most⟩
  · obtain ⟨low, high, first, some', least, most⟩ := range
    have inRange : PathTimersArgs.InRange ⟨b.toNat, silence, window, limit, hold, report⟩ :=
      ⟨low, high, first, Nat.le_of_lt_succ hw, some', Nat.le_of_lt_succ hl, Nat.le_of_lt_succ hh, least, most⟩
    rw [State.setPathTimers_taken ready operator named inRange]
    obtain ⟨moved, answered, others, parameters, route⟩ :=
      s.evaluate_answered port p (PathTimersArgs.store ⟨b.toNat, silence, window, limit, hold, report⟩ (s.entry p))
    have entry : ((s.answered port .ok).modEntry p (fun _ => PathTimersArgs.store ⟨b.toNat, silence, window, limit, hold, report⟩ (s.entry p))).entry p
        = PathTimersArgs.store ⟨b.toNat, silence, window, limit, hold, report⟩ (s.entry p) := State.modEntry_entry_self _ p _
    refine ⟨_, rfl, moved, fun heard fit order => State.evaluate_mod_settles heard fit order,
      fun w d running reached timer notDisabled notFailed => ?_, fun disabled => ?_, answered, others, parameters, route⟩
    · have heard : (s.receiver p).silence.silent = false := by rw [timer]; rfl
      have out : (PathTimersArgs.store ⟨b.toNat, silence, window, limit, hold, report⟩ (s.entry p)).exhausted = true := by
        have same : (PathTimersArgs.store ⟨b.toNat, silence, window, limit, hold, report⟩ (s.entry p)).window = some w := running
        unfold PathEntry.exhausted
        rw [same]
        exact decide_eq_true reached
      have fails := State.evaluate_errors
        (s := (s.answered port .ok).modEntry p (fun _ => PathTimersArgs.store ⟨b.toNat, silence, window, limit, hold, report⟩ (s.entry p))) (p := p)
        heard (by rw [entry]; exact out) (by rw [entry]; exact ⟨notDisabled, notFailed⟩)
      rw [fails]
      have agrees := State.setLocalState_agrees
        ((s.answered port .ok).modEntry p (fun _ => PathTimersArgs.store ⟨b.toNat, silence, window, limit, hold, report⟩ (s.entry p))) p .failed .errors
      obtain ⟨state, reason, -⟩ := agrees.state
      obtain ⟨failed, left⟩ := s.answered_fails port p (e := PathTimersArgs.store ⟨b.toNat, silence, window, limit, hold, report⟩ (s.entry p)) rfl .errors
      exact ⟨state, reason, failed, left⟩
    · rw [State.evaluate_stays (State.transition_disabled (by rw [entry]; exact disabled)), entry]
      exact disabled

end Sys2Proof.Machine

/-! The silence deadline passes, and O37. -/

namespace Sys2Proof.Machine

theorem PathEntry.eligible_far {e : PathEntry} {p : Path} (unknown : e.farState = none) : e.eligible p = false := by
  unfold PathEntry.eligible
  rw [unknown]
  split
  · exact Bool.and_false _
  · exact Bool.and_false _

theorem PathEntry.eligible_out {e : PathEntry} {p : Path} (out : e.state = .failed ∨ e.state = .disabled) : e.eligible p = false := by
  unfold PathEntry.eligible
  rcases out with state | state <;> rw [state] <;> split <;> rfl

namespace State
variable {s : State} {p : Path}

theorem silenceExpiry_early {d : Nat} (timer : (s.receiver p).silence = .running d) (early : s.time.mono < d) : s.silenceExpiry p = s := by
  simp [State.silenceExpiry, State.silenceDue, timer, Nat.not_le.mpr early]

/-- The state with the timer EXPIRED and the far state UNKNOWN, before the evaluation. -/
def farLost (s : State) (p : Path) : State := (s.modReceiver p (fun r => { r with silence := .expired })).setFar p none none

theorem silenceExpiry_due {d : Nat} (timer : (s.receiver p).silence = .running d) (due : d ≤ s.time.mono) :
    s.silenceExpiry p = (s.farLost p).evaluate p := by
  simp [State.silenceExpiry, State.silenceDue, timer, due, farLost]

/-- The entry and the receiver changed, before a report of the far state. -/
def farCleared (s : State) (p : Path) : State :=
  (s.modReceiver p (fun r => { r with silence := .expired })).modEntry p (fun e => { e with farState := none, farQuality := none })

theorem farLost_cases (s : State) (p : Path) :
    ((s.entry p).farState = none ∧ s.farLost p = s.farCleared p) ∨ s.farLost p = (s.farCleared p).reEvaluate := by
  unfold farLost State.setFar
  dsimp only
  rw [State.modReceiver_entry]
  split
  · rename_i same
    exact .inl ⟨same, rfl⟩
  · exact .inr rfl

theorem farCleared_entry (s : State) (p q : Path) : (s.farCleared p).entry q
    = if q = p then { s.entry p with farState := none, farQuality := none } else s.entry q :=
  State.modEntry_entry (s.modReceiver p (fun r => { r with silence := .expired })) p (fun e => { e with farState := none, farQuality := none }) q

theorem farLost_entry (s : State) (p q : Path) : (s.farLost p).entry q
    = if q = p then { s.entry p with farState := none, farQuality := none } else s.entry q := by
  rw [← farCleared_entry]
  rcases s.farLost_cases p with ⟨-, same⟩ | moved
  · rw [same]
  · rw [moved]
    exact congrArg (fun l : Vector PathEntry 5 => l[q.idx]) (s.farCleared p).reEvaluate_paths

theorem farLost_routed (s : State) (p : Path) : (s.modReceiver p (fun r => { r with silence := .expired })).routed (s.farLost p) :=
  State.setFar_routed _ p none none

theorem farLost_receivers (s : State) (p : Path) : (s.farLost p).receivers
    = (s.modReceiver p (fun r => { r with silence := .expired })).receivers := by
  rw [(s.farLost_routed p).1]

theorem farLost_silent (s : State) (p : Path) : (s.farLost p).receiver p = { s.receiver p with silence := .expired } :=
  (congrArg (fun l : Vector Receiver 5 => l[p.idx]) (s.farLost_receivers p)).trans
    (State.modReceiver_receiver_self s p (fun r => { r with silence := .expired }))

theorem farLost_burst (s : State) (p : Path) : s.SameBurst (s.farLost p) p := by
  have cleared : s.SameBurst (s.farCleared p) p := .of_same p rfl rfl rfl rfl
  rcases s.farLost_cases p with ⟨-, same⟩ | moved
  · rw [same]
    exact cleared
  · rw [moved]
    exact cleared.reEvaluate rfl

/-- A path whose far state is lost and that fails is as little eligible before the failure as after it. -/
theorem farLost_eligible (s : State) (p : Path) (reason : Reason) (q : Path) :
    (((s.farLost p).stateNoted p .failed reason).entry q).eligible q = ((s.farCleared p).entry q).eligible q := by
  rw [stateNoted_entry, farLost_entry, farLost_entry, farCleared_entry, if_pos rfl]
  split
  · rw [PathEntry.eligible_out (.inl rfl), PathEntry.eligible_far rfl]
  · rfl

/-- What the failure of a silent path does to the sweep: the fallback is reported once, with the far state or with the failure. -/
theorem farLost_sweepLeft (s : State) (p : Path) (reason : Reason) :
    s.sweepLeft ((s.farLost p).setLocalState p .failed reason) p s.sounding.closure (fun m => { m with queue := [] }) := by
  have routed := State.setLocalState_routed (s.farLost p) p .failed reason
  have raised : s.portsRaised ((s.farLost p).setLocalState p .failed reason) :=
    State.portsRaised_trans (State.portsRaised_trans (State.portsRaised_of_ports rfl) (s.farLost_routed p).2.2) routed.2.2
  have locked : ((s.farLost p).entry p).locked = (s.entry p).locked := by
    rw [farLost_entry, if_pos rfl]
  rcases s.farLost_cases p with ⟨-, same⟩ | moved
  · have left := (s.farLost p).setLocalState_sweepLeft p reason (new := .failed) (.inl rfl)
    have sounding : s.sounding = (s.farLost p).sounding := by rw [same]; rfl
    have transmitters : s.transmitters = (s.farLost p).transmitters := by rw [same]; rfl
    have time : s.time = (s.farLost p).time := by rw [same]; rfl
    have selector : s.selector = (s.farLost p).selector := by rw [same]; rfl
    have closure : (s.farLost p).sounding.stopResult .failed = s.sounding.closure := by rw [← sounding]; rfl
    rw [closure] at left
    exact sweepLeft_congr left sounding transmitters time selector locked.symm raised
  · obtain ⟨sounding, transmitters⟩ := (s.farCleared p).reEvaluate_afterLoss
    rw [← moved] at sounding transmitters
    obtain ⟨sounding', transmitters'⟩ := afterLoss_congr (s := s) (u := s.farCleared p) rfl rfl rfl
      ((s.farCleared p).losesPrimary (s.farCleared p).paths)
    have able : (s.farLost p).PrimaryAble := by
      rw [moved]
      exact primaryAble_of_selected (s.farCleared p).reEvaluate_selected
    have noted := (s.farLost p).stateNoted_same p .failed reason
    have still : ((s.farLost p).stateNoted p .failed reason).PrimaryAble := by
      refine able.congr (by rw [noted.2.2.1]) fun q => ?_
      have before : ((s.farCleared p).entry q).eligible q = ((s.farLost p).entry q).eligible q := by
        rw [farLost_entry, farCleared_entry]
      exact (s.farLost_eligible p reason q).trans before
    obtain ⟨left, sent⟩ := (s.farLost p).stateReported_sweep p reason (new := .failed) (.inl rfl) false still.loses_none
    rw [afterLoss_kept] at left sent
    have stops : ((s.farLost p).modTransmitter p (Transmitter.stopped .failed)).transmitters
        = ((s.afterLoss ((s.farCleared p).losesPrimary (s.farCleared p).paths)).modTransmitter p (Transmitter.stopped .failed)).transmitters := by
      unfold State.modTransmitter State.transmitter
      rw [transmitters, transmitters']
    have loses : s.losesPrimary ((s.farLost p).setLocalState p .failed reason).paths
        = (s.farCleared p).losesPrimary (s.farCleared p).paths := by
      refine losesPrimary_congr rfl rfl ?_
      have after := (s.farLost p).setLocalState_eligible p reason (new := .failed) (.inl rfl)
      funext q
      exact (congrFun after q).trans (s.farLost_eligible p reason q)
    have route := ((s.farLost p).stateReported_routed p (new := .failed) reason).1
    have time : ((s.farLost p).stateReported p .failed reason).time = s.time := by
      rw [route, (s.farLost_routed p).1]
      rfl
    have entry := (s.farLost p).stateReported_entry p reason (new := .failed) (.inl rfl) p
    rw [if_pos rfl] at entry
    have current : s.sounding.current = (s.farLost p).sounding.current := (s.farLost_burst p).current.symm
    have closure : (s.farLost p).sounding.stopResult .failed = s.sounding.closure := by
      rw [stopResult_failed]
      unfold Sounding.closure
      rw [(s.farLost_burst p).valid]
    refine sweepLeft_of loses (left.trans (sounding.trans sounding')) (sent.trans stops) time (by rw [entry]; exact locked) raised
      ((s.farLost p).stateReported_able p reason (.inl rfl)) (fun here => ?_) (fun other => ?_)
    · rw [current] at here
      rcases (s.farLost p).setLocalState_cases p reason (new := .failed) (.inl rfl) with ⟨-, is⟩ | ⟨elsewhere, -⟩
      · rw [is, closure]
        rfl
      · exact absurd here elsewhere
    · rw [current] at other
      rcases (s.farLost p).setLocalState_cases p reason (new := .failed) (.inl rfl) with ⟨here, -⟩ | ⟨-, is⟩
      · exact absurd here other
      · rw [is]
        exact ⟨rfl, rfl⟩

end State

/-- Settles O37: a passed silence deadline makes the far state UNKNOWN and fails a path in service. -/
theorem silenceFailsPath : Obligations.SilenceFailsPath := by
  intro s p d timer
  have runs : exec (.silenceTimerExpiry p) s = .next (s.silenceExpiry p) := rfl
  rw [runs]
  refine ⟨fun early => congrArg _ (State.silenceExpiry_early timer early), fun due => ?_⟩
  rw [State.silenceExpiry_due timer due]
  have receiver := s.farLost_silent p
  have routed := State.evaluate_routed (s.farLost p) p
  have before := s.farLost_routed p
  obtain ⟨moved, others⟩ := (s.farLost p).evaluate_from p
  have receivers : ((s.farLost p).evaluate p).receivers = (s.modReceiver p (fun r => { r with silence := .expired })).receivers := by
    rw [routed.1, ← s.farLost_receivers p]
  have same (q : Path) : ((s.farLost p).evaluate p).receiver q = (s.modReceiver p (fun r => { r with silence := .expired })).receiver q :=
    congrArg (fun l : Vector Receiver 5 => l[q.idx]) receivers
  have heard : ((s.farLost p).evaluate p).receiver p = { s.receiver p with silence := .expired } :=
    (same p).trans (State.modReceiver_receiver_self s p _)
  have silent : ((s.farLost p).receiver p).silence.silent = true := by rw [receiver]; rfl
  have entry : (s.farLost p).entry p = { s.entry p with farState := none, farQuality := none } := by
    rw [State.farLost_entry, if_pos rfl]
  rw [entry] at moved
  refine ⟨_, rfl, by rw [heard], by rw [heard], moved, fun service => ?_, fun out => ?_, fun q other => ?_,
    State.sameParameters_trans before.2.1 routed.2.1,
    State.portsRaised_trans (State.portsRaised_trans (State.portsRaised_of_ports rfl) before.2.2) routed.2.2, fun q other => ?_, ?_⟩
  · have inService : ((s.farLost p).entry p).state ≠ .disabled ∧ ((s.farLost p).entry p).state ≠ .failed := by
      rw [entry]
      rcases service with state | state | state <;> simp [state]
    rw [State.evaluate_silent silent inService]
    have failed := State.setLocalState_pathFailed (s.farLost_burst p) .silence
    have agrees := (s.farLost p).setLocalState_agrees p .failed .silence
    obtain ⟨state, reason, -, entered⟩ := agrees.state
    rw [entry] at failed
    exact ⟨state, reason, entered.trans (s.farLost_burst p).mono, failed.2.1, failed, s.farLost_sweepLeft p .silence⟩
  · have stays : (s.farLost p).transition p = none := by
      rcases out with disabled | failed
      · exact State.transition_disabled (by rw [entry]; exact disabled)
      · exact State.transition_failed_stays (by rw [entry]; exact failed) (.inl silent)
    rw [State.evaluate_stays stays, entry]
  · rw [others q other, State.farLost_entry, if_neg other]
  · rw [same, State.modReceiver_receiver_ne s p _ other]
  · rw [receivers]
    exact State.routeOnly_trans before.1 routed.1

end Sys2Proof.Machine

/-! The checks of a frame that arrives (R5 to R9, R45), and O22. -/

namespace Sys2Proof.Machine

/-- An entry whose evaluation would leave its state makes no transition. -/
theorem PathEntry.moves_none {e : PathEntry} {p : Path} {mono : Nat} (same : (e.evaluatesTo p mono).1 = e.state) : e.moves p mono = none := by
  have recovered := e.recovered_state p
  cases state : e.state with
  | disabled => simp only [PathEntry.moves, state]
  | failed =>
    rw [PathEntry.evaluatesTo_failed state, state] at same
    cases low : e.below p e.bank.rc with
    | true => simp [PathEntry.moves, state, low]
    | false =>
      rw [low, if_neg Bool.false_ne_true] at same
      split at same
      · rcases recovered with h | h <;> rw [h] at same <;> cases same
      · cases same
  | recovering =>
    rw [PathEntry.evaluatesTo_recovering state, state] at same
    cases low : e.below p e.bank.rc with
    | true =>
      rw [low] at same
      cases same
    | false =>
      rw [low, if_neg Bool.false_ne_true] at same
      cases late : e.holdOver mono with
      | true =>
        rw [late, if_pos rfl] at same
        rcases recovered with h | h <;> rw [h] at same <;> cases same
      | false => simp [PathEntry.moves, state, low, late]
  | active =>
    rw [PathEntry.evaluatesTo_active state, state] at same
    cases low : e.below p e.bank.fl with
    | true =>
      rw [low] at same
      cases same
    | false =>
      rw [low, if_neg Bool.false_ne_true] at same
      unfold PathEntry.recovered at same
      cases weak : e.below p e.bank.wn with
      | true =>
        rw [weak] at same
        cases same
      | false => simp [PathEntry.moves, state, low, weak]
  | fading =>
    rw [PathEntry.evaluatesTo_fading state, state] at same
    cases low : e.below p e.bank.fl with
    | true =>
      rw [low] at same
      cases same
    | false =>
      rw [low, if_neg Bool.false_ne_true] at same
      cases strong : e.below p e.bank.k with
      | true => simp [PathEntry.moves, state, low, strong]
      | false =>
        rw [strong] at same
        cases same

namespace State
variable {s : State} {p : Path}

theorem modEntry_modEntry (s : State) (p : Path) (f g : PathEntry → PathEntry) :
    (s.modEntry p f).modEntry p g = s.modEntry p (fun e => g (f e)) := by
  simp only [State.modEntry, State.entry]
  simp

/-- The arrival of a frame ended. -/
def arrivalEnded (s : State) (p : Path) : State := s.modReceiver p (fun r => { r with arriving := none })

theorem judgeFrame_crossed (inService : (s.entry p).state ≠ .disabled) (stamp : Stamp) {f : PathFrame}
    (crossed : f.pathId.toNat ≠ p.idx.val ∨ ∃ peer, s.peerSite = some peer ∧ f.site ≠ peer) :
    s.judgeFrame p stamp f = s.crossedFrame p := by
  unfold State.judgeFrame
  rw [if_neg inService]
  have code : p.code = p.idx.val := rfl
  rw [code]
  split
  · rfl
  · rename_i named
    obtain ⟨peer, stored, other⟩ := crossed.resolve_left named
    have refuses : s.peerAccepts f.site = false := by
      simp [State.peerAccepts, stored, other]
    rw [refuses]
    rfl

theorem pathFrameEnd_bad {bytes : List Byte} {stamp : Stamp} (arriving : (s.receiver p).arriving = some ⟨stamp, false⟩)
    (ready : s.resetting = none) (bad : parsePathFrame bytes = none) : s.pathFrameEnd p bytes = (s.arrivalEnded p).checkError p := by
  simp [State.pathFrameEnd, arriving, ready, bad, arrivalEnded]

/-- The entry with a check error counted, in the statistic and in the error window (R45). -/
def errorCounted (s : State) (p : Path) : PathEntry :=
  let e := s.entry p
  { e with
    window := e.window.map (fun w => { w with count := min 65535 (w.count + 1) })
    stats := { e.stats with checkErrors := min 4294967295 (e.stats.checkErrors + 1) } }

theorem checkError_disabled (disabled : (s.entry p).state = .disabled) : s.checkError p
    = s.modEntry p (fun e => { e with stats := { e.stats with checkErrors := min 4294967295 (e.stats.checkErrors + 1) } }) :=
  if_pos disabled

theorem checkError_counted (inService : (s.entry p).state ≠ .disabled) :
    s.checkError p = (s.modEntry p (fun _ => s.errorCounted p)).evaluate p := by
  refine (if_neg inService).trans (congrArg (fun u : State => u.evaluate p) ?_)
  have joined := s.modEntry_modEntry p
    (fun e => { e with stats := { e.stats with checkErrors := inc32 e.stats.checkErrors } })
    (fun e => { e with window := e.window.map (fun w => { w with count := satAdd max16 w.count 1 }) })
  exact joined.trans (modEntry_congr rfl)

end State

/-- Settles O22: a frame that fails a check is counted, and a check error at the limit fails the path. -/
theorem frameChecksCount : Obligations.FrameChecksCount := by
  refine ⟨fun s p => rfl, fun s p bytes f stamp arriving ready parsed inService crossed => ?_,
    fun s p bytes stamp arriving ready bad => ?_⟩
  · have ends : exec (.pathFrameEnd p bytes) s = .next ((s.arrivalEnded p).judgeFrame p stamp f) :=
      congrArg _ (State.pathFrameEnd_of_parsed arriving ready parsed)
    rw [ends, State.judgeFrame_crossed (s := s.arrivalEnded p) inService stamp crossed]
    rfl
  have ends : exec (.pathFrameEnd p bytes) s = .next ((s.arrivalEnded p).checkError p) :=
    congrArg _ (State.pathFrameEnd_bad arriving ready bad)
  rw [ends]
  refine ⟨fun disabled => congrArg _ (State.checkError_disabled (s := s.arrivalEnded p) disabled), fun inService => ?_⟩
  rw [State.checkError_counted (s := s.arrivalEnded p) inService]
  have same : (s.arrivalEnded p).errorCounted p = s.errorCounted p := rfl
  rw [same]
  obtain ⟨moved, others, parameters, raised, route⟩ := (s.arrivalEnded p).evaluate_mod p (s.errorCounted p)
  have entry : ((s.arrivalEnded p).modEntry p (fun _ => s.errorCounted p)).entry p = s.errorCounted p := State.modEntry_entry_self _ p _
  have receivers : (((s.arrivalEnded p).modEntry p (fun _ => s.errorCounted p)).evaluate p).receivers = (s.arrivalEnded p).receivers := by
    rw [route]
  have receiver : (((s.arrivalEnded p).modEntry p (fun _ => s.errorCounted p)).evaluate p).receiver p
      = { s.receiver p with arriving := none } :=
    (congrArg (fun l : Vector Receiver 5 => l[p.idx]) receivers).trans (State.modReceiver_receiver_self s p _)
  have silence : ((s.arrivalEnded p).receiver p).silence = (s.receiver p).silence := by
    unfold State.arrivalEnded
    rw [State.modReceiver_receiver_self]
  have errors := congrArg (fun e : PathEntry => e.stats.checkErrors) moved
  have window := congrArg PathEntry.window moved
  refine ⟨_, rfl, errors, window, by rw [receiver], ⟨moved, fun heard fit order => ?_, fun stays => ?_, fun w d running timer full notFailed => ?_⟩,
    others, parameters, raised, ?_⟩
  · exact State.evaluate_mod_settles (by rw [silence]; exact heard) fit order
  · refine State.evaluate_stays ?_
    rcases stays with ⟨heard, fit, same⟩ | ⟨failed, blocked⟩
    · rw [State.transition_contact (State.modEntry_contact (e := s.errorCounted p) (by rw [silence]; exact heard) fit), entry]
      exact PathEntry.moves_none same
    · refine State.transition_failed_stays (by rw [entry]; exact failed) ?_
      rw [entry, State.modEntry_receiver, silence]
      exact blocked
  · have heard : ((s.arrivalEnded p).receiver p).silence.silent = false := by rw [silence, timer]; rfl
    have out : (s.errorCounted p).exhausted = true := by
      have counted : (s.errorCounted p).window = some { w with count := min 65535 (w.count + 1) } := by
        unfold State.errorCounted
        dsimp only
        rw [running]
        rfl
      unfold PathEntry.exhausted
      rw [counted]
      exact decide_eq_true full
    have fails := State.evaluate_errors (s := (s.arrivalEnded p).modEntry p (fun _ => s.errorCounted p)) (p := p) heard
      (by rw [entry]; exact out) (by rw [entry]; exact ⟨inService, notFailed⟩)
    rw [fails]
    have burst : s.SameBurst ((s.arrivalEnded p).modEntry p (fun _ => s.errorCounted p)) p := .of_same p rfl rfl rfl rfl
    have failed := State.setLocalState_pathFailed burst .errors
    have agrees := ((s.arrivalEnded p).modEntry p (fun _ => s.errorCounted p)).setLocalState_agrees p .failed .errors
    have left := ((s.arrivalEnded p).modEntry p (fun _ => s.errorCounted p)).setLocalState_sweepLeft p .errors (new := .failed) (.inl rfl)
    have raised := (State.setLocalState_routed ((s.arrivalEnded p).modEntry p (fun _ => s.errorCounted p)) p .failed .errors).2.2
    have lock : (s.entry p).locked = (((s.arrivalEnded p).modEntry p (fun _ => s.errorCounted p)).entry p).locked := by
      rw [entry]
      rfl
    rw [entry] at failed
    obtain ⟨state, reason, -⟩ := agrees.state
    exact ⟨state, reason, failed.2.1, failed, State.sweepLeft_congr left rfl rfl rfl rfl lock
      (State.portsRaised_trans (State.portsRaised_of_ports rfl) raised)⟩
  · rw [receivers]
    exact route

end Sys2Proof.Machine

/-! An entry replaced, its E formed anew and its path evaluated (R72, R73, R42 to R44). -/

namespace Sys2Proof.Machine

/-- An evaluation that would fail a path in service finds its margin too low (R42). -/
theorem PathEntry.moves_failed {e : PathEntry} {p : Path} {mono : Nat} (order : e.inOrder p) (fails : (e.evaluatesTo p mono).1 = .failed)
    (was : e.state ≠ .failed) : e.moves p mono = some (.failed, .margin) ∧ e.below p e.bank.rc = true := by
  have recovered := e.recovered_state p
  obtain ⟨-, -, rcFl⟩ := order.below
  have lower (low : e.below p e.bank.fl = true) : e.below p e.bank.rc = true := by
    by_contra high
    rw [rcFl (Bool.eq_false_iff.mpr high)] at low
    cases low
  have notRecovered (goes : (e.recovered p).1 = .failed) : False := by
    rcases recovered with h | h <;> rw [h] at goes <;> cases goes
  cases state : e.state with
  | failed => exact absurd state was
  | disabled =>
    rw [PathEntry.evaluatesTo_disabled state] at fails
    cases fails
  | recovering =>
    rw [PathEntry.evaluatesTo_recovering state] at fails
    cases low : e.below p e.bank.rc with
    | true => simp [PathEntry.moves, state, low]
    | false =>
      rw [low, if_neg Bool.false_ne_true] at fails
      split at fails
      · exact (notRecovered fails).elim
      · cases fails
  | active =>
    rw [PathEntry.evaluatesTo_active state] at fails
    cases low : e.below p e.bank.fl with
    | true => exact ⟨by simp [PathEntry.moves, state, low], lower low⟩
    | false =>
      rw [low, if_neg Bool.false_ne_true] at fails
      exact (notRecovered fails).elim
  | fading =>
    rw [PathEntry.evaluatesTo_fading state] at fails
    cases low : e.below p e.bank.fl with
    | true => exact ⟨by simp [PathEntry.moves, state, low], lower low⟩
    | false =>
      rw [low, if_neg Bool.false_ne_true] at fails
      split at fails <;> cases fails

/-- E is the one R72 forms. -/
def PathEntry.isFormed (e : PathEntry) (p : Path) : Prop := e.effDelay = e.formDelay p

theorem PathEntry.isFormed_formed (e : PathEntry) (p : Path) : (PathEntry.formed p e).isFormed p := rfl

theorem PathEntry.isFormed.afterBurst {e : PathEntry} {p : Path} (h : e.isFormed p) (result : BurstResult) (least : Nat) :
    (e.afterBurst p result least).isFormed p := by
  by_cases reports : result = .ok ∨ result = .failed
  · exact PathEntry.afterBurst_formed e p reports least
  · have same : e.afterBurst p result least = e := if_neg reports
    rw [same]
    exact h

namespace State
variable {s : State} {p : Path}

theorem takenEntry_formed (h : (s.entry p).isFormed p) (reason : Reason) (new : LocalState) : (s.takenEntry p reason new).isFormed p := by
  have flushed : (((s.entry p).enter new reason s.time.mono).flushed (s.transmitter p).queue.length).isFormed p := h
  unfold takenEntry
  dsimp only
  split
  · exact flushed.afterBurst _ _
  · exact flushed

theorem setLocalState_formed (h : (s.entry p).isFormed p) (new : LocalState) (reason : Reason) :
    ((s.setLocalState p new reason).entry p).isFormed p := by
  by_cases out : new = .failed ∨ new = .disabled
  · rw [s.setLocalState_entry p reason out, if_pos rfl]
    exact takenEntry_formed h reason new
  · have entry : (s.stateNoted p new reason).reEvaluate.entry p = (s.stateNoted p new reason).entry p :=
      congrArg (fun l : Vector PathEntry 5 => l[p.idx]) (s.stateNoted p new reason).reEvaluate_paths
    rw [s.setLocalState_in p out, entry, stateNoted_entry, if_pos rfl]
    exact h

theorem evaluateUpTo_formed (n : Nat) (h : (s.entry p).isFormed p) : ((s.evaluateUpTo n p).entry p).isFormed p := by
  induction n generalizing s with
  | zero => exact h
  | succ n ih =>
    cases moves : s.transition p with
    | none =>
      rw [evaluateUpTo_none moves]
      exact h
    | some c =>
      rw [evaluateUpTo_some moves]
      exact ih (setLocalState_formed h c.1 c.2)

/-- A path in contact whose margin is too low fails and stays so. -/
theorem evaluate_low (contact : s.inContact p) (moves : (s.entry p).moves p s.time.mono = some (.failed, .margin))
    (low : (s.entry p).below p (s.entry p).bank.rc = true) : s.evaluate p = s.setLocalState p .failed .margin := by
  refine evaluate_once ((transition_contact contact).trans moves) ?_
  have agrees := s.setLocalState_agrees p .failed .margin
  rw [transition_contact (setLocalState_contact contact .failed .margin), (s.setLocalState_same p .failed .margin).1, agrees.moves]
  exact PathEntry.enter_failed_stays low

/-! ## An entry replaced in the answered state -/

/-- The answered state with an entry replaced, its E formed anew. -/
def entryFormed (s : State) (port : Port) (p : Path) (e : PathEntry) : State :=
  ((s.answered port .ok).modEntry p (fun _ => e)).recomputeDelay p

theorem entryFormed_entry (s : State) (port : Port) (p : Path) (e : PathEntry) (q : Path) :
    (s.entryFormed port p e).entry q = if q = p then PathEntry.formed p e else s.entry q :=
  (s.answered port .ok).modEntry_recomputeDelay_entry p (fun _ => e) q

theorem entryFormed_routed (s : State) (port : Port) (p : Path) (e : PathEntry) : (s.answered port .ok).routed (s.entryFormed port p e) :=
  State.routed_trans (State.modEntry_routed _ p _) (State.recomputeDelay_routed _ p)

theorem entryFormed_burst (s : State) (port : Port) (p : Path) (e : PathEntry) : s.SameBurst (s.entryFormed port p e) p := by
  rcases ((s.answered port .ok).modEntry p (fun _ => e)).recomputeDelay_eq p with same | moved
  · have stays : s.SameBurst ((s.answered port .ok).modEntry p (fun _ => e)) p := .of_same p rfl rfl rfl rfl
    rw [entryFormed, same]
    exact stays
  · rw [entryFormed, moved]
    exact SameBurst.reEvaluate (.of_same p rfl rfl rfl rfl) rfl

/-- The state with the entry replaced and the path evaluated. -/
def entryTaken (s : State) (port : Port) (p : Path) (e : PathEntry) : State := (s.entryFormed port p e).evaluate p

theorem entryTaken_leaves (s : State) (port : Port) (p : Path) (e : PathEntry) : let t := s.entryTaken port p e
    e.evaluatedFrom (t.entry p) ∧ (t.entry p).effDelay = (t.entry p).formDelay p ∧ (t.port port).lastResult = .ok
      ∧ s.entriesBut t p ∧ s.sameParameters t ∧ s.routeOnly t := by
  intro t
  have entry := s.entryFormed_entry port p e p
  rw [if_pos rfl] at entry
  obtain ⟨moved, others⟩ := (s.entryFormed port p e).evaluate_from p
  have formed := evaluateUpTo_formed 3 (s := s.entryFormed port p e) (p := p) (by rw [entry]; exact PathEntry.isFormed_formed e p)
  have routed := State.routed_trans (s.entryFormed_routed port p e) (State.evaluate_routed _ p)
  rw [entry] at moved
  have first : e.evaluatedFrom (PathEntry.formed p e) := rfl
  refine ⟨first.trans moved, formed, (State.portsRaised.lastResult routed.2.2 port).trans (s.answered_lastResult port .ok),
    fun q other => ?_, routed.2.1, routed.1⟩
  exact (others q other).trans (by rw [entryFormed_entry, if_neg other])

theorem entryFormed_contact {port : Port} {e : PathEntry} (contact : s.inContact p) (fit : e.exhausted = (s.entry p).exhausted) :
    (s.entryFormed port p e).inContact p := by
  have receivers : (s.entryFormed port p e).receivers = s.receivers := by
    rw [(s.entryFormed_routed port p e).1]
    rfl
  have receiver : (s.entryFormed port p e).receiver p = s.receiver p := congrArg (fun l : Vector Receiver 5 => l[p.idx]) receivers
  have exhausted : (PathEntry.formed p e).exhausted = e.exhausted := rfl
  obtain ⟨heard, notOut⟩ := contact
  refine ⟨by rw [receiver]; exact heard, ?_⟩
  rw [entryFormed_entry, if_pos rfl, exhausted, fit]
  exact notOut

/-- Where the path goes when it is in contact and its thresholds are in order. -/
theorem entryTaken_settles {port : Port} {e : PathEntry} (contact : s.inContact p) (fit : e.exhausted = (s.entry p).exhausted)
    (order : e.inOrder p) : e.settles ((s.entryTaken port p e).entry p) p s.time.mono := by
  have entry := s.entryFormed_entry port p e p
  rw [if_pos rfl] at entry
  have time : (s.entryFormed port p e).time = s.time := by
    rw [(s.entryFormed_routed port p e).1]
    rfl
  have settles := evaluate_settles (entryFormed_contact (port := port) contact fit) (by rw [entry]; exact order)
  rw [entry, time] at settles
  exact settles

/-- A path that the new entry fails. -/
theorem entryTaken_fails {port : Port} {e : PathEntry} (contact : s.inContact p) (fit : e.exhausted = (s.entry p).exhausted)
    (order : e.inOrder p) (was : e.state ≠ .failed) (fails : ((s.entryTaken port p e).entry p).state = .failed) :
    ((s.entryTaken port p e).transmitter p).queue = [] ∧ s.pathFailed (s.entryTaken port p e) p { e with effDelay := e.formDelay p } .margin := by
  have entry := s.entryFormed_entry port p e p
  rw [if_pos rfl] at entry
  have time : (s.entryFormed port p e).time = s.time := by
    rw [(s.entryFormed_routed port p e).1]
    rfl
  have ends := congrArg Prod.fst (entryTaken_settles (port := port) contact fit order).1
  obtain ⟨moves, low⟩ := PathEntry.moves_failed (mono := s.time.mono) order (ends.symm.trans fails) was
  have is : s.entryTaken port p e = (s.entryFormed port p e).setLocalState p .failed .margin :=
    evaluate_low (entryFormed_contact contact fit) (by rw [entry, time]; exact moves) (by rw [entry]; exact low)
  have failed := setLocalState_pathFailed (s.entryFormed_burst port p e) .margin
  rw [entry, ← is] at failed
  exact ⟨failed.2.1, failed⟩

end State
end Sys2Proof.Machine

/-! SET THRESHOLDS and SELECT BANK, and O34. -/

namespace Sys2Proof.Machine

theorem exec_setThresholds (port : Port) (args : List Byte) (s : State) : exec (.setThresholds port args) s
    = .next (s.command port (thresholdArgs args) Role.operates (fun a t => t.setThresholds a)) := rfl

theorem exec_selectBank (port : Port) (b bank : Byte) (s : State) : exec (.selectBank port [b, bank]) s
    = .next (s.command port (some (b.toNat, bank.toNat)) Role.supervises (fun a t => t.selectBank (t.port port).role a.1 a.2)) := rfl

theorem ofInt_toInt_byte {v : Int} (low : -128 ≤ v) (high : v ≤ 127) : (BitVec.ofInt 8 v).toInt = v := by
  rw [BitVec.toInt_ofInt]
  exact Int.bmod_eq_of_le (by omega) (by omega)

theorem thresholdArgs_bytes (b bank : Byte) {k wn fl rc : Int} {slope pmax : Nat} (k0 : -128 ≤ k) (k1 : k ≤ 127) (wn0 : -128 ≤ wn)
    (wn1 : wn ≤ 127) (fl0 : -128 ≤ fl) (fl1 : fl ≤ 127) (rc0 : -128 ≤ rc) (rc1 : rc ≤ 127) (hs : slope < 256) (hp : pmax < 65536) :
    thresholdArgs ([b, bank] ++ leBytesInt 1 k ++ leBytesInt 1 wn ++ leBytesInt 1 fl ++ leBytesInt 1 rc ++ leBytes 1 slope ++ leBytes 2 pmax)
      = some ⟨b.toNat, bank.toNat, ⟨k, wn, fl, rc, slope, pmax⟩⟩ := by
  rw [leBytesInt_one, leBytesInt_one, leBytesInt_one, leBytesInt_one]
  have read : thresholdArgs ([b, bank] ++ [BitVec.ofInt 8 k] ++ [BitVec.ofInt 8 wn] ++ [BitVec.ofInt 8 fl] ++ [BitVec.ofInt 8 rc]
        ++ leBytes 1 slope ++ leBytes 2 pmax)
      = some ⟨b.toNat, bank.toNat, ⟨(BitVec.ofInt 8 k).toInt, (BitVec.ofInt 8 wn).toInt, (BitVec.ofInt 8 fl).toInt,
        (BitVec.ofInt 8 rc).toInt, (BitVec.ofNat 8 slope).toNat, leNat (leBytes 2 pmax)⟩⟩ := rfl
  have byte : (BitVec.ofNat 8 slope).toNat = slope := by
    rw [BitVec.toNat_ofNat]
    omega
  rw [read, leNat_leBytes_two hp, ofInt_toInt_byte k0 k1, ofInt_toInt_byte wn0 wn1, ofInt_toInt_byte fl0 fl1, ofInt_toInt_byte rc0 rc1, byte]

theorem radioPath_above {n : Nat} (above : 3 < n) : radioPath n = none := by
  unfold radioPath
  by_cases four : n = 4
  · subst four
    rfl
  · rw [Path.ofIndex_eq_none (by omega)]
    rfl

namespace State
variable {s : State} {port : Port} {p : Path}

theorem setThresholds_argument {a : ThresholdArgs} (bad : 3 < a.path ∨ 1 < a.bank) : s.setThresholds a = .error .argument := by
  unfold State.setThresholds
  rcases bad with path | bank
  · rw [radioPath_above path]
  · rw [flagOfCode_eq_none bank]
    cases radioPath a.path <;> rfl

/-- SET THRESHOLDS of a radio path and a bank. -/
theorem setThresholds_named {a : ThresholdArgs} (named : a.path = p.idx.val) (radio : p ≠ .f) (bank : a.bank ≤ 1) :
    s.setThresholds a = if a.values.ordered then
        if (s.entry p).bankOne = decide (a.bank = 1) then
          .ok (((s.modEntry p (fun e => e.setBank (decide (a.bank = 1)) a.values)).recomputeDelay p).evaluate p)
        else .ok (s.modEntry p (fun e => e.setBank (decide (a.bank = 1)) a.values))
      else .error .order := by
  unfold State.setThresholds
  rw [radioPath_idx named radio, flagOfCode_eq bank]

theorem selectBank_argument {role : Role} {index bank : Nat} (bad : 3 < index ∨ 1 < bank) :
    s.selectBank role index bank = .error .argument := by
  unfold State.selectBank
  rcases bad with path | bank
  · rw [radioPath_above path]
  · rw [flagOfCode_eq_none bank]
    cases radioPath index <;> rfl

theorem selectBank_named {role : Role} {index bank : Nat} (named : index = p.idx.val) (radio : p ≠ .f) (low : bank ≤ 1)
    (free : s.lockBinds role p = false) : s.selectBank role index bank
      = if (s.entry p).bankOne = decide (bank = 1) then .ok s
        else .ok (((s.modEntry p (fun e => { e with bankOne := decide (bank = 1) })).recomputeDelay p).evaluate p) := by
  unfold State.selectBank
  rw [radioPath_idx named radio, flagOfCode_eq low]
  dsimp only
  rw [free, if_neg Bool.false_ne_true]

theorem formedEvaluate_setResult (u : State) (port : Port) (p : Path) (g : PathEntry → PathEntry) :
    (((u.modEntry p g).recomputeDelay p).evaluate p).setResult port .ok
      = (((u.setResult port .ok).modEntry p g).recomputeDelay p).evaluate p := by
  rw [setResult_modEntry, recomputeDelay_setResult, evaluate_setResult]

/-- The outcome as the statement has it: what the new entry is evaluated to. -/
theorem entryTaken_evaluated {e : PathEntry} (fit : e.exhausted = (s.entry p).exhausted) (state : e.state = (s.entry p).state)
    (order : e.inOrder p) : let t := s.entryTaken port p e
    e.evaluatedFrom (t.entry p) ∧ (t.entry p).effDelay = (t.entry p).formDelay p
      ∧ (s.inContact p → ((t.entry p).state, (t.entry p).reason) = e.evaluatesTo p s.mono
          ∧ ((t.entry p).state = .failed → (s.entry p).state ≠ .failed → (t.transmitter p).queue = []
              ∧ s.pathFailed t p { e with effDelay := e.formDelay p } .margin))
      ∧ (t.port port).lastResult = .ok ∧ s.entriesBut t p ∧ s.sameParameters t ∧ s.routeOnly t := by
  intro t
  obtain ⟨moved, formed, answered, others, parameters, route⟩ := s.entryTaken_leaves port p e
  refine ⟨moved, formed, fun contact => ⟨(entryTaken_settles contact fit order).1, fun fails was => ?_⟩, answered, others, parameters, route⟩
  exact entryTaken_fails contact fit order (state ▸ was) fails

/-- A role that may act on the path is bound by no lock. -/
theorem lockBinds_free {role : Role} (may : role = .operator ∨ (role = .supervisor ∧ (s.entry p).locked = false)) :
    s.lockBinds role p = false := by
  unfold State.lockBinds
  rcases may with rfl | ⟨rfl, free⟩
  · rfl
  · rw [free]
    rfl

end State

theorem PathEntry.setBank_eq (e : PathEntry) (one : Bool) (values : Bank) :
    e.setBank one values = if one then { e with bank1 := values } else { e with bank0 := values } := rfl

theorem PathEntry.setBank_active {e : PathEntry} {one : Bool} (active : e.bankOne = one) (values : Bank) :
    (e.setBank one values).bank = values := by
  rw [PathEntry.setBank_eq]
  cases one with
  | true => exact if_pos active
  | false => exact if_neg (by rw [if_neg Bool.false_ne_true, active]; exact Bool.false_ne_true)

theorem PathEntry.inOrder_of_ordered {e : PathEntry} {p : Path} (ordered : e.bank.ordered = true) : e.inOrder p :=
  fun _ => of_decide_eq_true ordered

theorem PathEntry.setBank_same (e : PathEntry) (one : Bool) (values : Bank) : (e.setBank one values).exhausted = e.exhausted
    ∧ (e.setBank one values).state = e.state := by
  cases one <;> exact ⟨rfl, rfl⟩

/-- Settles O34: thresholds out of order are refused; an inactive bank changes nothing else, the active one is evaluated. -/
theorem thresholdsStored : Obligations.ThresholdsStored := by
  intro s port p b bank k wn fl rc slope pmax ready k0 k1 wn0 wn1 fl0 fl1 rc0 rc1 hs hp
  dsimp only
  rw [exec_setThresholds, thresholdArgs_bytes b bank k0 k1 wn0 wn1 fl0 fl1 rc0 rc1 hs hp, exec_selectBank]
  refine ⟨fun operator => ?_, fun role bad => ?_, fun may named radio low => ?_⟩
  · have right : Role.operates (s.port port).role = true := Role.operates_iff.mpr operator
    refine ⟨fun bad => congrArg _ (s.command_refused port _ _ _ .argument ready right (State.setThresholds_argument bad)),
      fun named radio low => ?_⟩
    have takes (u : State) := u.setThresholds_named (a := ⟨b.toNat, bank.toNat, ⟨k, wn, fl, rc, slope, pmax⟩⟩) named radio low
    have ordered : (⟨k, wn, fl, rc, slope, pmax⟩ : Bank).ordered = true ↔ fl < wn ∧ wn ≤ k ∧ fl < rc := decide_eq_true_iff
    refine ⟨fun bad => ?_, fun order inactive => ?_, fun order active => ?_⟩
    · refine congrArg _ (s.command_refused port _ _ _ .order ready right ((takes _).trans (if_neg ?_)))
      exact fun good => bad (ordered.mp good)
    · have taken := State.command_answered (a := (⟨b.toNat, bank.toNat, ⟨k, wn, fl, rc, slope, pmax⟩⟩ : ThresholdArgs))
        (take := fun a t => t.setThresholds a)
        (g := fun u => u.modEntry p (fun e => e.setBank (decide (bank.toNat = 1)) ⟨k, wn, fl, rc, slope, pmax⟩)) ready right
        ((takes _).trans ((if_pos (ordered.mpr order)).trans (if_neg inactive))) (fun u => rfl)
      rw [taken]
      exact congrArg _ (State.modEntry_congr rfl)
    · have taken := State.command_answered (a := (⟨b.toNat, bank.toNat, ⟨k, wn, fl, rc, slope, pmax⟩⟩ : ThresholdArgs))
        (take := fun a t => t.setThresholds a)
        (g := fun u => ((u.modEntry p (fun e => e.setBank (decide (bank.toNat = 1)) ⟨k, wn, fl, rc, slope, pmax⟩)).recomputeDelay p).evaluate p)
        ready right ((takes _).trans ((if_pos (ordered.mpr order)).trans (if_pos active))) (fun u => u.formedEvaluate_setResult port p _)
      obtain ⟨fit, state⟩ := (s.entry p).setBank_same (decide (bank.toNat = 1)) ⟨k, wn, fl, rc, slope, pmax⟩
      have inOrder : PathEntry.inOrder ((s.entry p).setBank (decide (bank.toNat = 1)) ⟨k, wn, fl, rc, slope, pmax⟩) p :=
        PathEntry.inOrder_of_ordered (by rw [PathEntry.setBank_active active]; exact ordered.mpr order)
      rw [taken]
      refine ⟨s.entryTaken port p ((s.entry p).setBank (decide (bank.toNat = 1)) ⟨k, wn, fl, rc, slope, pmax⟩), ?_,
        State.entryTaken_evaluated fit state inOrder⟩
      exact congrArg (fun u : State => Host.Outcome.next ((u.recomputeDelay p).evaluate p)) (State.modEntry_congr rfl)
  · have right : Role.supervises (s.port port).role = true := Role.supervises_iff.mpr role.symm
    exact congrArg _ (s.command_refused port _ _ _ .argument ready right (State.selectBank_argument bad))
  · have right : Role.supervises (s.port port).role = true := Role.supervises_iff.mpr (may.elim .inr fun h => .inl h.1)
    have role : ((s.beginTransaction port).port port).role = (s.port port).role := by rw [State.beginTransaction_port]
    have takes := State.selectBank_named (s := s.beginTransaction port) (role := ((s.beginTransaction port).port port).role) named radio low
      (State.lockBinds_free (by rw [role]; exact may))
    refine ⟨fun same => ?_, fun other ordered => ?_⟩
    · exact congrArg _ (State.command_answered (g := id) ready right (takes.trans (if_pos same)) (fun u => rfl))
    · have taken := State.command_answered (a := (b.toNat, bank.toNat)) (take := fun a t => t.selectBank (t.port port).role a.1 a.2)
        (g := fun u => ((u.modEntry p (fun e => { e with bankOne := decide (bank.toNat = 1) })).recomputeDelay p).evaluate p) ready right
        (takes.trans (if_neg other)) (fun u => u.formedEvaluate_setResult port p _)
      rw [taken]
      refine ⟨s.entryTaken port p { s.entry p with bankOne := decide (bank.toNat = 1) }, ?_,
        State.entryTaken_evaluated rfl rfl (PathEntry.inOrder_of_ordered ordered)⟩
      exact congrArg (fun u : State => Host.Outcome.next ((u.recomputeDelay p).evaluate p)) (State.modEntry_congr rfl)

end Sys2Proof.Machine

/-! POST MARGIN, and O36. -/

namespace Sys2Proof.Machine

theorem exec_postMargin (port : Port) (args : List Byte) (s : State) : exec (.postMargin port args) s
    = .next (s.command port (postMarginArgs args) Role.supervises (fun entries t => t.postMargin entries)) := rfl

/-! ## The entries of a batch (R162) -/

theorem marginEntries_flatMap {α : Type} (path margin : α → Byte) (entries : List α) :
    marginEntries (entries.flatMap (fun e => [path e, margin e])) = some (entries.map (fun e => ⟨(path e).toNat, (margin e).toInt⟩)) := by
  induction entries with
  | nil => rfl
  | cons e rest ih =>
    have first : marginEntries ((e :: rest).flatMap (fun e => [path e, margin e]))
        = (marginEntries (rest.flatMap (fun e => [path e, margin e]))).map (fun l => ⟨(path e).toNat, (margin e).toInt⟩ :: l) := rfl
    rw [first, ih]
    rfl

theorem postMarginArgs_flatMap {α : Type} (path margin : α → Byte) {entries : List α} (some' : entries ≠ []) :
    postMarginArgs (entries.flatMap (fun e => [path e, margin e]))
      = some ((entries.drop (entries.length - 8)).map (fun e => ⟨(path e).toNat, (margin e).toInt⟩)) := by
  unfold postMarginArgs
  rw [marginEntries_flatMap]
  cases entries with
  | nil => exact absurd rfl some'
  | cons e rest =>
    rw [List.map_drop, List.map_cons]
    dsimp only
    rw [List.length_cons, List.length_map, List.length_cons]

theorem resolveEntries_radio {α : Type} (path : α → Path) (margin : α → Int) {entries : List α} (radio : ∀ e ∈ entries, path e ≠ .f) :
    resolveEntries (entries.map (fun e => ⟨(path e).idx.val, margin e⟩)) = some (entries.map (fun e => (path e, margin e))) := by
  induction entries with
  | nil => rfl
  | cons e rest ih =>
    rw [List.map_cons, resolveEntries, radioPath_idx rfl (radio e List.mem_cons_self), ih (fun e mem => radio e (List.mem_cons_of_mem _ mem))]
    rfl

theorem resolveEntries_bad {l : List MarginEntry} (bad : ∃ e ∈ l, 3 < e.path) : resolveEntries l = none := by
  induction l with
  | nil =>
    obtain ⟨e, mem, -⟩ := bad
    cases mem
  | cons x rest ih =>
    obtain ⟨e, mem, above⟩ := bad
    rw [resolveEntries]
    rcases List.mem_cons.mp mem with rfl | later
    · rw [radioPath_above above]
    · rw [ih ⟨e, later, above⟩]
      cases radioPath x.path <;> rfl

namespace State
variable {s : State} {port : Port} {p : Path}

theorem applyMargins_foldl (l : List (Path × Int)) (s : State) : s.applyMargins l = l.foldl (fun u e => u.applyMargin e.1 e.2) s := by
  induction l generalizing s with
  | nil => rfl
  | cons e rest ih => exact ih (s.applyMargin e.1 e.2)

theorem postMargin_some {entries : List MarginEntry} {l : List (Path × Int)} (resolved : resolveEntries entries = some l) :
    s.postMargin entries = .ok (l.foldl (fun u e => u.applyMargin e.1 e.2) s) := by
  unfold State.postMargin
  rw [resolved, ← applyMargins_foldl]

theorem postMargin_none {entries : List MarginEntry} (resolved : resolveEntries entries = none) :
    s.postMargin entries = .error .argument := by
  unfold State.postMargin
  rw [resolved]

/-- The entry with a margin stored (R47, R48). -/
def marginStored (s : State) (p : Path) (margin : Int) : PathEntry := { s.entry p with
  margin := some margin, reportTime := s.time.mono, stale := false
  reportDeadline := some (s.time.mono + (s.entry p).reportTimeout * 1000000) }

theorem applyMargin_eq (s : State) (p : Path) (margin : Int) :
    s.applyMargin p margin = ((s.modEntry p (fun _ => s.marginStored p margin)).recomputeDelay p).evaluate p := by
  have stored : s.modEntry p (fun e => { e with
      margin := some margin, reportTime := s.time.mono, stale := false
      reportDeadline := some (s.time.mono + msToNs e.reportTimeout) }) = s.modEntry p (fun _ => s.marginStored p margin) := modEntry_congr rfl
  rw [← stored]
  rfl

theorem applyMargin_setResult (u : State) (port : Port) (p : Path) (margin : Int) :
    (u.applyMargin p margin).setResult port .ok = (u.setResult port .ok).applyMargin p margin := by
  rw [applyMargin_eq, applyMargin_eq, formedEvaluate_setResult]
  rfl

theorem applyMargin_answered (s : State) (port : Port) (p : Path) (margin : Int) :
    (s.answered port .ok).applyMargin p margin = s.entryTaken port p (s.marginStored p margin) := by
  rw [applyMargin_eq]
  rfl

/-- What one margin entry leaves. -/
theorem entryTaken_posted {margin : Int} (ordered : (s.entry p).bank.ordered = true) :
    let stored := s.marginStored p margin
    let t := s.entryTaken port p stored
    stored.evaluatedFrom (t.entry p) ∧ (t.entry p).effDelay = (t.entry p).formDelay p
      ∧ (s.inContact p → ((t.entry p).state, (t.entry p).reason) = stored.evaluatesTo p s.mono
          ∧ ((t.entry p).state = .failed → (s.entry p).state ≠ .failed → (t.transmitter p).queue = []
              ∧ s.pathFailed t p { stored with effDelay := stored.formDelay p } .margin)
          ∧ ((t.entry p).state = .recovering → (s.entry p).state = .failed →
              (t.entry p).holdDeadline = some (s.mono + (s.entry p).recoverHold * 1000000)))
      ∧ ((s.entry p).state = .disabled → (t.entry p).state = .disabled)
      ∧ (t.port port).lastResult = .ok ∧ s.entriesBut t p ∧ s.sameParameters t ∧ s.routeOnly t := by
  intro stored t
  have order : stored.inOrder p := PathEntry.inOrder_of_ordered ordered
  obtain ⟨moved, formed, settled, others⟩ := State.entryTaken_evaluated (s := s) (port := port) (p := p) (e := stored) rfl rfl order
  refine ⟨moved, formed, fun contact => ⟨(settled contact).1, (settled contact).2, fun recovering failed => ?_⟩, fun disabled => ?_, others⟩
  · obtain ⟨-, -, entered⟩ := entryTaken_settles (s := s) (port := port) (p := p) (e := stored) contact rfl order
    have was : stored.state = .failed := failed
    have hold := (entered (by rw [was]; exact fun same => by rw [recovering] at same; cases same)).2
    rw [if_pos recovering] at hold
    exact hold
  · have entry := s.entryFormed_entry port p stored p
    rw [if_pos rfl] at entry
    have stays : t = s.entryFormed port p stored := evaluate_stays (transition_disabled (by rw [entry]; exact disabled))
    rw [stays, entry]
    exact disabled

end State

/-- Settles O36: one entry is stored and its path evaluated; a batch is so applied entry by entry, or refused whole. -/
theorem marginsPosted : Obligations.MarginsPosted := by
  refine ⟨fun s port p b m ready role named radio ordered => ?_, fun s port entries ready role some' radio => ?_,
    fun s port entries ready role bad => ?_⟩
  · have right : Role.supervises (s.port port).role = true := Role.supervises_iff.mpr role
    have args : postMarginArgs [b, m] = some [⟨p.idx.val, m.toInt⟩] := by
      rw [← named]
      rfl
    have resolved : resolveEntries [⟨p.idx.val, m.toInt⟩] = some [(p, m.toInt)] :=
      resolveEntries_radio (fun e : Path × Int => e.1) (fun e => e.2) (entries := [(p, m.toInt)]) (by simpa using radio)
    have taken := State.command_answered (take := fun entries t => t.postMargin entries) (g := fun u => u.applyMargin p m.toInt) ready right
      (State.postMargin_some resolved) (fun u => u.applyMargin_setResult port p m.toInt)
    rw [exec_postMargin, args, taken, State.applyMargin_answered]
    exact ⟨_, rfl, State.entryTaken_posted ordered⟩
  · have right : Role.supervises (s.port port).role = true := Role.supervises_iff.mpr role
    have codes : (entries.drop (entries.length - 8)).map (fun e => (⟨(BitVec.ofNat 8 e.1.idx.val).toNat, e.2.toInt⟩ : MarginEntry))
        = (entries.drop (entries.length - 8)).map (fun e => ⟨e.1.idx.val, e.2.toInt⟩) := by
      refine List.map_congr_left fun e _ => ?_
      have small : (BitVec.ofNat 8 e.1.idx.val).toNat = e.1.idx.val := by
        rw [BitVec.toNat_ofNat]
        exact Nat.mod_eq_of_lt (Nat.lt_of_lt_of_le e.1.idx.isLt (by decide))
      rw [small]
    have resolved := resolveEntries_radio (fun e : Path × Byte => e.1) (fun e => e.2.toInt) radio
    have folded : ((entries.drop (entries.length - 8)).map (fun e => (e.1, e.2.toInt))).foldl (fun u e => u.applyMargin e.1 e.2) (s.beginTransaction port)
        = (entries.drop (entries.length - 8)).foldl (fun u e => u.applyMargin e.1 e.2.toInt) (s.beginTransaction port) := List.foldl_map
    rw [exec_postMargin, postMarginArgs_flatMap (fun e : Path × Byte => BitVec.ofNat 8 e.1.idx.val) (fun e => e.2) some', codes]
    refine congrArg _ ((s.command_taken _ port _ _ (fun entries t => t.postMargin entries) ready right (State.postMargin_some resolved)).trans ?_)
    rw [folded]
  · have right : Role.supervises (s.port port).role = true := Role.supervises_iff.mpr role
    obtain ⟨e, mem, above⟩ := bad
    have some' : entries ≠ [] := by
      rintro rfl
      cases mem
    rw [exec_postMargin, postMarginArgs_flatMap (fun e : Byte × Byte => e.1) (fun e => e.2) some']
    refine congrArg _ (s.command_refused port _ _ _ .argument ready right (State.postMargin_none (resolveEntries_bad ?_)))
    exact ⟨_, List.mem_map_of_mem mem, above⟩

end Sys2Proof.Machine

/-! ENABLE PATH, and O28. -/

namespace Sys2Proof.Machine

theorem exec_enablePath (port : Port) (b : Byte) (s : State) : exec (.enablePath port [b]) s
    = .next (s.command port (some b.toNat) Role.supervises (fun index t => t.enablePath (t.port port).role index)) := rfl

namespace State
variable {s : State} {port : Port} {p : Path}

theorem enablePath_above {role : Role} {n : Nat} (above : 4 < n) : s.enablePath role n = .error .argument := by
  unfold State.enablePath
  rw [Path.ofIndex_eq_none above]

theorem enablePath_idx {role : Role} {n : Nat} (named : n = p.idx.val) (free : s.lockBinds role p = false) :
    s.enablePath role n = if (s.entry p).state = .disabled then .ok (s.enable p) else .ok s := by
  unfold State.enablePath
  rw [named, Path.ofIndex_idx]
  dsimp only
  rw [free, if_neg Bool.false_ne_true]

/-! ## The transmitter of a path put into service -/

theorem reEvaluate_probe {q : Path} (empty : (s.transmitter q).probe = none) : (s.reEvaluate.transmitter q).probe = none := by
  have same : s.reEvaluate.transmitter q = (s.afterLoss (s.losesPrimary s.paths)).transmitter q :=
    congrArg (fun l : Vector Transmitter 5 => l[q.idx]) s.reEvaluate_afterLoss.2
  have withdrawn : (s.abandonProbe.transmitter q).probe = none := by
    rw [s.abandonProbe_transmitter]
    split
    · rfl
    · exact empty
  rw [same]
  cases s.losesPrimary s.paths with
  | false => rw [afterLoss_kept]; exact empty
  | true =>
    rw [afterLoss_lost]
    unfold State.fallbackReport
    dsimp only
    split
    · exact empty
    · split
      · exact withdrawn
      · exact empty
      · exact empty

theorem setLocalState_probe {new : LocalState} (out : new = .failed ∨ new = .disabled) (reason : Reason)
    (elsewhere : s.sounding.current ≠ some p) (empty : (s.transmitter p).probe = none) :
    ((s.setLocalState p new reason).transmitter p).probe = none := by
  have before : ((s.stateNoted p new reason).transmitter p).probe = none := by
    unfold State.transmitter
    rw [(s.stateNoted_same p new reason).2.1]
    exact empty
  have after := reEvaluate_probe before
  rcases s.setLocalState_cases p reason out with ⟨here, -⟩ | ⟨-, is⟩
  · exact absurd here elsewhere
  · rw [is, stateReported_eq s p reason out, State.modTransmitter_transmitter_self]
    rcases out with rfl | rfl <;> exact after

theorem arbitrate_queue (empty : (s.transmitter p).queue = []) : ((s.arbitrate p).transmitter p).queue = [] := by
  have arbitrated := s.arbitrate_arbitrated p
  generalize s.arbitrate p = t at arbitrated
  cases arbitrated with
  | busy | disabled | nothing => exact empty
  | echo =>
    rw [State.modTransmitter_transmitter_self]
    exact empty
  | probe =>
    rw [State.modSounding_transmitter, State.modTransmitter_transmitter_self]
    exact empty
  | beacon =>
    rw [State.modTransmitter_transmitter_self]
    exact empty
  | data _ _ _ _ ready =>
    rw [empty] at ready
    cases ready

/-! ## What ENABLE PATH leaves -/

/-- The state of a path put into service, before the arbiter runs. -/
def enabled (s : State) (p : Path) : State :=
  (((s.setLocalState p .failed .starting).modEntry p (fun e =>
    { e with window := some ⟨s.time.mono, s.time.mono + msToNs e.windowLength, 0⟩ })).modReceiver p
    (fun r => { r with silence := .expired })).modTransmitter p (fun t => { t with beacon := .ended })

theorem enable_eq (s : State) (p : Path) : s.enable p = (s.enabled p).arbitrate p := rfl

theorem enable_setResult (u : State) (port : Port) (p : Path) : (u.enable p).setResult port .ok = (u.setResult port .ok).enable p := by
  unfold State.enable
  dsimp only
  rw [setLocalState_setResult, ← arbitrate_setResult]
  rfl

/-- The entry of a path put into service, when no burst is on it. -/
def enabledEntry (s : State) (p : Path) : PathEntry := { s.entry p with
  state := .failed, reason := .starting, entered := s.time.mono, holdDeadline := none
  window := some ⟨s.time.mono, s.time.mono + (s.entry p).windowLength * 1000000, 0⟩
  stats := { (s.entry p).stats with
    flushDrops := min 4294967295 ((s.entry p).stats.flushDrops + (s.transmitter p).queue.length) } }

theorem enabled_entry (elsewhere : s.sounding.current ≠ some p) (q : Path) :
    (s.enabled p).entry q = if q = p then s.enabledEntry p else s.entry q := by
  have moved := State.modEntry_entry (s.setLocalState p .failed .starting) p
    (fun e => { e with window := some ⟨s.time.mono, s.time.mono + msToNs e.windowLength, 0⟩ }) q
  have is : (s.enabled p).entry q = ((s.setLocalState p .failed .starting).modEntry p
    (fun e => { e with window := some ⟨s.time.mono, s.time.mono + msToNs e.windowLength, 0⟩ })).entry q := rfl
  have entry (q : Path) := s.setLocalState_entry p .starting (new := .failed) (.inl rfl) q
  have taken : s.takenEntry p .starting .failed
      = ((s.entry p).enter .failed .starting s.time.mono).flushed (s.transmitter p).queue.length := if_neg elsewhere
  rw [is, moved, entry, entry, if_pos rfl, taken]
  by_cases here : q = p
  · rw [if_pos here, if_pos here]
    rfl
  · rw [if_neg here, if_neg here, if_neg here]

theorem enabled_transmitter (s : State) (p : Path) : (s.enabled p).transmitter p
    = { (s.setLocalState p .failed .starting).transmitter p with beacon := .ended } :=
  State.modTransmitter_transmitter_self (((s.setLocalState p .failed .starting).modEntry p (fun e =>
    { e with window := some ⟨s.time.mono, s.time.mono + msToNs e.windowLength, 0⟩ })).modReceiver p
    (fun r => { r with silence := .expired })) p (fun t => { t with beacon := .ended })

theorem enabled_receiver (s : State) (p q : Path) : (s.enabled p).receiver q
    = if q = p then { s.receiver p with silence := .expired } else s.receiver q := by
  have receivers := (s.setLocalState_same p .failed .starting).2
  have receiver (q : Path) : (s.setLocalState p .failed .starting).receiver q = s.receiver q :=
    congrArg (fun l : Vector Receiver 5 => l[q.idx]) receivers
  have moved := State.modReceiver_receiver ((s.setLocalState p .failed .starting).modEntry p (fun e =>
    { e with window := some ⟨s.time.mono, s.time.mono + msToNs e.windowLength, 0⟩ })) p (fun r => { r with silence := .expired }) q
  refine Eq.trans ?_ (moved.trans ?_)
  · rfl
  · rw [State.modEntry_receiver, State.modEntry_receiver, receiver, receiver]

/-- Between the states the route and p's receiver alone may differ. -/
theorem enabled_frame (s : State) (p : Path) : s.enabled p = { s with
      paths := (s.enabled p).paths, receivers := (s.enabled p).receivers, transmitters := (s.enabled p).transmitters
      selector := (s.enabled p).selector, sounding := (s.enabled p).sounding, log := (s.enabled p).log, ports := (s.enabled p).ports } := by
  have route := (State.setLocalState_routed s p .failed .starting).1
  unfold enabled
  generalize s.setLocalState p .failed .starting = v at route
  rw [route]
  rfl

theorem enabled_raised (s : State) (p : Path) : s.portsRaised (s.enabled p) ∧ s.sameParameters (s.enabled p) := by
  have routed := State.setLocalState_routed s p .failed .starting
  exact ⟨State.portsRaised_trans routed.2.2 (State.portsRaised_of_ports rfl),
    State.sameParameters_trans routed.2.1 (State.sameParameters_of_selector rfl)⟩

theorem enabled_has (s : State) (p : Path) (q : Port) : AttnSet.has ((s.enabled p).port q).pending .path = true :=
  s.setLocalState_has p (new := .failed) .starting q

/-- The first frame of a path put into service is a beacon when nothing else was waiting. -/
theorem enable_beacon (elsewhere : s.sounding.current ≠ some p) (idle : (s.transmitter p).inProgress = none)
    (noEcho : (s.transmitter p).echo = none) (noProbe : (s.transmitter p).probe = none) :
    ((s.enable p).transmitter p).inProgress = some ⟨⟨s.siteId, BitVec.ofNat 4 p.idx.val, .failed, s.time.quality,
      .beacon s.time.tod⟩, false⟩ := by
  obtain ⟨⟨k, stopped⟩, -⟩ := s.setLocalState_transmitter p .starting (new := .failed) (.inl rfl)
  have probe := setLocalState_probe (new := .failed) (.inl rfl) .starting elsewhere noProbe
  have transmitter := s.enabled_transmitter p
  rw [stopped] at probe transmitter
  obtain rfl : k = none := probe
  have entry := enabled_entry elsewhere p
  rw [if_pos rfl] at entry
  have starts := State.arbitrate_of_beacon (s := s.enabled p) (p := p) (by rw [transmitter]; exact idle)
    (by rw [entry]; exact fun same => by cases same) (by rw [transmitter]; exact noEcho) (by rw [transmitter]) (by rw [transmitter]; rfl)
    (by rw [transmitter])
  have head : (s.enabled p).startFrame p (.beacon (s.enabled p).time.tod)
      = some ⟨⟨s.siteId, BitVec.ofNat 4 p.idx.val, .failed, s.time.quality, .beacon s.time.tod⟩, false⟩ := by
    unfold State.startFrame State.fillHead
    rw [entry, s.enabled_frame p]
    rfl
  rw [enable_eq, starts, State.modTransmitter_transmitter_self, head]

end State

/-- Settles O28: a DISABLED path becomes FAILED, STARTING, and an idle transmitter sends a beacon at once. -/
theorem enablePathTaken : Obligations.EnablePathTaken := by
  refine ⟨fun s port b ready role above => ?_, fun s port p b ready may named => ?_⟩
  · have right : Role.supervises (s.port port).role = true := Role.supervises_iff.mpr role.symm
    exact congrArg _ (s.command_refused port _ _ _ .argument ready right (State.enablePath_above above))
  have right : Role.supervises (s.port port).role = true := Role.supervises_iff.mpr (may.elim .inr fun h => .inl h.1)
  have role : ((s.beginTransaction port).port port).role = (s.port port).role := by rw [State.beginTransaction_port]
  have takes := State.enablePath_idx (s := s.beginTransaction port) (role := ((s.beginTransaction port).port port).role) named
    (State.lockBinds_free (by rw [role]; exact may))
  rw [exec_enablePath]
  refine ⟨fun inService => ?_, fun disabled elsewhere => ?_⟩
  · exact congrArg _ (State.command_answered (g := id) ready right (takes.trans (if_neg inService)) (fun u => rfl))
  have taken := State.command_answered (a := b.toNat) (take := fun index t => t.enablePath (t.port port).role index)
    (g := fun u => u.enable p) ready right (takes.trans (if_pos disabled)) (fun u => u.enable_setResult port p)
  rw [taken]
  obtain ⟨frame, -⟩ := ((s.answered port .ok).enabled p).arbitrate_frame p
  rw [← State.enable_eq] at frame
  have paths : ((s.answered port .ok).enable p).paths = ((s.answered port .ok).enabled p).paths := by rw [frame]
  have receivers : ((s.answered port .ok).enable p).receivers = ((s.answered port .ok).enabled p).receivers := by rw [frame]
  have ports : ((s.answered port .ok).enable p).ports = ((s.answered port .ok).enabled p).ports := by rw [frame]
  have entry (q : Path) : ((s.answered port .ok).enable p).entry q = if q = p then s.enabledEntry p else s.entry q :=
    (congrArg (fun l : Vector PathEntry 5 => l[q.idx]) paths).trans (State.enabled_entry (s := s.answered port .ok) elsewhere q)
  have receiver (q : Path) := (congrArg (fun l : Vector Receiver 5 => l[q.idx]) receivers).trans ((s.answered port .ok).enabled_receiver p q)
  have context (q : Port) : ((s.answered port .ok).enable p).port q = ((s.answered port .ok).enabled p).port q :=
    congrArg (fun l : Vector PortCtx 3 => l[q.idx]) ports
  obtain ⟨raised, parameters⟩ := (s.answered port .ok).enabled_raised p
  have selector : ((s.answered port .ok).enable p).selector = ((s.answered port .ok).enabled p).selector := by rw [frame]
  obtain ⟨⟨k, stopped⟩, -⟩ := (s.answered port .ok).setLocalState_transmitter p .starting (new := .failed) (.inl rfl)
  have empty : (((s.answered port .ok).enabled p).transmitter p).queue = [] := by
    rw [State.enabled_transmitter, stopped]
    rfl
  refine ⟨_, rfl, (entry p).trans (if_pos rfl), ?_, State.arbitrate_queue empty, State.enable_beacon (s := s.answered port .ok) elsewhere, ?_,
    fun q => ?_, fun q other => (entry q).trans (if_neg other), ?_, fun q other => (receiver q).trans (if_neg other), ?_⟩
  · exact congrArg Receiver.silence ((receiver p).trans (if_pos rfl))
  · rw [context]
    exact (State.portsRaised.lastResult raised port).trans (s.answered_lastResult port .ok)
  · rw [context]
    exact (s.answered port .ok).enabled_has p q
  · exact State.sameParameters_trans parameters (State.sameParameters_of_selector selector)
  · have base := (s.answered port .ok).enabled_frame p
    generalize (s.answered port .ok).enabled p = v at frame base
    rw [frame, base]
    rfl

end Sys2Proof.Machine

/-! A burst's end said of a later state, and a path disabled (R41, R151). -/

namespace Sys2Proof.Machine
namespace State

/-- Between two states only the entries, the receivers and the selector differ, and of the entries neither state nor D. -/
structure Later (t t' : State) : Prop where
  frame : t' = { t with paths := t'.paths, receivers := t'.receivers, selector := t'.selector }
  state : ∀ q, (t'.entry q).state = (t.entry q).state
  delay : ∀ q, (t'.entry q).delay = (t.entry q).delay

/-- The same with the same entries, receivers and selector put into both. -/
def moveTo (w t' : State) : State := { w with paths := t'.paths, receivers := t'.receivers, selector := t'.selector }

theorem probeIssued_later {w t t' : State} {p : Path} (issued : w.probeIssued t p) (later : t.Later t') :
    (w.moveTo t').probeIssued t' p := by
  obtain ⟨waits, starts, echoFirst, others, frame⟩ := issued
  have paths : w.paths = t.paths := by rw [frame]
  have state : ((w.moveTo t').entry p).state = (w.entry p).state := by
    refine (later.state p).trans ?_
    unfold State.entry
    rw [paths]
  have sounding : t'.sounding = t.sounding := by rw [later.frame]
  have transmitters : t'.transmitters = t.transmitters := by rw [later.frame]
  have transmitter (q : Path) : t'.transmitter q = t.transmitter q := congrArg (fun l : Vector Transmitter 5 => l[q.idx]) transmitters
  refine ⟨?_, ?_, ?_, fun q other => ?_, ?_⟩
  · rw [state, sounding, transmitter]
    exact waits
  · rw [state, sounding, transmitter]
    exact starts
  · rw [state, sounding, transmitter]
    exact echoFirst
  · rw [transmitter]
    exact others q other
  · have tail := later.frame
    rw [frame] at tail
    rw [sounding, transmitters]
    exact tail

theorem turnTaken_later {w t t' : State} (taken : w.turnTaken t) (later : t.Later t') : (w.moveTo t').turnTaken t' := by
  obtain ⟨serial, records, begun, ended, raised, frame⟩ := taken
  have paths : w.paths = t.paths := by rw [frame]
  have entry (q : Path) : w.entry q = t.entry q := by
    unfold State.entry
    rw [paths]
  have out : (w.moveTo t').outOfService = w.outOfService := by
    funext q
    unfold State.outOfService
    rw [entry q]
    exact congrArg (fun x : LocalState => x == .disabled || x == .failed) (later.state q)
  have skips : (w.moveTo t').skippedTurns = w.skippedTurns := skippedTurns_congr rfl out
  have turn : (w.moveTo t').turnPath = w.turnPath := turnPath_congr rfl out
  have sounding : t'.sounding = t.sounding := by rw [later.frame]
  have transmitters : t'.transmitters = t.transmitters := by rw [later.frame]
  have log : t'.log = t.log := by rw [later.frame]
  have ports : t'.ports = t.ports := by rw [later.frame]
  have port (q : Port) : t'.port q = t.port q := congrArg (fun l : Vector PortCtx 3 => l[q.idx]) ports
  refine ⟨?_, fun early k q here => ?_, fun p chosen => ?_, fun none' => ?_, ?_, ?_⟩
  · rw [log, skips]
    exact serial
  · have delay : ((w.moveTo t').entry q).delay = (w.entry q).delay := by
      rw [entry q]
      exact later.delay q
    rw [skips] at here
    rw [log, delay]
    exact records early k q here
  · rw [turn] at chosen
    obtain ⟨left, issued⟩ := begun p chosen
    have moved := probeIssued_later issued later
    rw [log, ports, sounding]
    exact ⟨left, moved⟩
  · rw [turn] at none'
    obtain ⟨sounding', transmitters', sweep⟩ := ended none'
    refine ⟨sounding.trans sounding', transmitters.trans transmitters', fun q => ?_⟩
    rw [port]
    exact sweep q
  · intro q
    rw [port]
    exact raised q
  · have tail := later.frame
    rw [frame] at tail
    rw [sounding, transmitters, log, ports]
    exact tail

theorem burstOver_later {s t t' : State} {p : Path} {result : BurstResult} (h : s.burstOver t p result) (later : t.Later t') :
    s.burstOver t' p result := by
  rw [burstOver_eq] at h ⊢
  have sounding : t'.sounding = t.sounding := by rw [later.frame]
  have transmitters : t'.transmitters = t.transmitters := by rw [later.frame]
  have log : t'.log = t.log := by rw [later.frame]
  have out : (s.overNow t').outOfService = (s.overNow t).outOfService := by
    funext q
    exact congrArg (fun x : LocalState => x == .disabled || x == .failed) (later.state q)
  have skips : (s.overNow t').skippedTurns = (s.overNow t).skippedTurns := skippedTurns_congr rfl out
  rw [skips]
  obtain ⟨record, waits, goes⟩ := h
  refine ⟨?_, ?_, fun on => ?_⟩
  · rw [log, later.delay]
    exact record
  · rw [sounding, transmitters]
    exact waits
  · have moved := turnTaken_later (goes on) later
    have base : State.moveTo { s.overNow t with
        log := { t.log with
          records := t.log.records.take (t.log.records.length - (if s.sounding.state = .running then (s.overNow t).skippedTurns.length else 0))
          next := t.log.next - BitVec.ofNat 32 (if s.sounding.state = .running then (s.overNow t).skippedTurns.length else 0) } } t'
      = { s.overNow t' with
        log := { t.log with
          records := t.log.records.take (t.log.records.length - (if s.sounding.state = .running then (s.overNow t).skippedTurns.length else 0))
          next := t.log.next - BitVec.ofNat 32 (if s.sounding.state = .running then (s.overNow t).skippedTurns.length else 0) } } := by
      unfold overNow
      rw [later.frame]
      rfl
    rw [log]
    rw [← base]
    exact moved

theorem sweepLeft_later {s t t' : State} {p : Path} {result : BurstResult} {stop : Transmitter → Transmitter}
    (h : s.sweepLeft t p result stop) (later : t.Later t') (eligible : ∀ q, (t'.entry q).eligible q = (t.entry q).eligible q) :
    s.sweepLeft t' p result stop := by
  have loses : s.losesPrimary t'.paths = s.losesPrimary t.paths := losesPrimary_congr rfl rfl (funext eligible)
  have sounding : t'.sounding = t.sounding := by rw [later.frame]
  have transmitters : t'.transmitters = t.transmitters := by rw [later.frame]
  obtain ⟨burst, elsewhere⟩ := h
  unfold State.sweepLeft
  dsimp only
  rw [loses, sounding, transmitters]
  exact ⟨fun here => burstOver_later (burst here) later, elsewhere⟩

end State
end Sys2Proof.Machine

/-! DISABLE PATH, and O29. -/

namespace Sys2Proof.Machine

theorem exec_disablePath (port : Port) (b : Byte) (s : State) : exec (.disablePath port [b]) s
    = .next (s.command port (some b.toNat) Role.supervises (fun index t => t.disablePath (t.port port).role index)) := rfl

theorem PathEntry.promotable_out {e : PathEntry} {p : Path} (out : e.state = .failed ∨ e.state = .disabled) : e.promotable p = false := by
  unfold PathEntry.promotable
  rcases out with state | state <;> rw [state] <;> split <;> rfl

namespace State
variable {s : State} {port : Port} {p : Path}

theorem disablePath_above {role : Role} {n : Nat} (above : 4 < n) : s.disablePath role n = .error .argument := by
  unfold State.disablePath
  rw [Path.ofIndex_eq_none above]

theorem disablePath_idx {role : Role} {n : Nat} (named : n = p.idx.val) (free : s.lockBinds role p = false) :
    s.disablePath role n = if (s.entry p).state = .disabled then .ok s else .ok (s.disable p) := by
  unfold State.disablePath
  rw [named, Path.ofIndex_idx]
  dsimp only
  rw [free, if_neg Bool.false_ne_true]

/-! ## The path after its change of state -/

/-- The path DISABLED with the reports of that. -/
def stateDisabled (s : State) (p : Path) : State := s.setLocalState p .disabled .operator

/-- The entry of a path that is DISABLED: a burst on it, aborted, moves nothing. -/
def disabledEntry (s : State) (p : Path) : PathEntry :=
  ((s.entry p).enter .disabled .operator s.time.mono).flushed (s.transmitter p).queue.length

theorem stateDisabled_entry (s : State) (p q : Path) : (s.stateDisabled p).entry q = if q = p then s.disabledEntry p else s.entry q := by
  have aborted : s.takenEntry p .operator .disabled = s.disabledEntry p := by
    unfold takenEntry
    dsimp only
    split <;> rfl
  rw [← aborted]
  exact s.setLocalState_entry p .operator (new := .disabled) (.inr rfl) q

/-- The end of a burst that is aborted leaves the selector. -/
theorem endBurst_aborted_selector (s : State) (p : Path) : (s.endBurst p .aborted).selector = s.selector := by
  have noted : (s.burstNoted p .aborted).selector = s.selector := by
    have frame := State.soundNoted_frame s p .aborted s.sounding false
    have is : s.burstNoted p .aborted = s.soundNoted p .aborted s.sounding false := rfl
    rw [is, frame]
  rw [endBurst_noted, ← noted]
  rcases (s.burstNoted p .aborted).afterSound_cases with ⟨-, taken, -⟩ | ⟨-, -, same⟩
  · rw [taken.2.2.2.2.2]
  · rw [same]

theorem stateDisabled_selector (s : State) (p : Path) :
    (s.stateDisabled p).selector = (s.stateNoted p .disabled .operator).reEvaluate.selector := by
  have reported : (s.stateReported p .disabled .operator).selector = (s.stateNoted p .disabled .operator).reEvaluate.selector := rfl
  rw [← reported]
  rcases s.setLocalState_cases p .operator (new := .disabled) (.inr rfl) with ⟨-, is⟩ | ⟨-, is⟩
  · have aborted : s.stateDisabled p = (s.burstLeft p .operator .disabled).endBurst p .aborted := is
    rw [aborted, endBurst_aborted_selector]
    unfold burstLeft
    rw [abandonProbe_frame]
  · exact congrArg State.selector is

/-- What the Route Selector sees of the entries is settled by the change of state. -/
theorem stateDisabled_stable (s : State) (p : Path) : (s.stateDisabled p).Stable := by
  have stable := (s.stateNoted p .disabled .operator).reEvaluate_stable
  have selector := s.stateDisabled_selector p
  have entry (q : Path) : (s.stateNoted p .disabled .operator).reEvaluate.entry q
      = if q = p then (s.entry p).enter .disabled .operator s.time.mono else s.entry q :=
    (congrArg (fun l : Vector PathEntry 5 => l[q.idx]) (s.stateNoted p .disabled .operator).reEvaluate_paths).trans
      (s.stateNoted_entry p .disabled .operator q)
  refine stable.congr (by rw [selector]) (by rw [selector]) (by rw [selector]) ?_ ?_ ?_
  · funext q
    unfold State.eligible
    rw [entry, stateDisabled_entry]
    split <;> rfl
  · funext q
    unfold State.promotable
    rw [entry, stateDisabled_entry]
    split <;> rfl
  · funext q
    unfold State.effDelay
    rw [entry, stateDisabled_entry]
    split <;> rfl

/-! ## The far state forgotten -/

/-- The far state UNKNOWN, before a report of it. -/
def farForgotten (s : State) (p : Path) : State :=
  (s.stateDisabled p).modEntry p (fun e => { e with farState := none, farQuality := none })

theorem farForgotten_entry (s : State) (p q : Path) : (s.farForgotten p).entry q
    = if q = p then { s.disabledEntry p with farState := none, farQuality := none } else s.entry q := by
  have moved := State.modEntry_entry (s.stateDisabled p) p (fun e => { e with farState := none, farQuality := none }) q
  refine moved.trans ?_
  rw [stateDisabled_entry, stateDisabled_entry, if_pos rfl]
  by_cases here : q = p
  · rw [if_pos here, if_pos here]
  · rw [if_neg here, if_neg here, if_neg here]

theorem farForgotten_stable (s : State) (p : Path) : (s.farForgotten p).Stable := by
  refine (s.stateDisabled_stable p).congr rfl rfl rfl ?_ ?_ ?_
  · funext q
    unfold State.eligible
    rw [farForgotten_entry, stateDisabled_entry]
    split
    · rw [PathEntry.eligible_out (.inr rfl), PathEntry.eligible_out (.inr rfl)]
    · rfl
  · funext q
    unfold State.promotable
    rw [farForgotten_entry, stateDisabled_entry]
    split
    · rw [PathEntry.promotable_out (.inr rfl), PathEntry.promotable_out (.inr rfl)]
    · rfl
  · funext q
    unfold State.effDelay
    rw [farForgotten_entry, stateDisabled_entry]
    split <;> rfl

/-- The report of the far state finds the selection settled: no record, nothing for the sweep. -/
theorem setFar_disabled (s : State) (p : Path) : let w := (s.stateDisabled p).setFar p none none
    w.paths = (s.farForgotten p).paths ∧ w = { s.stateDisabled p with paths := w.paths, selector := w.selector }
      ∧ (s.stateDisabled p).sameParameters w := by
  intro w
  have cases' : w = s.farForgotten p ∨ w = (s.farForgotten p).reEvaluate := by
    have unfolded : w = if ((s.stateDisabled p).entry p).farState = none then s.farForgotten p else (s.farForgotten p).reEvaluate := rfl
    rw [unfolded]
    split
    · exact .inl rfl
    · exact .inr rfl
  have parameters := (State.setFar_routed (s.stateDisabled p) p none none).2.1
  refine ⟨?_, ?_, parameters⟩
  · rcases cases' with same | moved
    · rw [same]
    · rw [moved]
      exact (s.farForgotten p).reEvaluate_paths
  · rcases cases' with same | moved
    · rw [same]
      rfl
    · obtain ⟨log, ports, sounding, transmitters⟩ := (s.farForgotten_stable p).reEvaluate
      have route := (State.reEvaluate_routed (s.farForgotten p)).1
      rw [moved]
      generalize (s.farForgotten p).reEvaluate = x at log ports sounding transmitters route
      unfold State.routeOnly at route
      rw [log, ports, sounding, transmitters] at route
      exact route

/-! ## The path disabled -/

theorem disable_eq (s : State) (p : Path) : s.disable p
    = (((s.stateDisabled p).setFar p none none).modReceiver p (fun r => { r with silence := .stopped })).modEntry p
        (fun e => { e with window := none }) := rfl

theorem disable_setResult (u : State) (port : Port) (p : Path) : (u.disable p).setResult port .ok = (u.setResult port .ok).disable p := by
  unfold State.disable
  dsimp only
  rw [setLocalState_setResult, setFar_setResult]
  generalize (u.setLocalState p .disabled .operator).setFar p none none = w
  rfl

theorem disable_entry (s : State) (p q : Path) : (s.disable p).entry q
    = if q = p then { s.disabledEntry p with farState := none, farQuality := none, window := none } else s.entry q := by
  have entry (q : Path) : (((s.stateDisabled p).setFar p none none).modReceiver p (fun r => { r with silence := .stopped })).entry q
      = (s.farForgotten p).entry q := congrArg (fun l : Vector PathEntry 5 => l[q.idx]) (s.setFar_disabled p).1
  rw [disable_eq, State.modEntry_entry, entry, entry, farForgotten_entry, farForgotten_entry, if_pos rfl]
  by_cases here : q = p
  · rw [if_pos here, if_pos here]
  · rw [if_neg here, if_neg here, if_neg here]

theorem disable_frame (s : State) (p : Path) : s.disable p = { s.stateDisabled p with
    paths := (s.disable p).paths, receivers := (s.disable p).receivers, selector := (s.disable p).selector } := by
  have frame := (s.setFar_disabled p).2.1
  rw [disable_eq]
  generalize (s.stateDisabled p).setFar p none none = w at frame
  rw [frame]
  rfl

theorem disable_later (s : State) (p : Path) : (s.stateDisabled p).Later (s.disable p) := by
  refine ⟨s.disable_frame p, fun q => ?_, fun q => ?_⟩
  · rw [disable_entry, stateDisabled_entry]
    split <;> rfl
  · rw [disable_entry, stateDisabled_entry]
    split <;> rfl

theorem disable_receiver (s : State) (p q : Path) : (s.disable p).receiver q
    = if q = p then { s.receiver p with silence := .stopped } else s.receiver q := by
  have receivers : ((s.stateDisabled p).setFar p none none).receivers = s.receivers := by
    rw [(s.setFar_disabled p).2.1]
    exact (s.setLocalState_same p .disabled .operator).2
  have receiver (q : Path) : ((s.stateDisabled p).setFar p none none).receiver q = s.receiver q :=
    congrArg (fun l : Vector Receiver 5 => l[q.idx]) receivers
  rw [disable_eq, State.modEntry_receiver, State.modReceiver_receiver, receiver, receiver]

theorem disable_sweepLeft (s : State) (p : Path) :
    s.sweepLeft (s.disable p) p .aborted (fun m => { m with queue := [], echo := none, beacon := .stopped }) := by
  have left := s.setLocalState_sweepLeft p .operator (new := .disabled) (.inr rfl)
  refine sweepLeft_later left (s.disable_later p) fun q => ?_
  have before : ((s.setLocalState p .disabled .operator).entry q).eligible q = ((s.stateDisabled p).entry q).eligible q := rfl
  rw [before, disable_entry, stateDisabled_entry]
  split
  · rw [PathEntry.eligible_out (.inr rfl), PathEntry.eligible_out (.inr rfl)]
  · rfl

end State

/-- Settles O29: a path in service becomes DISABLED; a burst on it is aborted after the fallback it causes. -/
theorem disablePathTaken : Obligations.DisablePathTaken := by
  refine ⟨fun s port b ready role above => ?_, fun s port p b ready may named => ?_⟩
  · have right : Role.supervises (s.port port).role = true := Role.supervises_iff.mpr role.symm
    exact congrArg _ (s.command_refused port _ _ _ .argument ready right (State.disablePath_above above))
  have right : Role.supervises (s.port port).role = true := Role.supervises_iff.mpr (may.elim .inr fun h => .inl h.1)
  have role : ((s.beginTransaction port).port port).role = (s.port port).role := by rw [State.beginTransaction_port]
  have takes := State.disablePath_idx (s := s.beginTransaction port) (role := ((s.beginTransaction port).port port).role) named
    (State.lockBinds_free (by rw [role]; exact may))
  rw [exec_disablePath]
  refine ⟨fun disabled => ?_, fun inService => ?_⟩
  · exact congrArg _ (State.command_answered (g := id) ready right (takes.trans (if_pos disabled)) (fun u => rfl))
  have taken := State.command_answered (a := b.toNat) (take := fun index t => t.disablePath (t.port port).role index)
    (g := fun u => u.disable p) ready right (takes.trans (if_neg inService)) (fun u => u.disable_setResult port p)
  rw [taken]
  have left := (s.answered port .ok).disable_sweepLeft p
  have entry := (s.answered port .ok).disable_entry p
  have receiver := (s.answered port .ok).disable_receiver p
  have frame := (s.answered port .ok).disable_frame p
  have first := State.setLocalState_routed (s.answered port .ok) p .disabled .operator
  have path := State.setLocalState_has (s.answered port .ok) p (new := .disabled) .operator
  obtain ⟨⟨k, stopped⟩, elsewhere⟩ := (s.answered port .ok).setLocalState_transmitter p .operator (new := .disabled) (.inr rfl)
  obtain ⟨l, few, logged, -⟩ := (s.answered port .ok).setLocalState_logged p .operator (new := .disabled) (.inr rfl)
  have far := ((s.answered port .ok).setFar_disabled p).2.2
  have selector : ((s.answered port .ok).disable p).selector = (((s.answered port .ok).stateDisabled p).setFar p none none).selector := rfl
  have is : (s.answered port .ok).setLocalState p .disabled .operator = (s.answered port .ok).stateDisabled p := rfl
  rw [is] at first path stopped elsewhere logged
  generalize (s.answered port .ok).disable p = t at *
  have transmitters : t.transmitters = ((s.answered port .ok).stateDisabled p).transmitters := by rw [frame]
  have transmitter : t.transmitter p = { (s.transmitter p).stopped .disabled with probe := k } :=
    (congrArg (fun l : Vector Transmitter 5 => l[p.idx]) transmitters).trans stopped
  have ports : t.ports = ((s.answered port .ok).stateDisabled p).ports := by rw [frame]
  have context (q : Port) : t.port q = ((s.answered port .ok).stateDisabled p).port q := congrArg (fun l : Vector PortCtx 3 => l[q.idx]) ports
  have sounding : t.sounding = ((s.answered port .ok).stateDisabled p).sounding := by rw [frame]
  have log : t.log = ((s.answered port .ok).stateDisabled p).log := by rw [frame]
  refine ⟨_, rfl, (entry p).trans (if_pos rfl), congrArg Receiver.silence ((receiver p).trans (if_pos rfl)), ?_, ?_, ?_, ?_, ?_, left,
    fun room => ?_, ?_, fun q => ?_, fun q other => (entry q).trans (if_neg other), ?_, fun q other => (receiver q).trans (if_neg other), ?_⟩
  · rw [transmitter]
    rfl
  · rw [transmitter]
    rfl
  · rw [transmitter]
    rfl
  · rw [transmitter]
    rfl
  · rw [sounding]
    exact elsewhere
  · rw [log]
    refine logged.first ?_
    have before : (s.answered port .ok).log.records.length = s.log.records.length := rfl
    rw [before, List.length_cons]
    omega
  · rw [context]
    exact (State.portsRaised.lastResult first.2.2 port).trans (s.answered_lastResult port .ok)
  · rw [context]
    exact path q
  · refine State.sameParameters_trans first.2.1 (State.sameParameters_trans far (State.sameParameters_of_selector selector))
  · have route := first.1
    generalize (s.answered port .ok).stateDisabled p = v at frame route
    rw [frame, route]
    rfl

end Sys2Proof.Machine

/-! What a DATA frame leaves of the entries: the far state and the receive counts (R10, R56 to R60). -/

namespace Sys2Proof.Machine

/-- Two entries show the same far state and the same receive counts. -/
structure PathEntry.HeardSame (e e' : PathEntry) : Prop where
  farState : e'.farState = e.farState
  farQuality : e'.farQuality = e.farQuality
  rxValid : e'.stats.rxValid = e.stats.rxValid
  checkErrors : e'.stats.checkErrors = e.stats.checkErrors

theorem PathEntry.HeardSame.trans {e e' e'' : PathEntry} (h : e.HeardSame e') (h' : e'.HeardSame e'') : e.HeardSame e'' :=
  ⟨h'.farState.trans h.farState, h'.farQuality.trans h.farQuality, h'.rxValid.trans h.rxValid, h'.checkErrors.trans h.checkErrors⟩

theorem PathEntry.afterBurst_heard (e : PathEntry) (p : Path) (result : BurstResult) (least : Nat) :
    e.HeardSame (e.afterBurst p result least) := by
  unfold PathEntry.afterBurst
  dsimp only
  split <;> exact ⟨rfl, rfl, rfl, rfl⟩

namespace State

/-- Between two states every entry shows the same of what the receivers reported. -/
def HeardSame (s t : State) : Prop := ∀ q, (s.entry q).HeardSame (t.entry q)

variable {s t u : State}

theorem HeardSame.refl (s : State) : s.HeardSame s := fun _ => ⟨rfl, rfl, rfl, rfl⟩

theorem HeardSame.trans (h : s.HeardSame t) (h' : t.HeardSame u) : s.HeardSame u := fun q => (h q).trans (h' q)

theorem HeardSame.of_paths (same : t.paths = s.paths) : s.HeardSame t := fun q => by
  have entry : t.entry q = s.entry q := congrArg (fun l : Vector PathEntry 5 => l[q.idx]) same
  rw [entry]
  exact ⟨rfl, rfl, rfl, rfl⟩

theorem HeardSame.of_merge {i : StreamId} (h : State.mergeOnly i s t) : s.HeardSame t := .of_paths (by rw [h.1])

theorem heardSame_modEntry (s : State) (p : Path) (g : PathEntry → PathEntry) (kept : (s.entry p).HeardSame (g (s.entry p))) :
    s.HeardSame (s.modEntry p g) := fun q => by
  rw [State.modEntry_entry]
  split
  · subst q
    exact kept
  · exact ⟨rfl, rfl, rfl, rfl⟩

theorem heardSame_modStats (s : State) (p : Path) (g : Stats → Stats) (rxValid : (g (s.entry p).stats).rxValid = (s.entry p).stats.rxValid)
    (checkErrors : (g (s.entry p).stats).checkErrors = (s.entry p).stats.checkErrors) : s.HeardSame (s.modStats p g) :=
  s.heardSame_modEntry p (fun e => { e with stats := g e.stats }) ⟨rfl, rfl, rxValid, checkErrors⟩

/-- A step that leaves the entries, then one of another statistic. -/
theorem HeardSame.then_modStats (m : State) (p : Path) (g : Stats → Stats) (same : m.paths = s.paths)
    (rxValid : ∀ x, (g x).rxValid = x.rxValid) (checkErrors : ∀ x, (g x).checkErrors = x.checkErrors) : s.HeardSame (m.modStats p g) :=
  (HeardSame.of_paths same).trans (m.heardSame_modStats p g (rxValid _) (checkErrors _))

theorem heardSame_recomputeDelay (s : State) (p : Path) : s.HeardSame (s.recomputeDelay p) := by
  rcases s.recomputeDelay_eq p with same | moved
  · rw [same]
    exact .refl s
  · rw [moved]
    exact (s.heardSame_modEntry p _ ⟨rfl, rfl, rfl, rfl⟩).trans (.of_paths (State.reEvaluate_paths _))

theorem heardSame_retireReport (s : State) (mask seen : PathSet) : s.HeardSame (s.retireReport mask seen) := by
  refine foldl_rel HeardSame .refl .trans (State.retirePath mask seen) Path.all (fun u p _ => ?_) s
  unfold State.retirePath
  split
  · exact (u.heardSame_modEntry p _ ⟨rfl, rfl, rfl, rfl⟩).trans (heardSame_recomputeDelay _ p)
  · exact .refl u

theorem heardSame_firstArrival (s : State) (i : StreamId) (d : DataArrival) : s.HeardSame (s.firstArrival i d) := by
  have won : s.HeardSame ((s.modRx i (fun x => { x with accepted := inc32 x.accepted })).modStats d.path
      (fun x => { x with wins := inc32 x.wins })) :=
    HeardSame.then_modStats _ d.path _ rfl (fun _ => rfl) (fun _ => rfl)
  unfold State.firstArrival
  dsimp only
  split
  · split
    · exact won.trans (.of_merge (State.mergeOnly_trans (State.mergeOnly_trans (State.mergeOnly_trans
        (State.deliverArrival_mergeOnly _ i d _ _) (State.modRx_mergeOnly _ i _)) (State.releaseWalk_mergeOnly _ i))
        (State.settleHold_mergeOnly _ i)))
    · exact won.trans (.of_merge (State.holdArrival_mergeOnly _ i d _))
  · exact won.trans (.of_merge (State.deliverArrival_mergeOnly _ i d _ _))

/-- A step that leaves the entries, then a first arrival. -/
theorem HeardSame.then_firstArrival (m : State) (i : StreamId) (d : DataArrival) (same : m.paths = s.paths) :
    s.HeardSame (m.firstArrival i d) :=
  (HeardSame.of_paths same).trans (m.heardSame_firstArrival i d)

theorem heardSame_takeTracked (s : State) (i : StreamId) (n : Nat) (d : DataArrival) : s.HeardSame (s.takeTracked i n d) := by
  have duplicate (slot : Slot) (first : Nat) : s.HeardSame (s.duplicate i n slot first d) :=
    (HeardSame.then_modStats (s.setSlot i n (slot.see d.path)) d.path (Stats.duplicate (lagOf d.stamp.mono first)) rfl
      (fun _ => rfl) (fun _ => rfl)).trans (.of_paths rfl)
  unfold State.takeTracked
  split
  · exact s.heardSame_firstArrival i d
  · exact duplicate _ _
  · exact duplicate _ _
  · exact HeardSame.then_modStats _ d.path _ rfl (fun _ => rfl) (fun _ => rfl)
  · exact .refl s

theorem heardSame_retire (i : StreamId) (untracked : Nat) (l : List Slot) (q : Seq) (run : Nat) (s : State) :
    s.HeardSame (State.retire i untracked l q run s) := by
  induction l generalizing q run s with
  | nil => exact .of_merge (s.gapRun_mergeOnly i _ _ _)
  | cons x l ih =>
    cases x with
    | empty => exact ih _ _ _
    | held | done => exact ((HeardSame.of_merge (s.gapRun_mergeOnly i _ _ _)).trans (heardSame_retireReport _ _ _)).trans (ih _ _ _)
    | skipped => exact (HeardSame.of_merge (s.gapRun_mergeOnly i _ _ _)).trans (ih _ _ _)

theorem heardSame_advance (s : State) (i : StreamId) (d : DataArrival) : s.HeardSame (s.advance i d) := by
  have freed (n : Nat) : s.HeardSame (if (s.rxStream i).ordered then s.releaseFirst i n else s) := by
    split
    · exact .of_merge (s.releaseFirst_mergeOnly i n)
    · exact .refl s
  have walked (b : Bool) (u : State) : u.HeardSame (if b then u.releaseWalk i else u) := by
    split
    · exact .of_merge (u.releaseWalk_mergeOnly i)
    · exact .refl u
  have settled (b : Bool) (u : State) : u.HeardSame (if b then u.settleHold i else u) := by
    split
    · exact .of_merge (u.settleHold_mergeOnly i)
    · exact .refl u
  have moved (n m : Nat) (l : List Slot) (q : Seq) (u : State) (h : s.HeardSame u) :
      s.HeardSame ((State.retire i n l q 0 u).modRx i (RxStream.moveWindow d.copy.seq m)) :=
    (h.trans (heardSame_retire i n l q 0 u)).trans (.of_paths rfl)
  unfold State.advance
  exact (((moved _ _ _ _ _ (freed _)).trans (walked _ _)).trans (heardSame_firstArrival _ i d)).trans (settled _ _)

theorem heardSame_synchronize (s : State) (i : StreamId) (d : DataArrival) : s.HeardSame (s.synchronize i d) :=
  HeardSame.then_firstArrival _ i d rfl

theorem heardSame_takeData (s : State) (d : DataArrival) : s.HeardSame (s.takeData d) := by
  unfold State.takeData State.mergeCopy
  dsimp only
  split
  · exact .of_paths rfl
  · split
    · split
      · exact HeardSame.then_modStats _ d.path _ rfl (fun _ => rfl) (fun _ => rfl)
      · split
        · exact s.heardSame_takeTracked _ _ d
        · split
          · exact HeardSame.then_firstArrival _ _ d rfl
          · split
            · exact s.heardSame_advance _ d
            · exact (HeardSame.of_merge (s.resync_mergeOnly _ _ _)).trans (heardSame_synchronize _ _ d)
    · exact s.heardSame_synchronize _ d

/-! ## An ECHO taken -/

/-- Of the entries a burst that goes on moves that of its path alone. -/
theorem continueBurst_entry {p : Path} (current : s.sounding.current = some p) :
    s.entriesBut s.continueBurst p ∧ (s.entry p).HeardSame (s.continueBurst.entry p) := by
  by_cases ends : s.sounding.countCode + 1 ≤ s.sounding.probeIndex
  · rw [continueBurst_ends current ends]
    refine ⟨fun q other => by rw [endBurst_entry, if_neg other], ?_⟩
    rw [endBurst_entry, if_pos rfl]
    exact PathEntry.afterBurst_heard _ _ _ _
  · have same : s.continueBurst.paths = s.paths := by
      have more : ¬s.sounding.burstLength ≤ s.sounding.probeIndex := ends
      simp only [State.continueBurst, current, more, if_false]
      split
      · rw [issueProbe_frame]
      · rfl
    exact ⟨fun q _ => congrArg (fun l : Vector PathEntry 5 => l[q.idx]) same, HeardSame.of_paths same p⟩

theorem takeEcho_entry (s : State) (p : Path) (tag : Byte) (index residence t4 : Nat) :
    s.entriesBut (s.takeEcho p tag index residence t4) p ∧ (s.entry p).HeardSame ((s.takeEcho p tag index residence t4).entry p) := by
  by_cases fits : ∃ o, s.sounding.outstanding = some o ∧ s.sounding.current = some p ∧ s.sounding.tag = tag ∧ o.index = index
  · obtain ⟨o, out, current, tagged, named⟩ := fits
    rw [takeEcho_matches out current tagged named]
    have still := (echoJudged_sounding (s := s) (p := p) (t4 - o.t1) residence).1.trans current
    obtain ⟨others, heard⟩ := continueBurst_entry still
    have judged : s.entriesBut (s.echoJudged p (t4 - o.t1) residence) p := by
      unfold echoJudged
      split <;> exact modEntry_entriesBut _ p _
    have kept : s.HeardSame (s.echoJudged p (t4 - o.t1) residence) := by
      unfold echoJudged
      split
      · exact HeardSame.then_modStats _ p _ rfl (fun _ => rfl) (fun _ => rfl)
      · exact HeardSame.then_modStats _ p _ rfl (fun _ => rfl) (fun _ => rfl)
    exact ⟨entriesBut_trans judged others, (kept p).trans heard⟩
  · have stale := takeEcho_stale (s := s) (p := p) tag index residence t4 (fun o out => by
      by_contra all
      obtain ⟨current, rest⟩ := not_or.mp all
      obtain ⟨tagged, named⟩ := not_or.mp rest
      exact fits ⟨o, out, not_not.mp current, not_not.mp tagged, not_not.mp named⟩)
    rw [stale]
    exact ⟨fun _ _ => rfl, HeardSame.refl s p⟩

end State
end Sys2Proof.Machine

/-! A valid frame reported and passed onward, and O24. -/

namespace Sys2Proof.Machine

namespace State
variable {s : State} {p : Path}

theorem judgeFrame_valid (inService : (s.entry p).state ≠ .disabled) (stamp : Stamp) {f : PathFrame} (named : f.pathId.toNat = p.idx.val)
    (accepted : ∀ peer, s.peerSite = some peer → f.site = peer) :
    s.judgeFrame p stamp f = (s.validFrame p stamp.mono f.state f.quality).passOnward p stamp f := by
  have accepts : s.peerAccepts f.site = true := by
    unfold State.peerAccepts
    cases stored : s.peerSite with
    | none => rfl
    | some peer => exact beq_iff_eq.mpr (accepted peer stored)
  unfold State.judgeFrame
  rw [if_neg inService, if_neg (fun other => other named), if_pos accepts]

theorem setFar_entry (s : State) (p : Path) (far : Option LocalState) (quality : Option Quality) (q : Path) :
    (s.setFar p far quality).entry q
      = if q = p then { s.entry p with farState := far, farQuality := quality } else s.entry q := by
  rw [← State.modEntry_entry s p (fun e => { e with farState := far, farQuality := quality }) q]
  unfold State.setFar
  dsimp only
  split
  · rfl
  · exact congrArg (fun l : Vector PathEntry 5 => l[q.idx]) (State.reEvaluate_paths _)

/-- The timer restarted and the frame counted, before the far state (R10, R56). -/
def frameHeard (s : State) (p : Path) (arrival : Nat) : State :=
  (s.modReceiver p (fun r => { r with silence := .running (arrival + usToNs (s.entry p).silenceTimeout) })).modStats p
    (fun x => { x with rxValid := inc32 x.rxValid })

/-- The entry that a valid frame's evaluation finds. -/
def entryHeard (s : State) (p : Path) (far : LocalState) (quality : Quality) : PathEntry :=
  let e := s.entry p
  { e with
    farState := some far, farQuality := some quality
    stats := { e.stats with rxValid := min 4294967295 (e.stats.rxValid + 1) } }

/-- The state that a valid frame's evaluation finds. -/
def farHeard (s : State) (p : Path) (arrival : Nat) (far : LocalState) (quality : Quality) : State :=
  (s.frameHeard p arrival).setFar p (some far) (some quality)

theorem validFrame_eq (s : State) (p : Path) (arrival : Nat) (far : LocalState) (quality : Quality) :
    s.validFrame p arrival far quality = (s.farHeard p arrival far quality).evaluate p := rfl

theorem frameHeard_entry (s : State) (p : Path) (arrival : Nat) (q : Path) : (s.frameHeard p arrival).entry q
    = if q = p then { s.entry p with stats := { (s.entry p).stats with rxValid := min 4294967295 ((s.entry p).stats.rxValid + 1) } }
      else s.entry q :=
  State.modEntry_entry (s.modReceiver p (fun r => { r with silence := .running (arrival + usToNs (s.entry p).silenceTimeout) })) p
    (fun e => { e with stats := { e.stats with rxValid := inc32 e.stats.rxValid } }) q

theorem farHeard_entry (s : State) (p : Path) (arrival : Nat) (far : LocalState) (quality : Quality) (q : Path) :
    (s.farHeard p arrival far quality).entry q = if q = p then s.entryHeard p far quality else s.entry q := by
  unfold farHeard
  rw [setFar_entry, frameHeard_entry, frameHeard_entry, if_pos rfl]
  split <;> rfl

theorem farHeard_routed (s : State) (p : Path) (arrival : Nat) (far : LocalState) (quality : Quality) :
    (s.frameHeard p arrival).routed (s.farHeard p arrival far quality) :=
  State.setFar_routed _ p _ _

theorem validFrame_routed (s : State) (p : Path) (arrival : Nat) (far : LocalState) (quality : Quality) :
    (s.frameHeard p arrival).routed (s.validFrame p arrival far quality) :=
  State.routed_trans (s.farHeard_routed p arrival far quality) (State.evaluate_routed _ p)

theorem validFrame_receivers (s : State) (p : Path) (arrival : Nat) (far : LocalState) (quality : Quality) :
    (s.validFrame p arrival far quality).receivers = (s.frameHeard p arrival).receivers := by
  rw [(s.validFrame_routed p arrival far quality).1]

theorem frameHeard_receiver (s : State) (p : Path) (arrival : Nat) (q : Path) : (s.frameHeard p arrival).receiver q
    = if q = p then { s.receiver p with silence := .running (arrival + (s.entry p).silenceTimeout * 1000) } else s.receiver q := by
  split
  · subst q
    exact State.modReceiver_receiver_self s p (fun r => { r with silence := .running (arrival + usToNs (s.entry p).silenceTimeout) })
  · rename_i other
    exact State.modReceiver_receiver_ne s p
      (fun r => { r with silence := .running (arrival + usToNs (s.entry p).silenceTimeout) }) other

/-- A valid frame leaves everything but the route, its receiver and what a re-evaluation moves. -/
theorem validFrame_frame (s : State) (p : Path) (arrival : Nat) (far : LocalState) (quality : Quality) :
    let u := s.validFrame p arrival far quality
    u = { s with
      paths := u.paths, receivers := u.receivers, transmitters := u.transmitters, selector := u.selector
      sounding := u.sounding, log := u.log, ports := u.ports } := by
  have route := (s.validFrame_routed p arrival far quality).1
  have receivers := s.validFrame_receivers p arrival far quality
  unfold State.routeOnly at route
  generalize s.validFrame p arrival far quality = u at route receivers ⊢
  dsimp only
  rw [receivers]
  exact route

theorem validFrame_entry (s : State) (p : Path) (arrival : Nat) (far : LocalState) (quality : Quality) :
    let u := s.validFrame p arrival far quality
    (s.entryHeard p far quality).evaluatedFrom (u.entry p) ∧ s.entriesBut u p := by
  obtain ⟨moved, others⟩ := State.evaluate_from (s := s.farHeard p arrival far quality) (p := p)
  rw [farHeard_entry, if_pos rfl] at moved
  refine ⟨moved, fun q other => (others q other).trans ?_⟩
  rw [farHeard_entry, if_neg other]

theorem validFrame_settles (s : State) (p : Path) (arrival : Nat) (far : LocalState) (quality : Quality)
    (fit : (s.entry p).exhausted = false) (order : (s.entry p).inOrder p) :
    (s.entry p).settles ((s.validFrame p arrival far quality).entry p) p s.time.mono := by
  have entry := s.farHeard_entry p arrival far quality p
  rw [if_pos rfl] at entry
  have receivers : (s.farHeard p arrival far quality).receivers = (s.frameHeard p arrival).receivers := by
    rw [(s.farHeard_routed p arrival far quality).1]
  have receiver : (s.farHeard p arrival far quality).receiver p = (s.frameHeard p arrival).receiver p :=
    congrArg (fun l : Vector Receiver 5 => l[p.idx]) receivers
  have time : (s.farHeard p arrival far quality).time = s.time := by
    rw [(s.farHeard_routed p arrival far quality).1]
    rfl
  have contact : (s.farHeard p arrival far quality).inContact p := by
    unfold State.inContact
    rw [receiver, frameHeard_receiver, if_pos rfl, entry]
    exact ⟨rfl, fit⟩
  have settles := State.evaluate_settles contact (by rw [entry]; exact order)
  rw [entry, time] at settles
  exact settles

/-! ## Passed onward -/

/-- What a frame passed onward leaves: a DATA frame may move the streams, and no frame what its receiver reported. -/
structure PassedFrom (u t : State) (p : Path) : Prop where
  frame : t = { u with
    rxStreams := t.rxStreams, localPort := t.localPort, paths := t.paths, transmitters := t.transmitters
    selector := t.selector, sounding := t.sounding, log := t.log, ports := t.ports }
  parameters : u.sameParameters t
  raised : u.portsRaised t
  heard : (u.entry p).HeardSame (t.entry p)

theorem routed_localPort {u t : State} (routed : u.routed t) : t.localPort = u.localPort := by
  rw [routed.1]

theorem PassedFrom.of_routed {u t : State} (routed : u.routed t) (heard : (u.entry p).HeardSame (t.entry p)) : u.PassedFrom t p := by
  obtain ⟨route, parameters, raised⟩ := routed
  refine ⟨?_, parameters, raised, heard⟩
  unfold State.routeOnly at route
  have streams : t.rxStreams = u.rxStreams := by rw [route]
  have lane : t.localPort = u.localPort := by rw [route]
  rw [streams, lane]
  exact route

theorem echoService_routed (u : State) (p : Path) (tag : Byte) (index arrival : Nat) : u.routed (u.echoService p tag index arrival) :=
  State.routed_trans (State.modTransmitter_routed u p _) (State.arbitrate_routed _ p)

theorem echoService_paths (u : State) (p : Path) (tag : Byte) (index arrival : Nat) :
    (u.echoService p tag index arrival).paths = u.paths := by
  unfold State.echoService
  rw [(State.arbitrate_frame _ p).1]
  rfl

theorem passOnward_data (u : State) (p : Path) (stamp : Stamp) {f : PathFrame} {c : DataCopy} (body : f.body = .data c) :
    u.passOnward p stamp f = u.takeData ⟨c, f.quality, p, stamp⟩ := by
  simp only [State.passOnward, body]

theorem passOnward_beacon (u : State) (p : Path) (stamp : Stamp) {f : PathFrame} {tod : Tod} (body : f.body = .beacon tod) :
    u.passOnward p stamp f = u := by
  simp only [State.passOnward, body]

theorem passOnward_probe (u : State) (p : Path) (stamp : Stamp) {f : PathFrame} {tag : Byte} {index : Nat}
    (body : f.body = .probe tag index) : u.passOnward p stamp f = u.echoService p tag index stamp.mono := by
  simp only [State.passOnward, body]

theorem passOnward_echo (u : State) (p : Path) (stamp : Stamp) {f : PathFrame} {tag : Byte} {index residence : Nat}
    (body : f.body = .echo tag index residence) : u.passOnward p stamp f = u.takeEcho p tag index residence stamp.mono := by
  simp only [State.passOnward, body]

theorem passOnward_passed (u : State) (p : Path) (stamp : Stamp) (f : PathFrame) : u.PassedFrom (u.passOnward p stamp f) p := by
  cases body : f.body with
  | data c =>
    rw [passOnward_data u p stamp body]
    obtain ⟨frame, -, parameters, raised⟩ := u.takeData_dataOnly ⟨c, f.quality, p, stamp⟩
    exact ⟨frame, parameters, raised, u.heardSame_takeData _ p⟩
  | beacon tod =>
    rw [passOnward_beacon u p stamp body]
    exact ⟨rfl, rfl, State.portsRaised_refl u, HeardSame.refl u p⟩
  | probe tag index =>
    rw [passOnward_probe u p stamp body]
    exact .of_routed (u.echoService_routed p _ _ _) (HeardSame.of_paths (u.echoService_paths p _ _ _) p)
  | echo tag index residence =>
    rw [passOnward_echo u p stamp body]
    exact .of_routed (u.takeEcho_routed p _ _ _ _) (u.takeEcho_entry p _ _ _ _).2

/-- A frame that is no DATA frame leaves the streams, the local port and the other entries. -/
theorem passOnward_others (u : State) (p : Path) (stamp : Stamp) {f : PathFrame} (noData : ∀ c, f.body ≠ .data c) :
    let t := u.passOnward p stamp f
    t.rxStreams = u.rxStreams ∧ t.localPort = u.localPort ∧ u.entriesBut t p := by
  cases body : f.body with
  | data c => exact absurd body (noData c)
  | beacon tod =>
    rw [passOnward_beacon u p stamp body]
    exact ⟨rfl, rfl, fun _ _ => rfl⟩
  | probe tag index =>
    rw [passOnward_probe u p stamp body]
    have routed := u.echoService_routed p tag index stamp.mono
    exact ⟨routed.rxStreams, routed_localPort routed,
      fun q _ => congrArg (fun l : Vector PathEntry 5 => l[q.idx]) (u.echoService_paths p tag index stamp.mono)⟩
  | echo tag index residence =>
    rw [passOnward_echo u p stamp body]
    have routed := u.takeEcho_routed p tag index residence stamp.mono
    exact ⟨routed.rxStreams, routed_localPort routed, (u.takeEcho_entry p tag index residence stamp.mono).1⟩

end State

/-- Settles O24: the frame is judged valid, its report is evaluated, and the frame is passed onward by its kind. -/
theorem validFrameReported : Obligations.ValidFrameReported := by
  intro s p bytes f stamp arriving ready parsed inService named accepted u
  have ends : exec (.pathFrameEnd p bytes) s = .next (u.passOnward p stamp f) := by
    have first : exec (.pathFrameEnd p bytes) s = .next (s.pathFrameEnd p bytes) := rfl
    rw [first, State.pathFrameEnd_of_parsed arriving ready parsed]
    exact congrArg _ (State.judgeFrame_valid (s := s.arrivalEnded p) inService stamp named accepted)
  have frame := (s.arrivalEnded p).validFrame_frame p stamp.mono f.state f.quality
  have entry := (s.arrivalEnded p).validFrame_entry p stamp.mono f.state f.quality
  have routed := (s.arrivalEnded p).validFrame_routed p stamp.mono f.state f.quality
  have receivers := (s.arrivalEnded p).validFrame_receivers p stamp.mono f.state f.quality
  have settles := (s.arrivalEnded p).validFrame_settles p stamp.mono f.state f.quality
  have is : (s.arrivalEnded p).validFrame p stamp.mono f.state f.quality = u := rfl
  dsimp only at frame entry
  rw [is] at frame entry routed receivers settles
  clear_value u
  obtain ⟨onward, parameters, raised, heard⟩ := u.passOnward_passed p stamp f
  have others := u.passOnward_others p stamp (f := f)
  have data c (body : f.body = .data c) := u.passOnward_data p stamp body
  have beacon tod (body : f.body = .beacon tod) := u.passOnward_beacon p stamp body
  have probe tag index (body : f.body = .probe tag index) := u.passOnward_probe p stamp body
  have echo tag index residence (body : f.body = .echo tag index residence) := u.passOnward_echo p stamp body
  generalize u.passOnward p stamp f = t at ends onward parameters raised heard others data beacon probe echo
  have received (q : Path) : t.receiver q = ((s.arrivalEnded p).frameHeard p stamp.mono).receiver q := by
    have same : t.receivers = ((s.arrivalEnded p).frameHeard p stamp.mono).receivers := (congrArg State.receivers onward).trans receivers
    exact congrArg (fun l : Vector Receiver 5 => l[q.idx]) same
  have own := received p
  rw [State.frameHeard_receiver, if_pos rfl] at own
  have cleared : (s.arrivalEnded p).receiver p = { s.receiver p with arriving := none } :=
    State.modReceiver_receiver_self s p (fun r => { r with arriving := none })
  obtain ⟨moved, but⟩ := entry
  unfold PathEntry.evaluatedFrom at moved
  refine ⟨t, ends, ?_, ?_, ?_, ?_, ?_, ?_, fun q other => ?_, ?_, ?_, ?_, ?_, ?_, fun noData => ?_, moved, fun fit order => ?_, but,
    frame, data, beacon, probe, echo⟩
  · rw [own]
    rfl
  · rw [own, cleared]
  · rw [heard.farState, moved]
    rfl
  · rw [heard.farQuality, moved]
    rfl
  · rw [heard.rxValid, moved]
    rfl
  · rw [heard.checkErrors, moved]
    rfl
  · rw [received q, State.frameHeard_receiver, if_neg other]
    exact State.modReceiver_receiver_ne s p _ other
  · exact State.sameParameters_trans routed.2.1 parameters
  · exact State.portsRaised_trans (State.portsRaised_trans (State.portsRaised_of_ports rfl) routed.2.2) raised
  · rw [onward, frame]
    rfl
  · rw [onward, frame]
    rfl
  · rw [onward, frame]
    rfl
  · obtain ⟨streams, lane, entries⟩ := others noData
    refine ⟨streams.trans ?_, lane.trans ?_, State.entriesBut_trans but entries⟩
    · rw [frame]
      rfl
    · rw [frame]
      rfl
  · obtain ⟨state, -, enters⟩ := settles fit (fun radio => of_decide_eq_true (order radio))
    refine ⟨state, fun failed recovering => ?_⟩
    have left : (u.entry p).state ≠ (s.entry p).state := by rw [recovering, failed]; decide
    obtain ⟨entered, deadline⟩ := enters left
    rw [if_pos recovering] at deadline
    exact ⟨entered, deadline⟩

end Sys2Proof.Machine

/-! Deliveries: the frames and records of HELD slots, and what handing frames on leaves of the lane and the log (R117, R118). -/

namespace Sys2Proof.Machine

/-! ## What slots yield, by their sequences -/

/-- What each slot yields with its sequence, the first being that of `q`. -/
def yields {α : Type} (g : Seq → Slot → Option α) (q : Seq) (slots : List Slot) : List α :=
  (List.range slots.length).filterMap (fun k => slots[k]?.bind (g (q + BitVec.ofNat 32 k)))

theorem yields_append {α : Type} (g : Seq → Slot → Option α) (q : Seq) (l l' : List Slot) :
    yields g q (l ++ l') = yields g q l ++ yields g (q + BitVec.ofNat 32 l.length) l' := by
  unfold yields
  rw [List.length_append, List.range_add, List.filterMap_append, List.filterMap_map]
  congr 1
  · refine List.filterMap_congr fun k member => ?_
    rw [List.getElem?_append_left (List.mem_range.mp member)]
  · refine List.filterMap_congr fun k _ => ?_
    dsimp only [Function.comp]
    rw [List.getElem?_append_right (Nat.le_add_right _ _), Nat.add_sub_cancel_left, BitVec.ofNat_add, BitVec.add_assoc]

theorem yields_singleton {α : Type} (g : Seq → Slot → Option α) (q : Seq) (y : Slot) : yields g q [y] = (g q y).toList := by
  have first : q + BitVec.ofNat 32 0 = q := BitVec.add_zero q
  simp only [yields, List.length_singleton, List.range_one, List.filterMap_cons, List.getElem?_cons_zero, Option.bind_some, first,
    List.filterMap_nil]
  cases g q y <;> rfl

theorem yields_cons {α : Type} (g : Seq → Slot → Option α) (q : Seq) (y : Slot) (l : List Slot) :
    yields g q (y :: l) = (g q y).toList ++ yields g (q + 1) l := by
  have split := yields_append g q [y] l
  rwa [yields_singleton] at split

theorem yields_length_le {α : Type} (g : Seq → Slot → Option α) (q : Seq) (slots : List Slot) :
    (yields g q slots).length ≤ slots.length :=
  (List.length_filterMap_le _ _).trans (List.length_range).le

/-- The frame that a HELD slot keeps. -/
def Slot.frame (i : StreamId) (q : Seq) : Slot → Option DeliveredFrame
  | .held info f => some ⟨i, f.payload, q, info.path, f.arrival⟩
  | _ => none

/-- The DELIVERY record of a HELD slot delivered at `now`. -/
def Slot.record (i : StreamId) (now : Stamp) (q : Seq) : Slot → Option RecordBody
  | .held info f => some (deliveryBody now.tod ⟨i, f.payload, q, info.path, f.arrival⟩ f.arrivalQuality f.sender f.origin
      (some (min 4294967295 (now.mono - info.arrival))) true false f.eligible)
  | _ => none

theorem heldFrames_eq (i : StreamId) (q : Seq) (slots : List Slot) : heldFrames i q slots = yields (Slot.frame i) q slots := by
  refine List.filterMap_congr fun k _ => ?_
  cases slots[k]? with
  | none => rfl
  | some y => cases y <;> rfl

theorem heldRecords_eq (i : StreamId) (q : Seq) (slots : List Slot) (now : Stamp) :
    heldRecords i q slots now = yields (Slot.record i now) q slots := by
  refine List.filterMap_congr fun k _ => ?_
  cases slots[k]? with
  | none => rfl
  | some y => cases y <;> rfl

/-- The record of a delivery is the one R117 gives. -/
theorem Delivery.record_eq (d : Delivery) (now : Tod) (dropped : Bool) : d.record now dropped
    = deliveryBody now d.frame d.arrivalQuality d.sender d.origin d.holdDelay d.held dropped d.eligible := rfl

namespace State
variable {i : StreamId} {s t u : State} {fs fs' : List DeliveredFrame} {bodies bodies' : List RecordBody}

/-! ## Frames handed on -/

/-- The local lane is busy and the delivery queue has room for `k` more. -/
def HasRoom (s : State) (k : Nat) : Prop := s.localPort.inProgress ≠ none ∧ s.localPort.queue.length + k ≤ 64

theorem HasRoom.less {k k' : Nat} (h : s.HasRoom k) (le : k' ≤ k) : s.HasRoom k' := ⟨h.1, by have := h.2; omega⟩

/-- With a busy lane and room for them all the frames `fs` join the delivery queue, and nothing else there changes. -/
def Queued (s : State) (fs : List DeliveredFrame) (t : State) : Prop :=
  s.HasRoom fs.length → t.localPort = { s.localPort with queue := s.localPort.queue ++ fs }

theorem Queued.of_same (same : t.localPort = s.localPort) : s.Queued [] t := fun _ => by
  rw [same, List.append_nil]

theorem HasRoom.after (h : s.HasRoom (fs.length + k)) (queued : s.Queued fs t) : t.HasRoom k := by
  have lane := queued (h.less (Nat.le_add_right _ _))
  obtain ⟨busy, room⟩ := h
  refine ⟨by rw [lane]; exact busy, ?_⟩
  rw [lane, List.length_append]
  omega

theorem Queued.trans (h : s.Queued fs t) (h' : t.Queued fs' u) : s.Queued (fs ++ fs') u := fun room => by
  rw [List.length_append] at room
  rw [h' (room.after h), h (room.less (Nat.le_add_right _ _)), List.append_assoc]

/-- The frames `fs` are handed on in this order, with the records `bodies` when none is dropped and the stream's records are
on. -/
structure Handed (i : StreamId) (s : State) (fs : List DeliveredFrame) (bodies : List RecordBody) (t : State) : Prop where
  time : t.time = s.time
  records : (t.rxStream i).records = (s.rxStream i).records
  lane : s.Queued fs t
  log : ∃ l, s.Logged l t ∧ l.length ≤ bodies.length
    ∧ (s.HasRoom fs.length → (s.rxStream i).records = true → l.map Noted.body = bodies)

theorem Handed.of_same (time : t.time = s.time) (records : (t.rxStream i).records = (s.rxStream i).records)
    (lane : t.localPort = s.localPort) (log : t.log = s.log) : Handed i s [] [] t :=
  ⟨time, records, .of_same lane, [], .of_log log, Nat.le_refl _, fun _ _ => rfl⟩

theorem Handed.refl (i : StreamId) (s : State) : Handed i s [] [] s := .of_same rfl rfl rfl rfl

theorem Handed.trans (h : Handed i s fs bodies t) (h' : Handed i t fs' bodies' u) : Handed i s (fs ++ fs') (bodies ++ bodies') u := by
  obtain ⟨time, records, lane, l, logged, few, exact⟩ := h
  obtain ⟨time', records', lane', l', logged', few', exact'⟩ := h'
  refine ⟨time'.trans time, records'.trans records, lane.trans lane', l ++ l', logged.trans logged', ?_, fun room on => ?_⟩
  · rw [List.length_append, List.length_append]
    omega
  · rw [List.length_append] at room
    rw [List.map_append, exact (room.less (Nat.le_add_right _ _)) on, exact' (room.after lane) (records.trans on)]

/-- A step that hands on nothing, then the deliveries. -/
theorem Handed.after (h : Handed i t fs bodies u) (same : Handed i s [] [] t) : Handed i s fs bodies u := same.trans h

theorem Handed.before (h : Handed i s fs bodies t) (same : Handed i t [] [] u) : Handed i s fs bodies u := by
  have joined := h.trans same
  rwa [List.append_nil, List.append_nil] at joined

/-- With room in the queue and the log, the records written are those of the deliveries. -/
theorem Handed.written (h : Handed i s fs bodies t) (room : s.HasRoom fs.length) (on : (s.rxStream i).records = true)
    (space : s.log.records.length + bodies.length ≤ 1024) : s.written t = bodies := by
  obtain ⟨-, -, -, l, logged, few, exact⟩ := h
  rw [logged.written (by omega), exact room on]

theorem Handed.queue (h : Handed i s fs bodies t) (room : s.HasRoom fs.length) : t.localPort.queue = s.localPort.queue ++ fs := by
  rw [h.lane room]

theorem handed_modRx (s : State) (i : StreamId) (g : RxStream → RxStream) (kept : (g (s.rxStream i)).records = (s.rxStream i).records) :
    Handed i s [] [] (s.modRx i g) :=
  .of_same rfl (by rw [State.modRx_rxStream_self, kept]) rfl rfl

/-! ## One delivery -/

theorem LocalPort.join_busy {l : LocalPort} (busy : l.inProgress ≠ none) (f : DeliveredFrame) :
    l.join f = { l with queue := l.queue ++ [f] } := by
  unfold LocalPort.join LocalPort.start
  dsimp only
  split
  · rename_i idle _
    exact absurd idle busy
  · rfl

theorem queueDelivery_queued (s : State) (i : StreamId) (f : DeliveredFrame) : s.Queued [f] (s.queueDelivery i f) := fun room => by
  obtain ⟨busy, room⟩ := room
  rw [List.length_singleton] at room
  unfold State.queueDelivery
  rw [if_neg (show ¬deliveryPlaces ≤ s.localPort.queue.length by unfold deliveryPlaces; omega)]
  exact LocalPort.join_busy busy f

theorem queueDelivery_same (s : State) (i : StreamId) (f : DeliveredFrame) : (s.queueDelivery i f).time = s.time
    ∧ ((s.queueDelivery i f).rxStream i).records = (s.rxStream i).records ∧ (s.queueDelivery i f).log = s.log := by
  unfold State.queueDelivery
  split
  · refine ⟨rfl, ?_, rfl⟩
    rw [State.raiseAll_rxStream, State.modRx_rxStream_self]
  · exact ⟨rfl, rfl, rfl⟩

theorem logWrite_kept (s : State) (body : RecordBody) : (s.logWrite body).time = s.time ∧ (s.logWrite body).localPort = s.localPort := by
  have only := (s.logWrite_logOnly body).1
  exact ⟨by rw [only], by rw [only]⟩

theorem deliver_handed (s : State) (i : StreamId) (d : Delivery) :
    Handed i s [d.frame] [d.record s.time.tod false] (s.deliver i d) := by
  obtain ⟨time, records, log⟩ := s.queueDelivery_same i d.frame
  have lane := s.queueDelivery_queued i d.frame
  unfold State.deliver
  dsimp only
  split
  · have noted := (State.logWrite_logged (s.queueDelivery i d.frame)
      (d.record s.time.tod (decide (deliveryPlaces ≤ s.localPort.queue.length)))).after log
    refine ⟨(logWrite_kept _ _).1.trans time, by rw [State.logWrite_rxStream, records],
      fun room => (logWrite_kept _ _).2.trans (lane room), _, noted, Nat.le_refl _, fun room _ => ?_⟩
    have space : decide (deliveryPlaces ≤ s.localPort.queue.length) = false := by
      have := room.2
      rw [List.length_singleton] at this
      exact decide_eq_false (by unfold deliveryPlaces; omega)
    rw [space]
    rfl
  · rename_i off
    exact ⟨time, records, lane, [], .of_log log, Nat.zero_le _, fun _ on => absurd on off⟩

end State
end Sys2Proof.Machine

/-! Releasing slots: which counts stay, and the frames and records that are handed on (R114, R119, R122). -/

namespace Sys2Proof.Machine

/-! ## The counts of a stream -/

/-- Two streams show the same counts, those of gaps and overflow aside. -/
structure RxStream.SameCounts (x y : RxStream) : Prop where
  accepted : y.accepted = x.accepted
  duplicates : y.duplicates = x.duplicates
  late : y.late = x.late
  resyncs : y.resyncs = x.resyncs
  rejected : y.rejected = x.rejected

theorem RxStream.SameCounts.refl (x : RxStream) : x.SameCounts x := ⟨rfl, rfl, rfl, rfl, rfl⟩

theorem RxStream.SameCounts.trans {x y z : RxStream} (h : x.SameCounts y) (h' : y.SameCounts z) : x.SameCounts z :=
  ⟨h'.accepted.trans h.accepted, h'.duplicates.trans h.duplicates, h'.late.trans h.late, h'.resyncs.trans h.resyncs,
    h'.rejected.trans h.rejected⟩

/-- A stream is known by its settings and window and by its counts. -/
theorem RxStream.eq_of_shape {x y : RxStream} (shape : y.shape = x.shape) (counts : x.SameCounts y) (gaps : y.gaps = x.gaps) :
    y = { x with overflow := y.overflow } := by
  obtain ⟨accepted, duplicates, late, resyncs, rejected⟩ := counts
  cases x
  cases y
  simp only [RxStream.shape, RxStream.mk.injEq] at *
  simp only [*, and_self]

namespace State
variable {i : StreamId} {s t u : State}

/-- Between two states the counts of the stream stay, those of overflow aside. -/
structure CountsKept (i : StreamId) (s t : State) : Prop where
  counts : (s.rxStream i).SameCounts (t.rxStream i)
  gaps : (t.rxStream i).gaps = (s.rxStream i).gaps

theorem CountsKept.refl (i : StreamId) (s : State) : CountsKept i s s := ⟨.refl _, rfl⟩

theorem CountsKept.trans (h : CountsKept i s t) (h' : CountsKept i t u) : CountsKept i s u :=
  ⟨h.counts.trans h'.counts, h'.gaps.trans h.gaps⟩

theorem CountsKept.of_rx (same : t.rxStream i = s.rxStream i) : CountsKept i s t := by
  refine ⟨?_, ?_⟩
  · rw [same]
    exact .refl _
  · rw [same]

theorem countsKept_modRx (s : State) (i : StreamId) (g : RxStream → RxStream) (counts : (s.rxStream i).SameCounts (g (s.rxStream i)))
    (gaps : (g (s.rxStream i)).gaps = (s.rxStream i).gaps) : CountsKept i s (s.modRx i g) := by
  refine ⟨?_, ?_⟩
  · rw [State.modRx_rxStream_self]
    exact counts
  · rw [State.modRx_rxStream_self]
    exact gaps

theorem deliver_counts (s : State) (i : StreamId) (d : Delivery) : CountsKept i s (s.deliver i d) := by
  have queued : CountsKept i s (s.queueDelivery i d.frame) := by
    unfold State.queueDelivery
    split
    · exact (s.countsKept_modRx i _ ⟨rfl, rfl, rfl, rfl, rfl⟩ rfl).trans (.of_rx (State.raiseAll_rxStream _ _ i))
    · exact .of_rx rfl
  unfold State.deliver
  dsimp only
  split
  · exact queued.trans (.of_rx (State.logWrite_rxStream _ _ i))
  · exact queued

theorem setSlot_counts (s : State) (i : StreamId) (n : Nat) (slot : Slot) : CountsKept i s (s.setSlot i n slot) :=
  s.countsKept_modRx i _ ⟨rfl, rfl, rfl, rfl, rfl⟩ rfl

theorem releaseSlot_counts (s : State) (i : StreamId) (n : Nat) : CountsKept i s (s.releaseSlot i n) := by
  unfold State.releaseSlot
  split
  · exact (s.setSlot_counts i n _).trans (deliver_counts _ i _)
  · exact .refl i s

theorem releaseFirst_counts (s : State) (i : StreamId) (n : Nat) : CountsKept i s (s.releaseFirst i n) :=
  foldl_rel (CountsKept i) (.refl i) .trans (fun u k => u.releaseSlot i k) _ (fun u k _ => u.releaseSlot_counts i k) s

theorem walkStep_counts (s : State) (i : StreamId) : CountsKept i s (s.walkStep i) :=
  (s.releaseSlot_counts i _).trans (countsKept_modRx _ i _ ⟨rfl, rfl, rfl, rfl, rfl⟩ rfl)

/-! ## Frames of released slots -/

theorem heldDelivery_record (i : StreamId) (q : Seq) (s : State) (info : SlotInfo) (f : HeldFrame) :
    Slot.record i s.stamp q (.held info f) = some ((heldDelivery i q s.time.mono info f).record s.time.tod false) := rfl

theorem releaseSlot_handed (s : State) (i : StreamId) (n : Nat) : let q := (s.rxStream i).base + BitVec.ofNat 32 n
    Handed i s ((s.rxStream i).slots[n]?.bind (Slot.frame i q)).toList ((s.rxStream i).slots[n]?.bind (Slot.record i s.stamp q)).toList
      (s.releaseSlot i n) := by
  unfold State.releaseSlot
  dsimp only
  split
  · rename_i info f found
    rw [found]
    exact (deliver_handed (s.setSlot i n (.done info)) i
      (heldDelivery i ((s.rxStream i).base + BitVec.ofNat 32 n) s.time.mono info f)).after
        (handed_modRx s i (fun x => { x with slots := x.slots.set n (.done info) }) rfl)
  · rename_i other
    have nothing {α : Type} (g : Slot → Option α) (only : ∀ y, y.isHeld = false → g y = none) : (s.rxStream i).slots[n]?.bind g = none := by
      cases found : (s.rxStream i).slots[n]? with
      | none => rfl
      | some y => exact only y (by cases y with | held info f => exact absurd found (other info f) | _ => rfl)
    rw [nothing (Slot.frame i _) (fun y free => by cases y with | held => cases free | _ => rfl),
      nothing (Slot.record i s.stamp _) (fun y free => by cases y with | held => cases free | _ => rfl)]
    exact .refl i s

/-- What the slot at a place yields is what is added by one more slot. -/
theorem yields_take_succ {α : Type} (g : Seq → Slot → Option α) (q : Seq) (l : List Slot) (k : Nat) :
    yields g q (l.take (k + 1)) = yields g q (l.take k) ++ (l[k]?.bind (g (q + BitVec.ofNat 32 k))).toList := by
  rw [List.take_add_one, yields_append]
  congr 1
  cases found : l[k]? with
  | none => rfl
  | some y =>
    have full : (l.take k).length = k := by
      rw [List.length_take, Nat.min_eq_left]
      exact Nat.le_of_lt (List.getElem?_eq_some_iff.mp found).1
    rw [Option.toList_some, yields_singleton, full, Option.bind_some]

theorem stamp_congr (time : t.time = s.time) : t.stamp = s.stamp := by
  unfold State.stamp
  rw [time]

/-- The first slots released hand their frames on in ascending order. -/
theorem foldl_releaseSlot_handed (s : State) (i : StreamId) (n : Nat) : let x := s.rxStream i
    Handed i s (heldFrames i x.base (x.slots.take n)) (heldRecords i x.base (x.slots.take n) s.stamp)
      ((List.range n).foldl (fun s k => s.releaseSlot i k) s) := by
  dsimp only
  rw [heldFrames_eq, heldRecords_eq]
  induction n with
  | zero => exact .refl i s
  | succ k ih =>
    have shape := s.foldl_releaseSlot_shape i k
    rw [List.range_succ, List.foldl_append, List.foldl_cons, List.foldl_nil]
    generalize (List.range k).foldl (fun s k => s.releaseSlot i k) s = u at ih shape
    have slots : (u.rxStream i).slots = ((s.rxStream i).slots.take k).map Slot.delivered ++ (s.rxStream i).slots.drop k :=
      congrArg RxStream.slots shape
    have base : (u.rxStream i).base = (s.rxStream i).base := by
      show (u.rxStream i).shape.base = _
      rw [shape]
      rfl
    have slot : (u.rxStream i).slots[k]? = (s.rxStream i).slots[k]? := by
      rw [slots, List.getElem?_append, List.length_map, List.length_take, List.getElem?_drop]
      split
      · omega
      · rcases Nat.lt_or_ge k (s.rxStream i).slots.length with inside | outside
        · congr 1
          omega
        · rw [List.getElem?_eq_none (by omega), List.getElem?_eq_none outside]
    have next := u.releaseSlot_handed i k
    rw [base, slot, stamp_congr ih.time] at next
    rw [yields_take_succ, yields_take_succ]
    exact ih.trans next

theorem releaseFirst_handed (s : State) (i : StreamId) (n : Nat) : let x := s.rxStream i
    Handed i s (heldFrames i x.base (x.slots.take n)) (heldRecords i x.base (x.slots.take n) s.stamp) (s.releaseFirst i n) := by
  have handed := s.foldl_releaseSlot_handed i (min n (s.rxStream i).slots.length)
  dsimp only at handed
  rw [← List.take_take, List.take_length] at handed
  exact handed

/-! ## The release walk -/

/-- The walk hands on the run of HELD slots at the release point (R114). -/
theorem walk_handed {fuel : Nat} {s : State} (small : (s.rxStream i).slots.length < 4294967296)
    (enough : (s.rxStream i).heldRun.length < fuel) : let x := s.rxStream i
    Handed i s (heldFrames i x.release x.heldRun) (heldRecords i x.release x.heldRun s.stamp) (State.walk fuel s i)
      ∧ CountsKept i s (State.walk fuel s i) := by
  dsimp only
  rw [heldFrames_eq, heldRecords_eq]
  induction fuel generalizing s with
  | zero => exact absurd enough (Nat.not_lt_zero _)
  | succ fuel ih =>
    by_cases held : ∃ y, (s.rxStream i).slots[(s.rxStream i).distance (s.rxStream i).release]? = some y ∧ y.isHeld = true
    · obtain ⟨y, found, held⟩ := held
      have shape := s.walkStep_shape i
      have run := RxStream.heldRun_of_held small found held
      have first := s.releaseSlot_handed i ((s.rxStream i).distance (s.rxStream i).release)
      dsimp only at first
      rw [found, RxStream.base_add_distance] at first
      have stepped := first.before (handed_modRx _ i (fun x => { x with release := x.release + 1 }) rfl)
      rw [← RxStream.heldRun_of_shape shape] at run
      have release : ((s.walkStep i).rxStream i).release = (s.rxStream i).release + 1 := congrArg RxStream.release shape
      have small' : ((s.walkStep i).rxStream i).slots.length < 4294967296 := by
        rw [RxStream.slots_of_shape shape]
        simpa [RxStream.passed, RxStream.releasedAt] using small
      have enough' : ((s.walkStep i).rxStream i).heldRun.length < fuel := by
        rw [run, List.length_cons] at enough
        omega
      obtain ⟨rest, counts⟩ := ih small' enough'
      have time : (s.walkStep i).time = s.time := stepped.time
      rw [release, stamp_congr time] at rest
      rw [State.walk_of_held found held, run, yields_cons, yields_cons]
      exact ⟨Handed.trans stepped rest, (s.walkStep_counts i).trans counts⟩
    · have stop : ∀ y, (s.rxStream i).slots[(s.rxStream i).distance (s.rxStream i).release]? = some y → y.isHeld = false :=
        fun y found => by simpa using fun h => held ⟨y, found, h⟩
      have run : (s.rxStream i).heldRun = [] := by
        unfold RxStream.heldRun
        cases rest : (s.rxStream i).slots.drop ((s.rxStream i).distance (s.rxStream i).release) with
        | nil => rfl
        | cons y l =>
          have found : (s.rxStream i).slots[(s.rxStream i).distance (s.rxStream i).release]? = some y := by
            rw [← List.head?_drop, rest, List.head?_cons]
          simp [stop y found]
      rw [State.walk_of_not_held stop, run]
      exact ⟨.refl i s, .refl i s⟩

theorem releaseWalk_handed (small : (s.rxStream i).slots.length < 4294967296) : let x := s.rxStream i
    Handed i s (heldFrames i x.release x.heldRun) (heldRecords i x.release x.heldRun s.stamp) (s.releaseWalk i)
      ∧ CountsKept i s (s.releaseWalk i) :=
  walk_handed small (Nat.lt_succ_of_le (RxStream.heldRun_length_le _))

end State
end Sys2Proof.Machine

/-! The hold deadline and its expiries (R115, R116). -/

namespace Sys2Proof.Machine

/-! ## Runs of HELD slots -/

theorem List.drop_takeWhile_length {α : Type} (p : α → Bool) (l : List α) : l.drop (l.takeWhile p).length = l.dropWhile p := by
  conv_lhs => rw [← List.takeWhile_append_dropWhile (p := p) (l := l), List.takeWhile_append_dropWhile]
  induction l with
  | nil => rfl
  | cons a rest ih =>
    cases keep : p a with
    | true => simp [keep, ih]
    | false => simp [keep]

/-- The slots after a run of HELD slots that begins at a place. -/
theorem dropWhile_held (slots : List Slot) (h : Nat) : (slots.drop h).dropWhile Slot.isHeld
    = slots.drop (h + ((slots.drop h).takeWhile Slot.isHeld).length) := by
  rw [← List.drop_takeWhile_length, List.drop_drop]

/-- The release walk says which slots it moves by their place (R114). -/
theorem RxStream.walked_eq (x : RxStream) : x.walked = { x with
    slots := x.slots.take (x.distance x.release) ++ x.heldRun.map Slot.delivered
      ++ x.slots.drop (x.distance x.release + x.heldRun.length)
    release := x.release + BitVec.ofNat 32 x.heldRun.length } := by
  unfold RxStream.walked
  rw [dropWhile_held]
  rfl

/-! ## The deadline -/

/-- The first arrival of a HELD slot. -/
def Slot.heldSince : Slot → Option Nat
  | .held info _ => some info.arrival
  | _ => none

theorem RxStream.heldArrivals_eq (x : RxStream) : x.heldArrivals = x.slots.filterMap Slot.heldSince := rfl

theorem earliestHeld_eq (slots : List Slot) : earliestHeld slots = (slots.filterMap Slot.heldSince).min? := by
  induction slots with
  | nil => rfl
  | cons y rest ih =>
    cases y with
    | empty | done | skipped => exact ih
    | held info f =>
      have since : Slot.heldSince (.held info f) = some info.arrival := rfl
      rw [List.filterMap_cons_some since, List.min?_cons, ← ih, earliestHeld]
      cases earliestHeld rest <;> rfl

/-- The deadline that R115 forms is the model's. -/
theorem RxStream.deadlineFormed_eq (x : RxStream) : x.deadlineFormed = (earliestHeld x.slots).map (· + usToNs x.holdTime) := by
  rw [earliestHeld_eq, ← RxStream.heldArrivals_eq]
  rfl

/-- A deadline formed is that of some HELD slot. -/
theorem RxStream.deadlineFormed_mem {x : RxStream} {d : Nat} (formed : x.deadlineFormed = some d) :
    ∃ a ∈ x.heldArrivals, d = a + x.holdTime * 1000 := by
  obtain ⟨a, least, rfl⟩ := Option.map_eq_some_iff.mp formed
  exact ⟨a, List.min?_mem least, rfl⟩

theorem RxStream.deadlineFormed_eq_none {x : RxStream} (free : ∀ y ∈ x.slots, y.isHeld = false) : x.deadlineFormed = none := by
  rw [RxStream.deadlineFormed_eq, earliestHeld_eq_none.mpr free]
  rfl

theorem RxStream.deadlined_eq (x : RxStream) : x.deadlined = { x with holdDeadline := x.deadlineFormed } := by
  rw [RxStream.deadlineFormed_eq]
  rfl

theorem RxStream.deadlineFormed_congr {x y : RxStream} (slots : y.slots = x.slots) (hold : y.holdTime = x.holdTime) :
    y.deadlineFormed = x.deadlineFormed := by
  unfold RxStream.deadlineFormed RxStream.heldArrivals
  rw [slots, hold]

namespace State
variable {i : StreamId} {s t u : State}

theorem formDeadline_rx (s : State) (i : StreamId) : (s.formDeadline i).rxStream i
    = { s.rxStream i with holdDeadline := (s.rxStream i).deadlineFormed } := by
  rw [← RxStream.deadlined_eq]
  exact State.modRx_rxStream_self s i RxStream.deadlined

theorem formDeadline_handed (s : State) (i : StreamId) : Handed i s [] [] (s.formDeadline i) :=
  handed_modRx s i RxStream.deadlined rfl

theorem formDeadline_counts (s : State) (i : StreamId) : CountsKept i s (s.formDeadline i) :=
  countsKept_modRx s i RxStream.deadlined ⟨rfl, rfl, rfl, rfl, rfl⟩ rfl

theorem streamHoldDue_iff : s.streamHoldDue i = true ↔ ∃ d, (s.rxStream i).holdDeadline = some d ∧ d ≤ s.mono := by
  unfold State.streamHoldDue State.reached
  cases (s.rxStream i).holdDeadline with
  | none => simp
  | some d => simp [State.mono]

theorem streamHoldDue_eq_false : s.streamHoldDue i = false ↔ ∀ d, (s.rxStream i).holdDeadline = some d → s.mono < d := by
  rw [← Bool.not_eq_true, streamHoldDue_iff]
  constructor
  · exact fun no d at_d => Nat.lt_of_not_le fun le => no ⟨d, at_d, le⟩
  · rintro early ⟨d, at_d, le⟩
    exact absurd le (Nat.not_le.mpr (early d at_d))

/-- With no expiry due nothing expires. -/
theorem expireUpTo_early {fuel : Nat} (early : s.streamHoldDue i = false) : State.expireUpTo fuel s i = s := by
  cases fuel with
  | zero => rfl
  | succ fuel => exact if_neg (by rw [early]; exact Bool.false_ne_true)

theorem expireUpTo_due {fuel : Nat} (due : s.streamHoldDue i = true) :
    State.expireUpTo (fuel + 1) s i = State.expireUpTo fuel (s.expireOnce i) i := if_pos due

theorem expireAll_early (early : s.streamHoldDue i = false) : s.expireAll i = s := expireUpTo_early early

/-- The deadline formed anew and not yet past: nothing expires. -/
theorem settleHold_early (early : ∀ a ∈ (s.rxStream i).heldArrivals, s.mono < a + (s.rxStream i).holdTime * 1000) :
    s.settleHold i = s.formDeadline i := by
  refine expireAll_early (streamHoldDue_eq_false.mpr fun d formed => ?_)
  rw [formDeadline_rx] at formed
  obtain ⟨a, member, rfl⟩ := RxStream.deadlineFormed_mem formed
  exact early a member

end State
end Sys2Proof.Machine

/-! One hold expiry, all that are due, and O45 (R116). -/

namespace Sys2Proof.Machine

/-- The run of HELD slots that begins at a place. -/
def RxStream.runFrom (x : RxStream) (h : Nat) : List Slot := (x.slots.drop h).takeWhile Slot.isHeld

/-- A stream whose missing sequences before place h are SKIPPED and whose HELD run there is delivered (R116). -/
def RxStream.expiredAt (h : Nat) (x : RxStream) : RxStream :=
  { x with
    slots := x.slots.take (x.distance x.release) ++ List.replicate (h - x.distance x.release) .skipped
      ++ (x.runFrom h).map Slot.delivered ++ x.slots.drop (h + (x.runFrom h).length)
    release := x.base + BitVec.ofNat 32 (h + (x.runFrom h).length) }

theorem Slot.eq_empty {y : Slot} (waiting : y.waiting = true) (free : y.isHeld = false) : y = .empty := by
  cases y with
  | empty => rfl
  | held => cases free
  | done | skipped => cases waiting

theorem DividedAt.found {r h : Nat} {slots : List Slot} (divided : DividedAt r slots) {info : SlotInfo} {f : HeldFrame}
    (held : slots[h]? = some (.held info f)) (free : ∀ y ∈ slots.take h, y.isHeld = false) : heldFrom slots r = some h := by
  have after : r ≤ h := by
    by_contra before
    cases divided.settled h _ held (Nat.lt_of_not_le before)
  obtain ⟨inside, slot⟩ := List.getElem?_eq_some_iff.mp held
  have first : (slots.drop r).findIdx? Slot.isHeld = some (h - r) := by
    refine List.findIdx?_eq_some_iff_getElem.mpr ⟨by rw [List.length_drop]; omega, ?_, fun k lt => ?_⟩
    · rw [List.getElem_drop]
      have place : r + (h - r) = h := by omega
      simp only [place, slot]
      rfl
    · rw [List.getElem_drop]
      have earlier : slots[r + k]'(by omega) ∈ slots.take h :=
        List.mem_iff_getElem?.mpr ⟨r + k, by rw [List.getElem?_take_of_lt (by omega), List.getElem?_eq_getElem]⟩
      rw [free _ earlier]
      exact Bool.false_ne_true
  rw [heldFrom, first, Option.map_some, Nat.sub_add_cancel after]

namespace RxStream
variable {x : RxStream} {h : Nat}

theorem skippedTo_slots (divided : DividedAt (x.distance x.release) x.slots) (found : heldFrom x.slots (x.distance x.release) = some h) :
    (x.skippedTo h).slots = x.slots.take (x.distance x.release) ++ List.replicate (h - x.distance x.release) .skipped
      ++ x.slots.drop h := by
  obtain ⟨le, ⟨y, slot, -⟩, free⟩ := heldFrom_eq_some found
  have inside : h < x.slots.length := (List.getElem?_eq_some_iff.mp slot).1
  have gap : ((x.slots.drop (x.distance x.release)).take (h - x.distance x.release)).map Slot.skip
      = List.replicate (h - x.distance x.release) .skipped := by
    refine List.eq_replicate_iff.mpr ⟨by simp only [List.length_map, List.length_take, List.length_drop]; omega, fun z member => ?_⟩
    obtain ⟨y, taken, rfl⟩ := List.mem_map.mp member
    obtain ⟨k, at_k⟩ := List.mem_iff_getElem?.mp taken
    rw [List.getElem?_take, List.getElem?_drop] at at_k
    split at at_k
    · have empty : y = .empty := Slot.eq_empty (divided.waiting _ y at_k (Nat.le_add_right _ _))
        (free _ y (Nat.le_add_right _ _) (by omega) at_k)
      rw [empty]
      rfl
    · cases at_k
  show skipRange x.slots (x.distance x.release) h = _
  rw [skipRange, gap, Nat.max_eq_right le]

theorem skippedTo_place (inside : h < 4294967296) : (x.skippedTo h).distance (x.skippedTo h).release = h :=
  RxStream.distance_base_add (x := x) inside

theorem skippedTo_before (divided : x.Divided) (found : heldFrom x.slots (x.distance x.release) = some h) :
    (x.slots.take (x.distance x.release) ++ List.replicate (h - x.distance x.release) Slot.skipped).length = h := by
  obtain ⟨le, -, -⟩ := heldFrom_eq_some found
  have inside := divided.divided.inside
  rw [List.length_append, List.length_take, List.length_replicate]
  omega

theorem skippedTo_heldRun (divided : x.Divided) (found : heldFrom x.slots (x.distance x.release) = some h) :
    (x.skippedTo h).heldRun = x.runFrom h := by
  obtain ⟨-, ⟨y, slot, -⟩, -⟩ := heldFrom_eq_some found
  have inside : h < x.slots.length := (List.getElem?_eq_some_iff.mp slot).1
  have small := divided.tracking.length_le
  unfold RxStream.heldRun RxStream.runFrom
  rw [skippedTo_place (by omega), skippedTo_slots divided.divided found, List.drop_left' (skippedTo_before divided found)]

/-- One expiry, by the place of the earliest HELD slot (R116). -/
theorem expired_eq (divided : x.Divided) (found : heldFrom x.slots (x.distance x.release) = some h) :
    x.expired = (x.expiredAt h).deadlined := by
  obtain ⟨-, ⟨y, slot, -⟩, -⟩ := heldFrom_eq_some found
  have inside : h < x.slots.length := (List.getElem?_eq_some_iff.mp slot).1
  have small := divided.tracking.length_le
  have before := skippedTo_before divided found
  unfold RxStream.expired
  rw [found]
  refine congrArg RxStream.deadlined ?_
  rw [walked_eq, skippedTo_heldRun divided found, skippedTo_place (by omega), skippedTo_slots divided.divided found,
    List.take_left' before, ← List.drop_drop, List.drop_left' before, List.drop_drop]
  unfold RxStream.skippedTo expiredAt
  simp only [BitVec.ofNat_add, BitVec.add_assoc]

theorem Resting.before (resting : x.Resting) (found : heldFrom x.slots (x.distance x.release) = some h) : x.distance x.release < h := by
  obtain ⟨le, ⟨y, slot, held⟩, -⟩ := heldFrom_eq_some found
  refine Nat.lt_of_le_of_ne le fun same => ?_
  rw [resting.stopped y (by rw [same]; exact slot)] at held
  cases held

/-- The HELD slots of a stream. -/
def heldCount (x : RxStream) : Nat := x.slots.countP Slot.isHeld

theorem countP_delivered (l : List Slot) : (l.map Slot.delivered).countP Slot.isHeld = 0 := by
  refine List.countP_eq_zero.mpr fun z member => ?_
  obtain ⟨y, -, rfl⟩ := List.mem_map.mp member
  cases y <;> exact Bool.false_ne_true

/-- Each expiry delivers at least the earliest HELD slot (R116). -/
theorem heldCount_expired (divided : x.Divided) (found : heldFrom x.slots (x.distance x.release) = some h) :
    x.expired.heldCount < x.heldCount := by
  rw [expired_eq divided found]
  obtain ⟨-, ⟨y, slot, held⟩, -⟩ := heldFrom_eq_some found
  obtain ⟨inside, at_h⟩ := List.getElem?_eq_some_iff.mp slot
  have gone : (List.replicate (h - x.distance x.release) Slot.skipped).countP Slot.isHeld = 0 :=
    List.countP_eq_zero.mpr fun z member => by rw [List.eq_of_mem_replicate member]; exact Bool.false_ne_true
  have first : x.runFrom h = y :: ((x.slots.drop (h + 1)).takeWhile Slot.isHeld) := by
    unfold RxStream.runFrom
    rw [List.drop_eq_getElem_cons inside, at_h, List.takeWhile_cons_of_pos held]
  have sorted : x.slots.countP Slot.isHeld = (x.slots.take h).countP Slot.isHeld + (x.runFrom h).countP Slot.isHeld
      + (x.slots.drop (h + (x.runFrom h).length)).countP Slot.isHeld := by
    conv_lhs => rw [← List.take_append_drop h x.slots, ← List.takeWhile_append_dropWhile (p := Slot.isHeld) (l := x.slots.drop h)]
    rw [List.countP_append, List.countP_append, dropWhile_held, Nat.add_assoc]
    rfl
  have some_held : 0 < (x.runFrom h).countP Slot.isHeld := by
    rw [first, List.countP_cons_of_pos held]
    exact Nat.succ_pos _
  have earlier : (x.slots.take (x.distance x.release)).countP Slot.isHeld = 0 := by
    refine List.countP_eq_zero.mpr fun z member => ?_
    obtain ⟨k, at_k⟩ := List.mem_iff_getElem?.mp member
    rw [List.getElem?_take] at at_k
    split at at_k
    · have settled := divided.divided.settled k z at_k (by assumption)
      cases z with
      | held => cases settled
      | _ => exact Bool.false_ne_true
    · cases at_k
  show (_ ++ _ ++ _ ++ _ : List Slot).countP Slot.isHeld < x.slots.countP Slot.isHeld
  rw [List.countP_append, List.countP_append, List.countP_append, gone, countP_delivered, earlier, sorted]
  omega

/-- Of a stream an expiry moves the slots, the release point, the gaps, the deadline and the overflow count. -/
def ExpiredFrom (x y : RxStream) : Prop :=
  y = { x with
      slots := y.slots, release := y.release, gaps := y.gaps, holdDeadline := y.holdDeadline, overflow := y.overflow }
    ∧ y.slots.length = x.slots.length

theorem ExpiredFrom.refl (x : RxStream) : x.ExpiredFrom x := ⟨rfl, rfl⟩

theorem ExpiredFrom.trans {x y z : RxStream} (hy : x.ExpiredFrom y) (hz : y.ExpiredFrom z) : x.ExpiredFrom z := by
  refine ⟨?_, hz.2.trans hy.2⟩
  rw [hz.1, hy.1]

end RxStream
end Sys2Proof.Machine

/-! Hold expiries of a state, and O45 (R116). -/

namespace Sys2Proof.Machine

namespace State
variable {i : StreamId} {s t u : State}

/-- A run of gaps recorded and counted. -/
theorem gapRun_counted (s : State) (i : StreamId) (first : Seq) {count : Nat} (cause : GapCause) (some : 0 < count) :
    s.gapRun i first count cause = (s.logWrite (.gap i first count cause)).modRx i (fun x => { x with gaps := satAdd max32 x.gaps count }) :=
  if_neg (Nat.ne_of_gt some)

theorem gapRun_logged (s : State) (i : StreamId) (first : Seq) {count : Nat} (cause : GapCause) (some : 0 < count) :
    s.Logged [⟨s.time.tod, s.time.quality, .gap i first count cause⟩] (s.gapRun i first count cause) := by
  rw [gapRun_counted s i first cause some]
  exact (State.logWrite_logged s _).before rfl

theorem gapRun_same (s : State) (i : StreamId) (first : Seq) (count : Nat) (cause : GapCause) : let t := s.gapRun i first count cause
    t.time = s.time ∧ t.localPort = s.localPort := by
  unfold State.gapRun
  dsimp only
  split
  · exact ⟨rfl, rfl⟩
  · exact State.logWrite_kept s _

/-- The gaps after a run of them. -/
theorem gapRun_rx (s : State) (i : StreamId) (first : Seq) (count : Nat) (cause : GapCause)
    (bounded : (s.rxStream i).gaps ≤ 4294967295 ∨ 0 < count) :
    (s.gapRun i first count cause).rxStream i
      = { s.rxStream i with gaps := min 4294967295 ((s.rxStream i).gaps + count) } := by
  rcases Nat.eq_zero_or_pos count with none | some
  · subst none
    have same : min 4294967295 ((s.rxStream i).gaps + 0) = (s.rxStream i).gaps := by
      have le := bounded.resolve_right (Nat.lt_irrefl 0)
      omega
    rw [same]
    rfl
  · rw [gapRun_counted s i first cause some, State.modRx_rxStream_self, State.logWrite_rxStream]
    rfl

theorem skipTo_rx {h : Nat} (before : (s.rxStream i).distance (s.rxStream i).release < h) : (s.skipTo i h).rxStream i
    = { (s.rxStream i).skippedTo h with
        gaps := min 4294967295 ((s.rxStream i).gaps + (h - (s.rxStream i).distance (s.rxStream i).release)) } := by
  rw [State.skipTo, State.modRx_rxStream_self, gapRun_rx _ i _ _ _ (.inr (Nat.sub_pos_of_lt before)), State.modRx_rxStream_self]
  rfl

theorem skipTo_logged {h : Nat} (before : (s.rxStream i).distance (s.rxStream i).release < h) :
    s.Logged [⟨s.time.tod, s.time.quality, .gap i (s.rxStream i).release (h - (s.rxStream i).distance (s.rxStream i).release) .hold⟩]
      (s.skipTo i h) := by
  have logged := gapRun_logged (s.modRx i (fun x => { x with slots := skipRange x.slots ((s.rxStream i).distance (s.rxStream i).release) h }))
    i (s.rxStream i).release .hold (Nat.sub_pos_of_lt before)
  exact (State.Logged.after (s := s) logged rfl).before rfl

theorem skipTo_same (s : State) (i : StreamId) (h : Nat) : (s.skipTo i h).time = s.time ∧ (s.skipTo i h).localPort = s.localPort :=
  gapRun_same (s.modRx i (fun x => { x with slots := skipRange x.slots ((s.rxStream i).distance (s.rxStream i).release) h })) i _ _ _

/-! ## One expiry -/

section
variable {h : Nat} (resting : (s.rxStream i).Resting) (found : heldFrom (s.rxStream i).slots ((s.rxStream i).distance (s.rxStream i).release) = some h)
include resting found

theorem skipTo_run : ((s.skipTo i h).rxStream i).heldRun = (s.rxStream i).runFrom h := by
  rw [RxStream.heldRun_of_shape (s.skipTo_shape i h), RxStream.skippedTo_heldRun resting.toDivided found]

omit found in
theorem skipTo_small : ((s.skipTo i h).rxStream i).slots.length < 4294967296 := by
  have small := resting.tracking.length_le
  rw [RxStream.slots_of_shape (s.skipTo_shape i h), RxStream.skippedTo, skipRange_length]
  omega

/-- What one expiry writes and hands on (R116): the GAP record, then the deliveries of the run. -/
theorem expireOnce_handed : let x := s.rxStream i
    let q := x.base + BitVec.ofNat 32 h
    ∃ v : State, s.Logged [⟨s.time.tod, s.time.quality, .gap i x.release (h - x.distance x.release) .hold⟩] v
      ∧ v.localPort = s.localPort ∧ v.time = s.time ∧ (v.rxStream i).records = x.records
      ∧ Handed i v (heldFrames i q (x.runFrom h)) (heldRecords i q (x.runFrom h) s.stamp) (s.expireOnce i) := by
  have before := resting.before found
  obtain ⟨time, lane⟩ := s.skipTo_same i h
  have rx := s.skipTo_rx (i := i) before
  obtain ⟨handed, -⟩ := releaseWalk_handed (skipTo_small resting)
  have release : ((s.skipTo i h).rxStream i).release = (s.rxStream i).base + BitVec.ofNat 32 h := by rw [rx]; rfl
  rw [skipTo_run resting found, release, stamp_congr time] at handed
  refine ⟨s.skipTo i h, skipTo_logged before, lane, time, by rw [rx]; rfl, ?_⟩
  rw [State.expireOnce_of_some found]
  exact handed.before (formDeadline_handed _ i)

/-- The stream after one expiry (R116). -/
theorem expireOnce_rx : let x := s.rxStream i
    let y := (s.expireOnce i).rxStream i
    y = { (x.expiredAt h).deadlined with
      gaps := min 4294967295 (x.gaps + (h - x.distance x.release)), overflow := y.overflow } := by
  dsimp only
  have before := resting.before found
  have rx := s.skipTo_rx (i := i) before
  obtain ⟨-, walked⟩ := releaseWalk_handed (skipTo_small resting)
  have counted := walked.trans (State.formDeadline_counts _ i)
  rw [← State.expireOnce_of_some found] at counted
  have shape := State.expireOnce_shape (s := s) (i := i) (by have := resting.tracking.length_le; omega)
  rw [RxStream.expired_eq resting.toDivided found] at shape
  obtain ⟨⟨accepted, duplicates, late, resyncs, rejected⟩, gaps⟩ := counted
  rw [rx] at accepted duplicates late resyncs rejected gaps
  exact RxStream.eq_of_shape (x := { ((s.rxStream i).expiredAt h).deadlined with
    gaps := min 4294967295 ((s.rxStream i).gaps + (h - (s.rxStream i).distance (s.rxStream i).release)) }) shape
    ⟨accepted, duplicates, late, resyncs, rejected⟩ gaps

theorem expireOnce_run : let x := s.rxStream i
    let y := (s.expireOnce i).rxStream i
    y = { x with
      slots := (x.expiredAt h).slots, release := (x.expiredAt h).release
      gaps := min 4294967295 (x.gaps + (h - x.distance x.release)), holdDeadline := y.deadlineFormed, overflow := y.overflow } := by
  dsimp only
  have rx := expireOnce_rx resting found
  dsimp only at rx
  generalize (s.expireOnce i).rxStream i = y at rx
  have formed : y.deadlineFormed = ((s.rxStream i).expiredAt h).deadlineFormed :=
    RxStream.deadlineFormed_congr (by rw [rx]; rfl) (by rw [rx]; rfl)
  rw [formed]
  rw [RxStream.deadlined_eq] at rx
  exact rx

end

/-! ## All expiries that are due -/

theorem Ready.found {x : RxStream} (ready : x.Ready) {d : Nat} (deadline : x.holdDeadline = some d) :
    ∃ h, heldFrom x.slots (x.distance x.release) = some h := by
  cases found : heldFrom x.slots (x.distance x.release) with
  | some h => exact ⟨h, rfl⟩
  | none =>
    have free : ∀ y ∈ x.slots, y.isHeld = false := by
      intro y member
      obtain ⟨k, slot⟩ := List.mem_iff_getElem?.mp member
      rcases Nat.lt_or_ge k (x.distance x.release) with lt | ge
      · have settled := ready.divided.settled k y slot lt
        cases y with
        | held => cases settled
        | empty | done | skipped => rfl
      · exact heldFrom_eq_none found ge slot
    rw [ready.deadline.mpr free] at deadline
    cases deadline

section
variable (ready : (s.rxStream i).Ready) (due : s.streamHoldDue i = true)
include ready

theorem expireOnce_ready : ((s.expireOnce i).rxStream i).Ready :=
  ready.expired.of_shape (State.expireOnce_shape (by have := ready.tracking.length_le; omega))

include due

theorem expireOnce_found : ∃ h, heldFrom (s.rxStream i).slots ((s.rxStream i).distance (s.rxStream i).release) = some h := by
  obtain ⟨d, deadline, -⟩ := streamHoldDue_iff.mp due
  exact Ready.found ready deadline

theorem expireOnce_fewer : ((s.expireOnce i).rxStream i).heldCount < (s.rxStream i).heldCount := by
  obtain ⟨h, found⟩ := expireOnce_found ready due
  have shape := State.expireOnce_shape (s := s) (i := i) (by have := ready.tracking.length_le; omega)
  unfold RxStream.heldCount
  rw [RxStream.slots_of_shape shape]
  exact RxStream.heldCount_expired ready.toDivided found

theorem expireOnce_from : (s.rxStream i).ExpiredFrom ((s.expireOnce i).rxStream i) := by
  obtain ⟨h, found⟩ := expireOnce_found ready due
  have shape := State.expireOnce_shape (s := s) (i := i) (by have := ready.tracking.length_le; omega)
  have tracking := ready.expired.tracking.tracked
  have rx := expireOnce_run ready.toResting found
  dsimp only at rx
  refine ⟨?_, ?_⟩
  · generalize (s.expireOnce i).rxStream i = y at rx
    rw [rx]
  · have front : ((s.rxStream i).expired).distance (s.rxStream i).expired.front = (s.rxStream i).distance (s.rxStream i).front := by
      rw [RxStream.expired_eq ready.toDivided found]
      rfl
    rw [RxStream.slots_of_shape shape, tracking, front, ready.tracking.tracked]

end

/-- With fuel for every HELD slot the expiries end with none due (R116 step 4). -/
theorem expireUpTo_done {fuel : Nat} (ready : (s.rxStream i).Ready) (enough : (s.rxStream i).heldCount < fuel) :
    (State.expireUpTo fuel s i).streamHoldDue i = false ∧ (s.rxStream i).ExpiredFrom ((State.expireUpTo fuel s i).rxStream i) := by
  induction fuel generalizing s with
  | zero => exact absurd enough (Nat.not_lt_zero _)
  | succ fuel ih =>
    cases due : s.streamHoldDue i with
    | false =>
      rw [expireUpTo_early due]
      exact ⟨due, .refl _⟩
    | true =>
      have fewer := expireOnce_fewer ready due
      obtain ⟨ended, rest⟩ := ih (expireOnce_ready ready) (by omega)
      rw [expireUpTo_due due]
      exact ⟨ended, (expireOnce_from ready due).trans rest⟩

/-- More fuel than HELD slots makes no difference. -/
theorem expireUpTo_fuel {fuel fuel' : Nat} (ready : (s.rxStream i).Ready) (enough : (s.rxStream i).heldCount < fuel)
    (enough' : (s.rxStream i).heldCount < fuel') : State.expireUpTo fuel s i = State.expireUpTo fuel' s i := by
  induction fuel generalizing s fuel' with
  | zero => exact absurd enough (Nat.not_lt_zero _)
  | succ fuel ih =>
    cases fuel' with
    | zero => exact absurd enough' (Nat.not_lt_zero _)
    | succ fuel' =>
      cases due : s.streamHoldDue i with
      | false => rw [expireUpTo_early due, expireUpTo_early due]
      | true =>
        have fewer := expireOnce_fewer ready due
        rw [expireUpTo_due due, expireUpTo_due due]
        exact ih (expireOnce_ready ready) (by omega) (by omega)

theorem heldCount_lt (x : RxStream) : x.heldCount < x.slots.length + 1 := Nat.lt_succ_of_le List.countP_le_length

theorem expireAll_done (ready : (s.rxStream i).Ready) :
    (s.expireAll i).streamHoldDue i = false ∧ (s.rxStream i).ExpiredFrom ((s.expireAll i).rxStream i) :=
  expireUpTo_done ready (heldCount_lt _)

/-- Expiries follow one another within the input (R116 step 4). -/
theorem expireAll_due (ready : (s.rxStream i).Ready) (due : s.streamHoldDue i = true) : s.expireAll i = (s.expireOnce i).expireAll i := by
  have fewer := expireOnce_fewer ready due
  have within := heldCount_lt (s.rxStream i)
  refine (expireUpTo_due due).trans (expireUpTo_fuel (expireOnce_ready ready) (by omega) (heldCount_lt _))

theorem windowed_ready_of_deadline {d : Nat} (windowed : (s.rxStream i).Windowed) (deadline : (s.rxStream i).holdDeadline = some d) :
    (s.rxStream i).Ready := by
  obtain ⟨-, -, unsynced, -, immediate, -⟩ := id windowed
  have synced : (s.rxStream i).synced = true := by
    by_contra off
    rw [(unsynced (Bool.eq_false_iff.mpr off)).2] at deadline
    cases deadline
  have ordered : (s.rxStream i).ordered = true := by
    by_contra off
    rw [(immediate (Bool.eq_false_iff.mpr off)).1] at deadline
    cases deadline
  exact windowed.ready synced ordered

theorem windowed_ready_of_held {h : Nat} {info : SlotInfo} {f : HeldFrame} (windowed : (s.rxStream i).Windowed)
    (held : (s.rxStream i).slots[h]? = some (.held info f)) : (s.rxStream i).Ready := by
  obtain ⟨-, -, unsynced, -, immediate, -⟩ := id windowed
  have synced : (s.rxStream i).synced = true := by
    by_contra off
    rw [(unsynced (Bool.eq_false_iff.mpr off)).1] at held
    cases held
  have ordered : (s.rxStream i).ordered = true := by
    by_contra off
    cases (immediate (Bool.eq_false_iff.mpr off)).2 _ (List.mem_of_getElem? held)
  exact windowed.ready synced ordered

end State
end Sys2Proof.Machine

/-! O45: a hold expiry skips the missing sequences and delivers the next HELD frames. -/

namespace Sys2Proof.Machine

theorem RxStream.runFrom_single {x : RxStream} {h : Nat} {info : SlotInfo} {f : HeldFrame} (held : x.slots[h]? = some (.held info f))
    (alone : ∀ (k : Nat) (y : Slot), k ≠ h → x.slots[k]? = some y → y.isHeld = false) : x.runFrom h = [.held info f] := by
  obtain ⟨inside, slot⟩ := List.getElem?_eq_some_iff.mp held
  unfold RxStream.runFrom
  rw [List.drop_eq_getElem_cons inside, slot, List.takeWhile_cons_of_pos rfl]
  congr 1
  cases rest : x.slots.drop (h + 1) with
  | nil => rfl
  | cons y l =>
    have next : x.slots[h + 1]? = some y := by rw [← List.head?_drop, rest, List.head?_cons]
    have free : y.isHeld = false := alone (h + 1) y (Nat.succ_ne_self h) next
    rw [List.takeWhile_cons_of_neg (by rw [free]; exact Bool.false_ne_true)]

namespace State
variable {i : StreamId} {s : State}

theorem exec_holdExpiry (i : StreamId) (s : State) : exec (.holdExpiry i) s = .next (s.expireAll i) := rfl

theorem frames_single (i : StreamId) (q : Seq) (info : SlotInfo) (f : HeldFrame) :
    heldFrames i q [.held info f] = [⟨i, f.payload, q, info.path, f.arrival⟩] := by
  rw [heldFrames_eq, yields_singleton]
  rfl

/-- With one HELD slot the expiry is the last one (R116). -/
theorem expireAll_single {h : Nat} {info : SlotInfo} {f : HeldFrame} (ready : (s.rxStream i).Ready) (due : s.streamHoldDue i = true)
    (held : (s.rxStream i).slots[h]? = some (.held info f))
    (alone : ∀ (k : Nat) (y : Slot), k ≠ h → (s.rxStream i).slots[k]? = some y → y.isHeld = false) :
    let x := s.rxStream i
    let r := (x.release - x.base).toNat
    let t := s.expireAll i
    let y := t.rxStream i
    y.slots = x.slots.take r ++ List.replicate (h - r) .skipped ++ [.done info] ++ x.slots.drop (h + 1)
      ∧ y.release = x.base + BitVec.ofNat 32 (h + 1) ∧ y.holdDeadline = none ∧ y.gaps = min 4294967295 (x.gaps + (h - r))
      ∧ (s.log.records.length ≤ 1000 →
          t.log.records[s.log.records.length]? = some ⟨s.log.next, s.time.tod, s.time.quality, .gap i x.release (h - r) .hold⟩)
      ∧ (s.localPort.inProgress ≠ none → s.localPort.queue.length < 64 →
          t.localPort.queue = s.localPort.queue ++ [⟨i, f.payload, x.base + BitVec.ofNat 32 h, info.path, f.arrival⟩]) := by
  dsimp only
  have free (y : Slot) (member : y ∈ (s.rxStream i).slots.take h) : y.isHeld = false := by
    obtain ⟨k, at_k⟩ := List.mem_iff_getElem?.mp member
    rw [List.getElem?_take] at at_k
    split at at_k
    · exact alone k y (by omega) at_k
    · cases at_k
  have found := ready.divided.found held free
  have run := RxStream.runFrom_single held alone
  have rx := expireOnce_run ready.toResting found
  obtain ⟨v, gap, lane, -, -, handed⟩ := expireOnce_handed ready.toResting found
  dsimp only at rx handed
  rw [run, frames_single] at handed
  have fewer := expireOnce_fewer ready due
  have one : (s.rxStream i).heldCount ≤ 1 := by
    have before : ((s.rxStream i).slots.take h).countP Slot.isHeld = 0 :=
      List.countP_eq_zero.mpr fun y member => by rw [free y member]; exact Bool.false_ne_true
    have after : ((s.rxStream i).slots.drop (h + 1)).countP Slot.isHeld = 0 := by
      refine List.countP_eq_zero.mpr fun y member => ?_
      obtain ⟨k, at_k⟩ := List.mem_iff_getElem?.mp member
      rw [List.getElem?_drop] at at_k
      rw [alone _ y (by omega) at_k]
      exact Bool.false_ne_true
    obtain ⟨inside, slot⟩ := List.getElem?_eq_some_iff.mp held
    unfold RxStream.heldCount
    rw [← List.take_append_drop h (s.rxStream i).slots, List.countP_append, before, List.drop_eq_getElem_cons inside, slot,
      List.countP_cons_of_pos rfl, after]
  have none_left : ∀ y ∈ ((s.expireOnce i).rxStream i).slots, y.isHeld = false := by
    intro y member
    have zero : ((s.expireOnce i).rxStream i).heldCount = 0 := by omega
    simpa using List.countP_eq_zero.mp zero y member
  have formed : ((s.expireOnce i).rxStream i).holdDeadline = none := by
    rw [rx]
    exact RxStream.deadlineFormed_eq_none none_left
  have last : s.expireAll i = s.expireOnce i := by
    rw [expireAll_due ready due]
    exact State.expireAll_of_none formed
  rw [last]
  refine ⟨?_, ?_, formed, ?_, fun space => ?_, fun busy room => ?_⟩
  · rw [rx]
    simp only [RxStream.expiredAt, run]
    rfl
  · rw [rx]
    simp only [RxStream.expiredAt, run]
    rfl
  · rw [rx]
    rfl
  · obtain ⟨l, logged, few, -⟩ := handed.log
    have short : (heldRecords i ((s.rxStream i).base + BitVec.ofNat 32 h) [.held info f] s.stamp).length ≤ 1 := by
      rw [heldRecords_eq]
      exact yields_length_le _ _ _
    have joined := gap.trans logged
    rw [List.singleton_append] at joined
    exact joined.first (by rw [List.length_cons]; have := few.trans short; omega)
  · have room' : v.HasRoom 1 := ⟨by rw [lane]; exact busy, by rw [lane]; exact room⟩
    rw [handed.queue room', lane]

end State

/-- Settles O45: one expiry skips to the lowest HELD slot and delivers the run there; expiries follow while one is due. -/
theorem holdExpiryAdvances : Obligations.HoldExpiryAdvances := by
  intro s i d deadline
  rw [State.exec_holdExpiry]
  refine ⟨fun early => ?_, fun late windowed => ?_, fun late windowed => ?_, fun windowed h info f held free => ?_⟩
  · refine congrArg _ (State.expireAll_early (State.streamHoldDue_eq_false.mpr fun d' at_d => ?_))
    rw [deadline] at at_d
    cases at_d
    exact early
  · have ready := State.windowed_ready_of_deadline windowed deadline
    have due : s.streamHoldDue i = true := State.streamHoldDue_iff.mpr ⟨d, deadline, late⟩
    obtain ⟨ended, moved, same⟩ := State.expireAll_done ready
    obtain ⟨frame, others, raised⟩ := s.expireAll_mergeOnly i
    have time : (s.expireAll i).time = s.time := by rw [frame]
    refine ⟨_, rfl, (State.expireAll_ready ready).windowed, ?_, moved, same, others, raised,
      fun h info f held alone => State.expireAll_single ready due held alone, frame⟩
    have past := State.streamHoldDue_eq_false.mp ended
    unfold State.mono at past ⊢
    rwa [time] at past
  · have ready := State.windowed_ready_of_deadline windowed deadline
    have due : s.streamHoldDue i = true := State.streamHoldDue_iff.mpr ⟨d, deadline, late⟩
    have time : (s.expireOnce i).time = s.time := by rw [(s.expireOnce_mergeOnly i).1]
    intro u
    refine ⟨fun early => ?_, fun again => ?_⟩
    · rw [State.expireAll_due ready due]
      refine congrArg _ (State.expireAll_early (State.streamHoldDue_eq_false.mpr ?_))
      unfold State.mono at early ⊢
      rwa [time]
    · rw [State.expireAll_due ready due]
      rfl
  · have ready := State.windowed_ready_of_held windowed held
    have found := ready.divided.found held free
    obtain ⟨frame, others, raised⟩ := s.expireOnce_mergeOnly i
    obtain ⟨v, gap, lane, time, records, handed⟩ := State.expireOnce_handed ready.toResting found
    intro x r run u y
    refine ⟨State.expireOnce_run ready.toResting found, fun busy room => ?_, others, raised, frame⟩
    have few : (heldFrames i (x.base + BitVec.ofNat 32 h) run).length ≤ run.length := by
      rw [heldFrames_eq]
      exact yields_length_le _ _ _
    have short : (heldRecords i (x.base + BitVec.ofNat 32 h) run s.stamp).length ≤ run.length := by
      rw [heldRecords_eq]
      exact yields_length_le _ _ _
    have room' : v.HasRoom (heldFrames i (x.base + BitVec.ofNat 32 h) run).length := by
      refine ⟨by rw [lane]; exact busy, ?_⟩
      rw [lane]
      omega
    refine ⟨(handed.queue room').trans (by rw [lane]; rfl), fun on space => ?_⟩
    obtain ⟨l, logged, le, exact⟩ := handed.log
    have bodies := exact room' (records.trans on)
    have le' : l.length ≤ run.length := le.trans short
    rw [(gap.trans logged).written (by rw [List.length_append, List.length_singleton]; omega), List.map_append, bodies]
    rfl

end Sys2Proof.Machine

/-! Resynchronizations, the commands of a stream, and O44 (R102, R122, R124, R125). -/

namespace Sys2Proof.Machine

/-- A stream that has forgotten its window (R122). -/
def RxStream.forgotten (x : RxStream) : RxStream := { x with slots := [], holdDeadline := none, synced := false }

namespace State
variable {i : StreamId} {s t u : State}

/-- The HELD frames of an ORDERED stream delivered, before the window is forgotten (R122 step 1). -/
def flushed (s : State) (i : StreamId) : State :=
  if (s.rxStream i).ordered then s.releaseFirst i (s.rxStream i).slots.length else s

/-- The window forgotten, before the RESYNC record. -/
def unsynced (s : State) (i : StreamId) : State := (s.flushed i).modRx i RxStream.forgotten

theorem resync_eq (s : State) (i : StreamId) (cause : ResyncCause) (new : Option Seq) : s.resync i cause new
    = ((s.unsynced i).logWrite (.resync i (s.rxStream i).front cause new)).modRx i (fun x => { x with resyncs := inc32 x.resyncs }) := rfl

theorem flushed_counts (s : State) (i : StreamId) : CountsKept i s (s.flushed i) := by
  unfold flushed
  split
  · exact s.releaseFirst_counts i _
  · exact .refl i s

theorem flushed_immediate (immediate : (s.rxStream i).ordered = false) : s.flushed i = s :=
  if_neg (by rw [immediate]; exact Bool.false_ne_true)

theorem flushed_handed (s : State) (i : StreamId) (ordered : (s.rxStream i).ordered = true) : let x := s.rxStream i
    Handed i s (heldFrames i x.base x.slots) (heldRecords i x.base x.slots s.stamp) (s.flushed i) := by
  have handed := s.releaseFirst_handed i (s.rxStream i).slots.length
  dsimp only at handed
  rw [List.take_length] at handed
  unfold flushed
  rw [if_pos ordered]
  exact handed

theorem flushed_time (s : State) (i : StreamId) : (s.flushed i).time = s.time := by
  unfold flushed
  split
  · rw [(s.releaseFirst_mergeOnly i _).1]
  · rfl

/-- The stream after a resynchronization (R122). -/
theorem resync_rx (s : State) (i : StreamId) (cause : ResyncCause) (new : Option Seq) : let y := (s.resync i cause new).rxStream i
    y = { (s.rxStream i).forgotten with resyncs := min 4294967295 ((s.rxStream i).resyncs + 1), overflow := y.overflow } := by
  have shape := s.resync_shape i cause new
  have moved : (s.resync i cause new).rxStream i
      = { ((s.flushed i).rxStream i).forgotten with resyncs := inc32 ((s.flushed i).rxStream i).resyncs } := by
    rw [resync_eq, State.modRx_rxStream_self, State.logWrite_rxStream, unsynced, State.modRx_rxStream_self]
    rfl
  obtain ⟨⟨accepted, duplicates, late, resyncs, rejected⟩, gaps⟩ := s.flushed_counts i
  dsimp only
  generalize (s.resync i cause new).rxStream i = y at shape moved
  refine RxStream.eq_of_shape (x := { (s.rxStream i).forgotten with
    resyncs := min 4294967295 ((s.rxStream i).resyncs + 1) }) shape ⟨?_, ?_, ?_, ?_, ?_⟩ ?_
  · rw [moved]; exact accepted
  · rw [moved]; exact duplicates
  · rw [moved]; exact late
  · rw [moved, ← resyncs]; rfl
  · rw [moved]; exact rejected
  · rw [moved]; exact gaps

/-- The RESYNC record is the last one written. -/
theorem resync_last (s : State) (i : StreamId) (cause : ResyncCause) (new : Option Seq) :
    (s.resync i cause new).log.records.getLast?
      = some ⟨(s.resync i cause new).log.next - 1, s.time.tod, s.time.quality, .resync i (s.rxStream i).front cause new⟩ := by
  rw [resync_eq]
  have last := State.logWrite_last (s.unsynced i) (.resync i (s.rxStream i).front cause new)
  have next := State.logWrite_next (s.unsynced i) (.resync i (s.rxStream i).front cause new)
  have time : (s.unsynced i).time = s.time := s.flushed_time i
  rw [time] at last
  show ((s.unsynced i).logWrite (.resync i (s.rxStream i).front cause new)).log.records.getLast?
    = some ⟨((s.unsynced i).logWrite (.resync i (s.rxStream i).front cause new)).log.next - 1, _, _, _⟩
  rw [last, next, BitVec.add_sub_cancel]

/-- The HELD frames are handed on and the RESYNC record follows. -/
theorem resync_handed (s : State) (i : StreamId) (cause : ResyncCause) (new : Option Seq) (ordered : (s.rxStream i).ordered = true) :
    let x := s.rxStream i
    Handed i s (heldFrames i x.base x.slots) (heldRecords i x.base x.slots s.stamp ++ [.resync i x.front cause new])
      (s.resync i cause new) := by
  have handed := (s.flushed_handed i ordered).before (handed_modRx _ i RxStream.forgotten rfl)
  obtain ⟨time, lane⟩ := State.logWrite_kept (s.unsynced i) (.resync i (s.rxStream i).front cause new)
  have noted : Handed i (s.unsynced i) [] [.resync i (s.rxStream i).front cause new]
      ((s.unsynced i).logWrite (.resync i (s.rxStream i).front cause new)) :=
    ⟨time, by rw [State.logWrite_rxStream], .of_same lane, _, State.logWrite_logged _ _, Nat.le_refl _, fun _ _ => rfl⟩
  have joined := Handed.trans handed (noted.before (handed_modRx _ i (fun x => { x with resyncs := inc32 x.resyncs }) rfl))
  rw [List.append_nil] at joined
  exact joined

theorem resync_immediate (s : State) (i : StreamId) (cause : ResyncCause) (new : Option Seq) (immediate : (s.rxStream i).ordered = false) :
    (s.resync i cause new).localPort = s.localPort ∧ (s.resync i cause new).log.next = s.log.next + 1 := by
  have flushed := flushed_immediate immediate
  have unsynced : s.unsynced i = s.modRx i RxStream.forgotten := by unfold State.unsynced; rw [flushed]
  rw [resync_eq, unsynced]
  exact ⟨(State.logWrite_kept (s.modRx i RxStream.forgotten) _).2, State.logWrite_next _ _⟩

end State

/-! ## The commands -/

theorem exec_setStream (port : Port) (args : List Byte) (s : State) : exec (.setStream port args) s
    = .next (s.command port (streamArgs args) Role.gates (fun a t => t.setStream a)) := rfl

theorem exec_resyncStream (port : Port) (args : List Byte) (s : State) : exec (.resyncStream port args) s
    = .next (s.command port (oneByte args) Role.gates (fun index t => t.resyncStream index)) := rfl

theorem exec_setTxSequence (port : Port) (args : List Byte) (s : State) : exec (.setTxSequence port args) s
    = .next (s.command port (byteAndLong args) Role.gates (fun a t => t.setTxSequence a.1 a.2)) := rfl

theorem byteAndLong_bytes (b : Byte) (v : Nat) : byteAndLong ([b] ++ leBytes 4 v) = some (b.toNat, v % 4294967296) := by
  have read : byteAndLong ([b] ++ leBytes 4 v) = some (b.toNat, leNat (leBytes 4 v)) := rfl
  rw [read, leNat_leBytes]
  rfl

theorem streamArgs_bytes (b rx tx w m q r : Byte) {hold : Nat} (range : hold < 65536) :
    streamArgs ([b, rx, tx, w, m] ++ leBytes 2 hold ++ [q, r])
      = some ⟨b.toNat, rx.toNat, tx.toNat, w.toNat, m.toNat, hold, q.toNat, r.toNat⟩ := by
  have read : streamArgs ([b, rx, tx, w, m] ++ leBytes 2 hold ++ [q, r])
      = some ⟨b.toNat, rx.toNat, tx.toNat, w.toNat, m.toNat, leNat (leBytes 2 hold), q.toNat, r.toNat⟩ := rfl
  rw [read, leNat_leBytes_two range]

theorem StreamArgs.reshapes_eq_false {a : StreamArgs} {x : RxStream} : a.reshapes x = false
    ↔ (a.store x).enabled = x.enabled ∧ (a.store x).windowCode = x.windowCode ∧ (a.store x).ordered = x.ordered := by
  unfold StreamArgs.reshapes
  simp only [Bool.or_eq_false_iff, bne_eq_false_iff_eq, and_assoc]

theorem StreamArgs.codesOk_iff {a : StreamArgs} : a.codesOk = true
    ↔ a.rxEnable ≤ 1 ∧ a.txEnable ≤ 1 ∧ a.mode ≤ 1 ∧ a.records ≤ 1 ∧ a.windowCode ≤ 7 ∧ a.resyncCode ≤ 15 := decide_eq_true_iff

theorem StreamArgs.store_eq (a : StreamArgs) (x : RxStream) : a.store x = { x with
    enabled := decide (a.rxEnable = 1), windowCode := min 4 a.windowCode, ordered := decide (a.mode = 1)
    holdTime := max 1 a.holdTime, resyncCode := min 12 a.resyncCode, records := decide (a.records = 1) } := by
  unfold StreamArgs.store
  simp only [beq_eq_decide]

namespace State
variable {i : StreamId} {s t u : State}

theorem setStream_above {a : StreamArgs} (above : 7 < a.stream) : s.setStream a = .error .argument := by
  unfold State.setStream
  rw [streamOfCode_eq_none above]

theorem setStream_bad {a : StreamArgs} (named : a.stream = i.val) (bad : a.codesOk = false) : s.setStream a = .error .argument := by
  unfold State.setStream
  rw [named, streamOfCode_val, bad]
  rfl

/-- The settings stored, after a resynchronization where one is due (R125). -/
def streamStored (s : State) (i : StreamId) (a : StreamArgs) : State :=
  (s.modRx i a.store).modTx i (fun t => { t with enabled := a.txEnable == 1 })

theorem streamStored_rx (s : State) (i : StreamId) (a : StreamArgs) : (s.streamStored i a).rxStream i = a.store (s.rxStream i) :=
  State.modRx_rxStream_self s i a.store

theorem setStream_keeps {a : StreamArgs} (named : a.stream = i.val) (ok : a.codesOk = true) (keeps : a.reshapes (s.rxStream i) = false) :
    s.setStream a = .ok (s.streamStored i a) := by
  unfold State.setStream
  rw [named, streamOfCode_val, ok]
  dsimp only
  rw [keeps]
  rfl

theorem setStream_reshapes {a : StreamArgs} (named : a.stream = i.val) (ok : a.codesOk = true)
    (reshapes : a.reshapes (s.rxStream i) = true) : s.setStream a = .ok ((s.resync i .config none).streamStored i a) := by
  unfold State.setStream
  rw [named, streamOfCode_val, ok]
  dsimp only
  rw [reshapes]
  rfl

theorem setTxSequence_above {n v : Nat} (above : 7 < n) : s.setTxSequence n v = .error .argument := by
  unfold State.setTxSequence
  rw [streamOfCode_eq_none above]

theorem setTxSequence_val {n v : Nat} (named : n = i.val) :
    s.setTxSequence n v = .ok (s.modTx i (fun t => { t with next := BitVec.ofNat 32 v })) := by
  unfold State.setTxSequence
  rw [named, streamOfCode_val]

theorem resyncStream_above {n : Nat} (above : 7 < n) : s.resyncStream n = .error .argument := by
  unfold State.resyncStream
  rw [streamOfCode_eq_none above]

theorem resyncStream_val {n : Nat} (named : n = i.val) : s.resyncStream n = .ok (s.resync i .command none) := by
  unfold State.resyncStream
  rw [named, streamOfCode_val]

/-- What a resynchronization by command leaves of the log, the lane and the other tables; `stored` is what the command then
stores of the stream. -/
structure Resynced (i : StreamId) (cause : ResyncCause) (s t : State) : Prop where
  last : t.log.records.getLast? = some ⟨t.log.next - 1, s.time.tod, s.time.quality, .resync i (s.rxStream i).front cause none⟩
  others : ∀ j, j ≠ i → t.rxStream j = s.rxStream j
  delivered : (s.rxStream i).ordered = true → s.Queued (heldFrames i (s.rxStream i).base (s.rxStream i).slots) t
  immediate : (s.rxStream i).ordered = false → t.localPort = s.localPort ∧ t.log.next = s.log.next + 1
  frame : t = { s with rxStreams := t.rxStreams, txStreams := t.txStreams, localPort := t.localPort, log := t.log, ports := t.ports }

theorem resync_resynced (s : State) (i : StreamId) (cause : ResyncCause) : Resynced i cause s (s.resync i cause none) := by
  obtain ⟨frame, others, -⟩ := s.resync_mergeOnly i cause none
  refine ⟨s.resync_last i cause none, others, fun ordered => (s.resync_handed i cause none ordered).lane,
    s.resync_immediate i cause none, ?_⟩
  have sent : (s.resync i cause none).txStreams = s.txStreams := by rw [frame]
  rw [sent]
  exact frame

theorem Resynced.streamStored {cause : ResyncCause} (h : Resynced i cause s t) (a : StreamArgs) : Resynced i cause s (t.streamStored i a) := by
  obtain ⟨last, others, delivered, immediate, frame⟩ := h
  refine ⟨last, fun j other => ?_, delivered, immediate, ?_⟩
  · rw [← others j other]
    exact State.modRx_rxStream_ne t i _ other
  · clear last others delivered immediate
    generalize t.rxStreams = rx, t.txStreams = tx, t.localPort = lane, t.log = log, t.ports = ports at frame
    subst frame
    rfl

end State

/-- Settles O44: the codes are checked; a resynchronization comes before the settings are stored. -/
theorem streamCommandsTaken : Obligations.StreamCommandsTaken := by
  intro s port ready role
  have right : Role.gates (s.port port).role = true := by
    rcases role with is | is <;> rw [is] <;> rfl
  refine ⟨fun b above => ⟨?_, fun v => ?_, fun b1 b2 b3 b4 b5 b6 b7 b8 => ?_⟩, fun i b named => ?_⟩
  · exact congrArg _ (s.command_refused port _ _ _ .argument ready right (State.resyncStream_above above))
  · rw [exec_setTxSequence, byteAndLong_bytes]
    exact congrArg _ (s.command_refused port _ _ _ .argument ready right (State.setTxSequence_above above))
  · exact congrArg _ (s.command_refused port _ _ _ .argument ready right (State.setStream_above (a :=
      ⟨b.toNat, b1.toNat, b2.toNat, b3.toNat, b4.toNat, leNat [b5, b6], b7.toNat, b8.toNat⟩) above))
  intro x waiting resynced
  have shown (cause : ResyncCause) (t : State) (h : State.Resynced i cause (s.beginTransaction port) t) :
      resynced cause (t.setResult port .ok) := by
    obtain ⟨last, others, delivered, immediate, frame⟩ := h
    refine ⟨last, others, fun ordered busy room => ?_, immediate, ?_, ?_⟩
    · have lane := delivered ordered ⟨busy, room⟩
      exact congrArg LocalPort.queue lane
    · exact congrArg PortCtx.lastResult (t.modPort_port_self port (fun c => { c with lastResult := .ok }))
    · clear last others delivered immediate
      generalize t.rxStreams = rx, t.txStreams = tx, t.localPort = lane, t.log = log, t.ports = ports at frame
      subst frame
      rfl
  refine ⟨fun v range => ?_, ⟨((s.beginTransaction port).resync i .command none).setResult port .ok, ?_, shown _ _ (State.resync_resynced _ i _), ?_, ?_⟩,
    fun rx tx w m q r hold range => ?_⟩
  · rw [exec_setTxSequence, byteAndLong_bytes, Nat.mod_eq_of_lt range,
      s.command_taken _ port _ _ _ ready right (State.setTxSequence_val named), ← State.beginTransaction_setResult]
    rfl
  · exact congrArg _ (s.command_taken _ port _ _ _ ready right (State.resyncStream_val named))
  · have frame := ((s.beginTransaction port).resync_mergeOnly i .command none).1
    show ((s.beginTransaction port).resync i .command none).txStreams = s.txStreams
    rw [frame]
    rfl
  · exact (s.beginTransaction port).resync_rx i .command none
  intro c ranges stored same
  have read := streamArgs_bytes b rx tx w m q r range
  have stores (y : RxStream) : StreamArgs.store ⟨b.toNat, rx.toNat, tx.toNat, w.toNat, m.toNat, hold, q.toNat, r.toNat⟩ y = stored y :=
    StreamArgs.store_eq _ y
  have codes : StreamArgs.codesOk ⟨b.toNat, rx.toNat, tx.toNat, w.toNat, m.toNat, hold, q.toNat, r.toNat⟩ = true ↔ ranges :=
    StreamArgs.codesOk_iff
  have keeps : StreamArgs.reshapes ⟨b.toNat, rx.toNat, tx.toNat, w.toNat, m.toNat, hold, q.toNat, r.toNat⟩ x = false ↔ same := by
    rw [StreamArgs.reshapes_eq_false, stores]
  have runs : exec c s = .next (s.command port (some ⟨b.toNat, rx.toNat, tx.toNat, w.toNat, m.toNat, hold, q.toNat, r.toNat⟩)
      Role.gates (fun a t => t.setStream a)) := by
    rw [← read]
    rfl
  generalize args : (⟨b.toNat, rx.toNat, tx.toNat, w.toNat, m.toNat, hold, q.toNat, r.toNat⟩ : StreamArgs) = a at *
  have stream : a.stream = i.val := by rw [← args]; exact named
  have sends : a.txEnable = tx.toNat := by rw [← args]
  have store : a.store = stored := funext stores
  have enable : (fun t : TxStream => { t with enabled := a.txEnable == 1 })
      = fun t => { t with enabled := decide (tx.toNat = 1) } := by
    rw [sends, beq_eq_decide]
  rw [runs]
  refine ⟨fun bad => ?_, fun ok kept => ?_, fun ok changes => ?_⟩
  · exact congrArg _ (s.command_refused port _ _ _ .argument ready right
      (State.setStream_bad stream (Bool.eq_false_iff.mpr fun on => bad (codes.mp on))))
  · rw [s.command_taken _ port _ _ _ ready right (State.setStream_keeps (s := s.beginTransaction port) stream (codes.mpr ok) (keeps.mpr kept)),
      ← State.beginTransaction_setResult, ← store, ← enable]
    rfl
  · have reshapes : a.reshapes x = true := by
      by_contra off
      exact changes (keeps.mp (Bool.eq_false_iff.mpr off))
    have taken := s.command_taken _ port a Role.gates (fun a t => t.setStream a) ready right (State.setStream_reshapes (s := s.beginTransaction port) stream (codes.mpr ok) reshapes)
    refine ⟨_, congrArg _ taken, shown _ _ ((State.resync_resynced _ i _).streamStored a), ?_, ?_, fun j other => ?_⟩
    · have forgotten := (s.beginTransaction port).resync_rx i .config none
      have moved := ((s.beginTransaction port).resync i .config none).streamStored_rx i a
      dsimp only at forgotten
      have whole : ((((s.beginTransaction port).resync i .config none).streamStored i a).setResult port .ok).rxStream i
          = a.store (((s.beginTransaction port).resync i .config none).rxStream i) := moved
      rw [whole]
      generalize ((s.beginTransaction port).resync i .config none).rxStream i = y at forgotten
      rw [store, forgotten]
      rfl
    · have sent : ((s.beginTransaction port).resync i .config none).txStream i = s.txStream i := by
        rw [((s.beginTransaction port).resync_mergeOnly i .config none).1]
        rfl
      have moved : (((s.beginTransaction port).resync i .config none).streamStored i a).txStream i
          = { ((s.beginTransaction port).resync i .config none).txStream i with enabled := a.txEnable == 1 } := State.modTx_txStream_self _ i _
      rw [sent, sends, beq_eq_decide] at moved
      exact moved
    · have sent : ((s.beginTransaction port).resync i .config none).txStream j = s.txStream j := by
        rw [((s.beginTransaction port).resync_mergeOnly i .config none).1]
        rfl
      rw [← sent]
      exact State.modTx_txStream_ne (((s.beginTransaction port).resync i .config none).modRx i a.store) i
        (fun t => { t with enabled := a.txEnable == 1 }) other

end Sys2Proof.Machine

/-! A first arrival on an ORDERED stream: delivered at the release point, or held ahead of it (R113, R114). -/

namespace Sys2Proof.Machine

/-! ## HELD slots and their arrivals -/

theorem RxStream.mem_heldArrivals {x : RxStream} {a : Nat} :
    a ∈ x.heldArrivals ↔ ∃ info f, Slot.held info f ∈ x.slots ∧ info.arrival = a := by
  rw [RxStream.heldArrivals_eq, List.mem_filterMap]
  constructor
  · rintro ⟨y, member, since⟩
    cases y with
    | held info f => exact ⟨info, f, member, Option.some.inj since⟩
    | empty | done | skipped => cases since
  · rintro ⟨info, f, member, rfl⟩
    exact ⟨_, member, rfl⟩

/-- Where every HELD slot is an old one, so is every arrival. -/
theorem RxStream.heldArrivals_subset {x y : RxStream} (old : ∀ info f, Slot.held info f ∈ y.slots → Slot.held info f ∈ x.slots) {a : Nat}
    (member : a ∈ y.heldArrivals) : a ∈ x.heldArrivals := by
  obtain ⟨info, f, slot, rfl⟩ := mem_heldArrivals.mp member
  exact mem_heldArrivals.mpr ⟨info, f, old info f slot, rfl⟩

theorem Slot.held_not_delivered {info : SlotInfo} {f : HeldFrame} {l : List Slot} : Slot.held info f ∉ l.map Slot.delivered := by
  intro member
  obtain ⟨y, -, same⟩ := List.mem_map.mp member
  cases y <;> cases same

/-- The walk holds nothing anew. -/
theorem RxStream.held_of_walked {x : RxStream} {info : SlotInfo} {f : HeldFrame} (member : Slot.held info f ∈ x.walked.slots) :
    Slot.held info f ∈ x.slots := by
  rw [RxStream.walked_eq] at member
  rcases List.mem_append.mp member with before | after
  · rcases List.mem_append.mp before with early | run
    · exact List.mem_of_mem_take early
    · exact absurd run Slot.held_not_delivered
  · exact List.mem_of_mem_drop after

/-- A path's entry with a win more (R113). -/
def PathEntry.won (e : PathEntry) : PathEntry := { e with stats := { e.stats with wins := min 4294967295 (e.stats.wins + 1) } }

/-! ## At the release point -/

/-- A stream whose slot at place n is taken at the release point, with the HELD run right after it (R114). -/
def RxStream.takenAt (n : Nat) (info : SlotInfo) (x : RxStream) : RxStream :=
  { x with
    slots := x.slots.take n ++ .done info :: (x.runFrom (n + 1)).map Slot.delivered ++ x.slots.drop (n + 1 + (x.runFrom (n + 1)).length)
    release := x.release + 1 + BitVec.ofNat 32 (x.runFrom (n + 1)).length }

/-- The stream right after the delivery at its release point, before the walk. -/
def RxStream.duePassed (info : SlotInfo) (x : RxStream) : RxStream :=
  { x.setAt (x.distance x.release) (.done info) with release := x.release + 1 }

theorem RxStream.duePassed_run {x : RxStream} {info : SlotInfo} (resting : x.Divided) (inside : x.distance x.release < x.slots.length) :
    (RxStream.duePassed info x).heldRun = x.runFrom (x.distance x.release + 1)
      ∧ (RxStream.duePassed info x).walked = RxStream.takenAt (x.distance x.release) info x := by
  have small := resting.tracking.length_le
  have place : (RxStream.duePassed info x).distance (RxStream.duePassed info x).release = x.distance x.release + 1 :=
    RxStream.distance_add (x := x) (k := 1) (by omega)
  have rest (k : Nat) : (RxStream.duePassed info x).slots.drop (x.distance x.release + 1 + k) = x.slots.drop (x.distance x.release + 1 + k) :=
    List.drop_set_of_lt (by omega)
  have run : (RxStream.duePassed info x).heldRun = x.runFrom (x.distance x.release + 1) := by
    unfold RxStream.heldRun RxStream.runFrom
    rw [place]
    exact congrArg (List.takeWhile Slot.isHeld) (rest 0)
  have taken : (RxStream.duePassed info x).slots.take (x.distance x.release + 1) = x.slots.take (x.distance x.release) ++ [.done info] := by
    show (x.slots.set _ _).take _ = _
    rw [List.take_add_one, List.take_set_of_le (Nat.le_refl _), List.getElem?_set_self inside]
    rfl
  refine ⟨run, ?_⟩
  rw [RxStream.walked_eq, place, run, rest, taken]
  unfold RxStream.takenAt RxStream.duePassed
  simp only [List.append_assoc, List.cons_append]
  rfl

namespace State
variable {i : StreamId} {s t u : State} {d : DataArrival}

theorem modRx_congr {g g' : RxStream → RxStream} (same : g (s.rxStream i) = g' (s.rxStream i)) : s.modRx i g = s.modRx i g' := by
  simp only [State.modRx, same]

/-- A stream's counts but overflow and its window: what a delivery leaves. -/
theorem deliver_rx (s : State) (i : StreamId) (d : Delivery) :
    (s.deliver i d).rxStream i = { s.rxStream i with overflow := ((s.deliver i d).rxStream i).overflow } :=
  RxStream.eq_of_shape (s.deliver_shape i d) (s.deliver_counts i d).counts (s.deliver_counts i d).gaps

theorem releaseWalk_rx (small : (s.rxStream i).slots.length < 4294967296) :
    (s.releaseWalk i).rxStream i = { (s.rxStream i).walked with overflow := ((s.releaseWalk i).rxStream i).overflow } := by
  have counts := (releaseWalk_handed small).2
  obtain ⟨⟨accepted, duplicates, late, resyncs, rejected⟩, gaps⟩ := counts
  exact RxStream.eq_of_shape (State.releaseWalk_shape small) ⟨accepted, duplicates, late, resyncs, rejected⟩ gaps

/-! ## The arrival counted -/

theorem countArrival_rx (s : State) (i : StreamId) (d : DataArrival) :
    (s.countArrival i d).rxStream i = { s.rxStream i with accepted := min 4294967295 ((s.rxStream i).accepted + 1) } := by
  rw [State.countArrival, State.modStats_rxStream, State.modRx_rxStream_self]
  rfl

theorem countArrival_entry (s : State) (i : StreamId) (d : DataArrival) (q : Path) :
    (s.countArrival i d).entry q = if q = d.path then (s.entry d.path).won else s.entry q :=
  State.modEntry_entry (s.modRx i (fun x => { x with accepted := inc32 x.accepted })) d.path
    (fun e => { e with stats := { e.stats with wins := inc32 e.stats.wins } }) q

theorem countArrival_handed (s : State) (i : StreamId) (d : DataArrival) : Handed i s [] [] (s.countArrival i d) :=
  .of_same rfl (by rw [countArrival_rx]) rfl rfl

/-- Between two states the streams, the entries, the lane, the log and the ports may differ. -/
def arrivalOnly (s t : State) : Prop :=
  t = { s with rxStreams := t.rxStreams, paths := t.paths, localPort := t.localPort, log := t.log, ports := t.ports }

theorem arrivalOnly_trans (h : s.arrivalOnly t) (h' : t.arrivalOnly u) : s.arrivalOnly u := by
  unfold arrivalOnly at *
  generalize t.rxStreams = rx, t.paths = paths, t.localPort = lane, t.log = log, t.ports = ports at h
  subst h
  exact h'

theorem arrivalOnly_of_merge (h : State.mergeOnly i s t) : s.arrivalOnly t := by
  have frame := h.1
  have paths : t.paths = s.paths := by rw [frame]
  unfold arrivalOnly
  rw [paths]
  exact frame

/-- What a first arrival leaves besides the window: the counted win, the other streams, and the tables it does not touch. -/
structure FirstTaken (i : StreamId) (d : DataArrival) (s t : State) : Prop where
  accepted : (t.rxStream i).accepted = min 4294967295 ((s.rxStream i).accepted + 1)
  paths : t.paths = (s.countArrival i d).paths
  others : ∀ j, j ≠ i → t.rxStream j = s.rxStream j
  only : s.arrivalOnly t

theorem FirstTaken.entry (h : FirstTaken i d s t) (q : Path) : t.entry q = if q = d.path then (s.entry d.path).won else s.entry q := by
  rw [← countArrival_entry s i d q]
  exact congrArg (fun l : Vector PathEntry 5 => l[q.idx]) h.paths

theorem FirstTaken.of_merge (merged : State.mergeOnly i (s.countArrival i d) t)
    (accepted : (t.rxStream i).accepted = min 4294967295 ((s.rxStream i).accepted + 1)) : FirstTaken i d s t := by
  refine ⟨accepted, by rw [merged.1], fun j other => ?_, arrivalOnly_trans (show s.arrivalOnly (s.countArrival i d) from rfl) (arrivalOnly_of_merge merged)⟩
  rw [merged.2.1 j other, State.countArrival, State.modStats_rxStream, State.modRx_rxStream_ne _ _ _ other]

/-- A first arrival delivered at the release point, before the walk (R114). -/
def dueTaken (s : State) (i : StreamId) (d : DataArrival) : State :=
  ((s.countArrival i d).deliverArrival i d (s.eligible d.path) true).modRx i (fun x => { x with release := x.release + 1 })

/-- The DELIVERY record of a first arrival delivered at once (R117). -/
def arrivalBody (s : State) (d : DataArrival) (holdDelay : Option Nat) (dropped : Bool) : RecordBody :=
  deliveryBody s.time.tod ⟨d.copy.stream, d.copy.payload, d.copy.seq, d.path, d.stamp.tod⟩ d.stamp.quality d.sender d.copy.origin
    holdDelay false dropped (s.eligible d.path)

section
variable (stream : d.copy.stream = i) (resting : (s.rxStream i).Resting) (due : d.copy.seq = (s.rxStream i).release)
  (empty : (s.rxStream i).slots[(s.rxStream i).distance d.copy.seq]? = some .empty)

include due in
theorem dueTaken_rx : let y := (s.dueTaken i d).rxStream i
    y = { (s.rxStream i).duePassed d.info with
      accepted := min 4294967295 ((s.rxStream i).accepted + 1), overflow := y.overflow } := by
  dsimp only
  have counted := s.countArrival_rx i d
  have delivered := ((s.countArrival i d).setSlot i (((s.countArrival i d).rxStream i).distance d.copy.seq) (.done d.info)).deliver_rx i
    (d.delivery i (s.eligible d.path) true)
  unfold dueTaken State.deliverArrival
  rw [State.modRx_rxStream_self, delivered, State.setSlot, State.modRx_rxStream_self, counted, due]
  rfl

include stream in
theorem dueTaken_handed : Handed i s [⟨i, d.copy.payload, d.copy.seq, d.path, d.stamp.tod⟩] [s.arrivalBody d (some 0) false] (s.dueTaken i d) := by
  have slot := handed_modRx (s.countArrival i d) i
    (fun x => { x with slots := x.slots.set (((s.countArrival i d).rxStream i).distance d.copy.seq) (.done d.info) }) rfl
  have delivered := ((s.countArrival i d).setSlot i (((s.countArrival i d).rxStream i).distance d.copy.seq) (.done d.info)).deliver_handed i
    (d.delivery i (s.eligible d.path) true)
  have all := ((delivered.after slot).after (s.countArrival_handed i d)).before (handed_modRx _ i (fun x => { x with release := x.release + 1 }) rfl)
  subst stream
  exact all

theorem firstArrival_due_eq (ordered : (s.rxStream i).ordered = true) (due : d.copy.seq = (s.rxStream i).release) :
    s.firstArrival i d = ((s.dueTaken i d).releaseWalk i).settleHold i := State.firstArrival_of_release ordered due

include stream resting due empty in
/-- A first arrival at the release point is delivered with the HELD run right after it (R114). -/
theorem firstArrival_due (early : ∀ a ∈ (s.rxStream i).heldArrivals, s.mono < a + (s.rxStream i).holdTime * 1000) :
    let x := s.rxStream i
    let run := x.runFrom (x.distance d.copy.seq + 1)
    let t := s.firstArrival i d
    let y := t.rxStream i
    FirstTaken i d s t
      ∧ y = { x.takenAt (x.distance d.copy.seq) d.info with
          holdDeadline := y.deadlineFormed, accepted := min 4294967295 (x.accepted + 1), overflow := y.overflow }
      ∧ Handed i s (⟨i, d.copy.payload, d.copy.seq, d.path, d.stamp.tod⟩ :: heldFrames i (d.copy.seq + 1) run)
          (s.arrivalBody d (some 0) false :: heldRecords i (d.copy.seq + 1) run s.stamp) t := by
  dsimp only
  have inside : (s.rxStream i).distance (s.rxStream i).release < (s.rxStream i).slots.length := by
    rw [← due]
    exact (List.getElem?_eq_some_iff.mp empty).1
  obtain ⟨run, walked⟩ := RxStream.duePassed_run (info := d.info) resting.toDivided inside
  rw [← due] at run walked
  have length := resting.tracking.length_le
  have rx := dueTaken_rx (s := s) (i := i) due
  have handed := dueTaken_handed (s := s) stream
  have merged : State.mergeOnly i (s.countArrival i d) (s.firstArrival i d) := by
    rw [State.firstArrival_of_release resting.ordered due]
    exact State.mergeOnly_trans (State.mergeOnly_trans (State.mergeOnly_trans (State.deliverArrival_mergeOnly _ i d _ _)
      (State.modRx_mergeOnly _ i _)) (State.releaseWalk_mergeOnly _ i)) (State.settleHold_mergeOnly _ i)
  rw [firstArrival_due_eq resting.ordered due] at merged ⊢
  dsimp only at rx
  generalize s.dueTaken i d = u at rx handed merged ⊢
  have small : (u.rxStream i).slots.length < 4294967296 := by
    rw [rx]
    show ((s.rxStream i).slots.set _ _).length < _
    rw [List.length_set]
    omega
  have heldRun : (u.rxStream i).heldRun = (s.rxStream i).runFrom ((s.rxStream i).distance d.copy.seq + 1) := by
    rw [← run, rx]
    rfl
  have release : (u.rxStream i).release = d.copy.seq + 1 := by
    rw [rx, due]
    rfl
  have walkedRx := releaseWalk_rx small
  obtain ⟨rest, -⟩ := releaseWalk_handed small
  rw [heldRun, release, stamp_congr handed.time] at rest
  have all := handed.trans rest
  have passed : (u.releaseWalk i).rxStream i = { (s.rxStream i).takenAt ((s.rxStream i).distance d.copy.seq) d.info with
      accepted := min 4294967295 ((s.rxStream i).accepted + 1), overflow := ((u.releaseWalk i).rxStream i).overflow } := by
    rw [← walked]
    generalize (u.releaseWalk i).rxStream i = z at walkedRx
    rw [walkedRx, rx]
    rfl
  have settled : (u.releaseWalk i).settleHold i = (u.releaseWalk i).formDeadline i := by
    refine settleHold_early fun a member => ?_
    have time : (u.releaseWalk i).time = s.time := all.time
    have hold : ((u.releaseWalk i).rxStream i).holdTime = (s.rxStream i).holdTime := by
      rw [passed]
      rfl
    unfold State.mono
    rw [time, hold]
    refine early a (RxStream.heldArrivals_subset (fun info f held => ?_) member)
    rw [passed] at held
    rcases List.mem_append.mp held with before | after
    · rcases List.mem_append.mp before with old | new
      · exact List.mem_of_mem_take old
      · rcases List.mem_cons.mp new with same | run
        · cases same
        · exact absurd run Slot.held_not_delivered
    · exact List.mem_of_mem_drop after
  rw [settled] at merged ⊢
  have formed := (u.releaseWalk i).formDeadline_rx i
  have handedAll := all.before ((u.releaseWalk i).formDeadline_handed i)
  generalize (u.releaseWalk i).formDeadline i = t at merged formed handedAll ⊢
  rw [passed] at formed
  have fields : (t.rxStream i).deadlineFormed
      = RxStream.deadlineFormed { (s.rxStream i).takenAt ((s.rxStream i).distance d.copy.seq) d.info with
          accepted := min 4294967295 ((s.rxStream i).accepted + 1), overflow := ((u.releaseWalk i).rxStream i).overflow } :=
    RxStream.deadlineFormed_congr (by rw [formed]) (by rw [formed])
  have overflow : (t.rxStream i).overflow = ((u.releaseWalk i).rxStream i).overflow := by rw [formed]
  refine ⟨.of_merge merged (by rw [formed]), ?_, handedAll⟩
  rw [fields, overflow]
  exact formed

end

end State
end Sys2Proof.Machine

/-! How a DATA frame reaches its first arrival, and arrivals held ahead of the release point (R108 to R114, R119, R123). -/

namespace Sys2Proof.Machine

theorem RxStream.Tracking.reach {x : RxStream} (h : x.Tracking) : x.window ≤ x.resyncDistance ∧ x.resyncDistance ≤ 1048576 := by
  refine ⟨h.window_le.trans ?_, RxStream.resyncDistance_le h.resyncCode⟩
  show 2 ^ 8 ≤ 2 ^ (8 + x.resyncCode)
  exact Nat.pow_le_pow_right Nat.two_pos (Nat.le_add_right 8 x.resyncCode)

namespace State

section
variable {s : State} {d : DataArrival}

theorem takeData_unsynced (enabled : (s.rxStream d.copy.stream).enabled = true) (unsynced : (s.rxStream d.copy.stream).synced = false) :
    s.takeData d = s.synchronize d.copy.stream d := by
  unfold State.takeData
  dsimp only
  rw [enabled, unsynced]
  rfl

variable (enabled : (s.rxStream d.copy.stream).enabled = true) (synced : (s.rxStream d.copy.stream).synced = true)
  (windowed : (s.rxStream d.copy.stream).Windowed)
include enabled synced windowed

theorem takeData_empty
    (empty : (s.rxStream d.copy.stream).slots[(s.rxStream d.copy.stream).distance d.copy.seq]? = some .empty) :
    s.takeData d = s.firstArrival d.copy.stream d := by
  rw [State.takeData_tracked enabled synced windowed empty]
  unfold State.takeTracked
  rw [empty]

theorem takeData_fills (beyond : (s.rxStream d.copy.stream).slots.length ≤ (s.rxStream d.copy.stream).distance d.copy.seq)
    (within : (s.rxStream d.copy.stream).distance d.copy.seq < (s.rxStream d.copy.stream).window) :
    s.takeData d = (s.modRx d.copy.stream (RxStream.fillTo d.copy.seq)).firstArrival d.copy.stream d := by
  have tracking := windowed.tracking synced
  have small := tracking.window_le
  rw [State.takeData_synced enabled synced]
  unfold State.mergeCopy
  dsimp only
  rw [← tracking.tracked, if_neg (by omega), if_neg (by omega), if_pos within]

theorem takeData_advances (outside : (s.rxStream d.copy.stream).window ≤ (s.rxStream d.copy.stream).distance d.copy.seq)
    (near : (s.rxStream d.copy.stream).distance d.copy.seq < (s.rxStream d.copy.stream).resyncDistance) :
    s.takeData d = s.advance d.copy.stream d := by
  have tracking := windowed.tracking synced
  have fits := tracking.fits
  have reach := tracking.reach.2
  rw [State.takeData_synced enabled synced]
  unfold State.mergeCopy
  dsimp only
  rw [← tracking.tracked, if_neg (by omega), if_neg (by omega), if_neg (by omega), if_pos near]

theorem takeData_jumps (beyond : (s.rxStream d.copy.stream).resyncDistance ≤ (s.rxStream d.copy.stream).distance d.copy.seq)
    (ahead : (s.rxStream d.copy.stream).distance d.copy.seq < 2147483648) :
    s.takeData d = (s.resync d.copy.stream .jump (some d.copy.seq)).synchronize d.copy.stream d := by
  have tracking := windowed.tracking synced
  have fits := tracking.fits
  have reach := tracking.reach.1
  rw [State.takeData_synced enabled synced]
  unfold State.mergeCopy
  dsimp only
  rw [← tracking.tracked, if_neg (by omega), if_neg (by omega), if_neg (by omega), if_neg (by omega)]

end

/-! ## A stream that synchronizes -/

section
variable {x : RxStream} (windowed : x.Windowed) (unsynced : x.synced = false) (q : Seq)
include windowed unsynced

omit unsynced in
theorem synchronize_resting (ordered : x.ordered = true) : (x.synchronize q).Resting := by
  obtain ⟨tracking, zero⟩ := x.synchronize_fields q windowed.1 windowed.2.1
  refine ⟨⟨ordered, tracking, ?_⟩, fun y found => ?_⟩
  · show DividedAt ((x.synchronize q).distance q) [.empty]
    rw [zero]
    refine ⟨Nat.zero_le _, fun k y _ lt => absurd lt (Nat.not_lt_zero _), fun k y found _ => ?_⟩
    rcases k with _ | k <;> cases found
    rfl
  · rw [List.mem_singleton.mp (List.mem_of_getElem? found)]
    rfl

theorem synchronize_immediate (immediate : x.ordered = false) : (x.synchronize q).Immediate := by
  obtain ⟨tracking, -⟩ := x.synchronize_fields q windowed.1 windowed.2.1
  refine ⟨immediate, tracking, (windowed.2.2.1 unsynced).2, fun y member => ?_⟩
  rw [List.mem_singleton.mp member]
  rfl

omit unsynced in
theorem synchronize_empty : (x.synchronize q).distance q = 0 ∧ (x.synchronize q).slots[(x.synchronize q).distance q]? = some .empty := by
  obtain ⟨-, zero⟩ := x.synchronize_fields q windowed.1 windowed.2.1
  refine ⟨zero, ?_⟩
  rw [zero]
  rfl

end

/-! ## Ahead of the release point -/

variable {i : StreamId} {s : State} {d : DataArrival}

/-- The stream after a first arrival that is kept (R114). -/
def keptAhead (d : DataArrival) (eligible : Bool) (x : RxStream) : RxStream :=
  { x with
    accepted := min 4294967295 (x.accepted + 1), slots := x.slots.set (x.distance d.copy.seq) (.held d.info (d.kept eligible))
    holdDeadline := match x.holdDeadline with
      | some old => some old
      | none => some (d.stamp.mono + x.holdTime * 1000) }

/-- A first arrival ahead of the release point is HELD, and nothing else changes while no hold runs out (R114). -/
theorem firstArrival_ahead (ordered : (s.rxStream i).ordered = true) (ahead : d.copy.seq ≠ (s.rxStream i).release)
    (early : (s.rxStream i).holdDeadline ≠ none ∨ s.mono < d.stamp.mono + (s.rxStream i).holdTime * 1000) :
    s.firstArrival i d = (s.modRx i (keptAhead d (s.eligible d.path))).modEntry d.path PathEntry.won := by
  have held : ((s.countArrival i d).setSlot i (((s.countArrival i d).rxStream i).distance d.copy.seq)
      (.held d.info (d.kept (s.eligible d.path)))).modRx i (RxStream.noteHeld d.stamp.mono)
        = (s.modRx i (keptAhead d (s.eligible d.path))).modEntry d.path PathEntry.won := by
    have place : ((s.countArrival i d).rxStream i).distance d.copy.seq = (s.rxStream i).distance d.copy.seq := by
      rw [countArrival_rx]
      rfl
    rw [place]
    unfold State.countArrival State.setSlot
    rw [← State.modRx_modStats, ← State.modRx_modStats, State.modRx_modRx, State.modRx_modRx]
    refine congrArg (fun u : State => u.modEntry d.path PathEntry.won) (State.modRx_congr ?_)
    rfl
  rw [State.firstArrival_of_ahead ordered ahead]
  unfold State.holdArrival
  dsimp only
  rw [held]
  split
  · rename_i free
    rw [countArrival_rx] at free
    have none : (s.rxStream i).holdDeadline = none := Option.isNone_iff_eq_none.mp free
    have soon := early.resolve_left (fun some => some none)
    refine expireAll_early (streamHoldDue_eq_false.mpr fun a deadline => ?_)
    have now : ((s.modRx i (keptAhead d (s.eligible d.path))).modEntry d.path PathEntry.won).rxStream i
        = keptAhead d (s.eligible d.path) (s.rxStream i) := State.modRx_rxStream_self s i _
    rw [now, keptAhead, none] at deadline
    cases deadline
    exact soon
  · rfl

end State
end Sys2Proof.Machine

/-! An ORDERED stream synchronizes, fills its window and jumps (R109, R112 to R114, R122, R123). -/

namespace Sys2Proof.Machine
namespace State
variable {i : StreamId} {s t u : State} {d : DataArrival}

theorem countArrival_paths (same : u.paths = s.paths) : (u.countArrival i d).paths = (s.countArrival i d).paths := by
  simp only [State.countArrival, State.modStats, State.modEntry, State.modRx, State.entry, same]

/-- A step of the stream, then the first arrival. -/
theorem FirstTaken.after (h : FirstTaken i d u t) (accepted : (u.rxStream i).accepted = (s.rxStream i).accepted)
    (merged : State.mergeOnly i s u) : FirstTaken i d s t := by
  have paths : u.paths = s.paths := by rw [merged.1]
  refine ⟨by rw [h.accepted, accepted], h.paths.trans (countArrival_paths paths), fun j other => ?_,
    arrivalOnly_trans (arrivalOnly_of_merge merged) h.only⟩
  rw [h.others j other, merged.2.1 j other]

theorem arrivalBody_congr (time : u.time = s.time) (eligible : u.eligible d.path = s.eligible d.path) (holdDelay : Option Nat)
    (dropped : Bool) : u.arrivalBody d holdDelay dropped = s.arrivalBody d holdDelay dropped := by
  unfold arrivalBody
  rw [time, eligible]

theorem eligible_of_paths (same : u.paths = s.paths) (p : Path) : u.eligible p = s.eligible p :=
  congrArg (fun l : Vector PathEntry 5 => (l[p.idx]).eligible p) same

theorem runFrom_end {x : RxStream} {k : Nat} (past : x.slots.length ≤ k) : x.runFrom k = [] := by
  unfold RxStream.runFrom
  rw [List.drop_eq_nil_of_le past]
  rfl

/-- The newest slot taken at the release point: no HELD slot follows it. -/
theorem takenAt_newest {x : RxStream} {n : Nat} {info : SlotInfo} (newest : x.slots.length = n + 1) :
    x.takenAt n info = { x with slots := x.slots.take n ++ [.done info], release := x.release + 1 } := by
  unfold RxStream.takenAt
  rw [runFrom_end (le_of_eq newest), List.drop_eq_nil_of_le (by omega)]
  simp

/-- What the delivery of an arrival that is the stream's newest frame leaves: no frame waits behind it. -/
structure DeliveredAlone (i : StreamId) (d : DataArrival) (s t : State) : Prop where
  taken : FirstTaken i d s t
  handed : Handed i s [⟨i, d.copy.payload, d.copy.seq, d.path, d.stamp.tod⟩] [s.arrivalBody d (some 0) false] t

theorem DeliveredAlone.after (h : DeliveredAlone i d u t) (accepted : (u.rxStream i).accepted = (s.rxStream i).accepted)
    (merged : State.mergeOnly i s u) (same : Handed i s [] [] u) : DeliveredAlone i d s t := by
  have paths : u.paths = s.paths := by rw [merged.1]
  have handed := h.handed.after same
  rw [arrivalBody_congr same.time (eligible_of_paths paths _)] at handed
  exact ⟨h.taken.after accepted merged, handed⟩

/-- The newest slot, at the release point of a stream that holds nothing. -/
theorem firstArrival_newest (stream : d.copy.stream = i) (resting : (s.rxStream i).Resting) (due : d.copy.seq = (s.rxStream i).release)
    (empty : (s.rxStream i).slots[(s.rxStream i).distance d.copy.seq]? = some .empty)
    (newest : (s.rxStream i).slots.length = (s.rxStream i).distance d.copy.seq + 1)
    (free : ∀ y ∈ (s.rxStream i).slots, y.isHeld = false) : let x := s.rxStream i
    let t := s.firstArrival i d
    let y := t.rxStream i
    DeliveredAlone i d s t
      ∧ y = { x with
          slots := x.slots.take (x.distance d.copy.seq) ++ [.done d.info], release := x.release + 1, holdDeadline := none
          accepted := min 4294967295 (x.accepted + 1), overflow := y.overflow } := by
  have noArrival : (s.rxStream i).heldArrivals = [] := by
    refine List.eq_nil_iff_forall_not_mem.mpr fun a member => ?_
    obtain ⟨info, f, slot, -⟩ := RxStream.mem_heldArrivals.mp member
    cases free _ slot
  obtain ⟨taken, rx, handed⟩ := firstArrival_due stream resting due empty
    (fun a member => by rw [noArrival] at member; cases member)
  rw [takenAt_newest newest] at rx
  rw [runFrom_end (le_of_eq newest)] at handed
  dsimp only at rx ⊢
  refine ⟨⟨taken, handed⟩, ?_⟩
  generalize (s.firstArrival i d).rxStream i = y at rx
  have formed : y.deadlineFormed = none := by
    refine RxStream.deadlineFormed_eq_none fun z member => ?_
    rw [rx] at member
    rcases List.mem_append.mp member with old | new
    · exact free z (List.mem_of_mem_take old)
    · rw [List.mem_singleton.mp new]
      rfl
  rw [formed] at rx
  exact rx

/-- A frame synchronizes an ORDERED stream and is delivered (R109, R114). -/
theorem synchronize_ordered (stream : d.copy.stream = i) (windowed : (s.rxStream i).Windowed) (ordered : (s.rxStream i).ordered = true) :
    let x := s.rxStream i
    let t := s.synchronize i d
    let y := t.rxStream i
    DeliveredAlone i d s t
      ∧ y = { x with
          synced := true, base := d.copy.seq, front := d.copy.seq + 1, release := d.copy.seq + 1, slots := [.done d.info]
          holdDeadline := none, accepted := min 4294967295 (x.accepted + 1), overflow := y.overflow } := by
  dsimp only
  have rx := State.modRx_rxStream_self s i (RxStream.synchronize d.copy.seq)
  obtain ⟨zero, empty⟩ := synchronize_empty windowed d.copy.seq
  have resting := synchronize_resting windowed d.copy.seq ordered
  have same := handed_modRx s i (RxStream.synchronize d.copy.seq) rfl
  have merged := s.modRx_mergeOnly i (RxStream.synchronize d.copy.seq)
  unfold State.synchronize
  generalize s.modRx i (RxStream.synchronize d.copy.seq) = u at rx same merged ⊢
  rw [← rx] at zero empty resting
  have slots : (u.rxStream i).slots = [.empty] := by rw [rx]; rfl
  obtain ⟨alone, moved⟩ := firstArrival_newest stream resting (by rw [rx]; rfl) empty (by rw [slots, zero]; rfl)
    (fun y member => by rw [slots] at member; rw [List.mem_singleton.mp member]; rfl)
  refine ⟨alone.after (by rw [rx]; rfl) merged same, ?_⟩
  generalize (u.firstArrival i d).rxStream i = y at moved
  rw [zero, rx] at moved
  exact moved

/-- A jump delivers every HELD frame, records it and synchronizes anew (R122, R123). -/
theorem jump_ordered (stream : d.copy.stream = i) (windowed : (s.rxStream i).Windowed) (ordered : (s.rxStream i).ordered = true) :
    let x := s.rxStream i
    let t := (s.resync i .jump (some d.copy.seq)).synchronize i d
    let y := t.rxStream i
    FirstTaken i d s t
      ∧ y = { x with
          synced := true, base := d.copy.seq, front := d.copy.seq + 1, release := d.copy.seq + 1, slots := [.done d.info]
          holdDeadline := none, resyncs := min 4294967295 (x.resyncs + 1)
          accepted := min 4294967295 (x.accepted + 1), overflow := y.overflow }
      ∧ Handed i s (heldFrames i x.base x.slots ++ [⟨i, d.copy.payload, d.copy.seq, d.path, d.stamp.tod⟩])
          (heldRecords i x.base x.slots s.stamp ++ [.resync i x.front .jump (some d.copy.seq)] ++ [s.arrivalBody d (some 0) false]) t := by
  dsimp only
  have rx := s.resync_rx i .jump (some d.copy.seq)
  have merged := s.resync_mergeOnly i .jump (some d.copy.seq)
  have handed := s.resync_handed i .jump (some d.copy.seq) ordered
  have still := State.resync_windowed windowed .jump (some d.copy.seq)
  dsimp only at rx
  generalize s.resync i .jump (some d.copy.seq) = u at rx merged handed still ⊢
  have paths : u.paths = s.paths := by rw [merged.1]
  obtain ⟨⟨taken, alone⟩, moved⟩ := synchronize_ordered stream still (by rw [rx]; exact ordered)
  rw [arrivalBody_congr handed.time (eligible_of_paths paths _)] at alone
  refine ⟨taken.after (by rw [rx]; rfl) merged, ?_, Handed.trans handed alone⟩
  generalize (u.synchronize i d).rxStream i = y at moved
  generalize u.rxStream i = z at rx moved
  rw [rx] at moved
  exact moved

/-- The window filled up to the release point: the frame is delivered (R112, R114). -/
theorem fill_due (stream : d.copy.stream = i) (ready : (s.rxStream i).Ready) (windowed : (s.rxStream i).Windowed)
    (beyond : (s.rxStream i).slots.length ≤ (s.rxStream i).distance d.copy.seq)
    (within : (s.rxStream i).distance d.copy.seq < (s.rxStream i).window) (due : d.copy.seq = (s.rxStream i).release) :
    let x := s.rxStream i
    let t := (s.modRx i (RxStream.fillTo d.copy.seq)).firstArrival i d
    let y := t.rxStream i
    DeliveredAlone i d s t
      ∧ y = { x with
          front := d.copy.seq + 1, release := d.copy.seq + 1, slots := x.slots ++ [.done d.info]
          accepted := min 4294967295 (x.accepted + 1), overflow := y.overflow } := by
  dsimp only
  have place : (s.rxStream i).distance d.copy.seq = (s.rxStream i).slots.length := by
    have inside := ready.divided.inside
    rw [← due] at inside
    exact Nat.le_antisymm inside beyond
  have free : ∀ y ∈ (s.rxStream i).slots, y.isHeld = false := by
    intro y member
    obtain ⟨k, slot⟩ := List.mem_iff_getElem?.mp member
    have settled := ready.divided.settled k y slot (by
      rw [← due, place]
      exact (List.getElem?_eq_some_iff.mp slot).1)
    cases y with
    | held => cases settled
    | empty | done | skipped => rfl
  have noHold := ready.deadline.mpr free
  have still := (windowed.fillTo ready.tracking.synced beyond within).ready ready.tracking.synced ready.ordered
  have empty := RxStream.fillTo_empty beyond
  have rx := State.modRx_rxStream_self s i (RxStream.fillTo d.copy.seq)
  have same := handed_modRx s i (RxStream.fillTo d.copy.seq) rfl
  have merged := s.modRx_mergeOnly i (RxStream.fillTo d.copy.seq)
  have filled : ((s.rxStream i).fillTo d.copy.seq).slots = (s.rxStream i).slots ++ [.empty] := by
    have one : (s.rxStream i).slots.length + 1 - (s.rxStream i).slots.length = 1 := by omega
    unfold RxStream.fillTo
    rw [place, one]
    rfl
  generalize s.modRx i (RxStream.fillTo d.copy.seq) = u at rx same merged ⊢
  rw [← rx] at empty still filled
  have distance : (u.rxStream i).distance d.copy.seq = (s.rxStream i).slots.length := by
    rw [rx, ← place]
    rfl
  obtain ⟨alone, moved⟩ := firstArrival_newest stream still.toResting (by rw [rx]; exact due) empty
    (by rw [filled, distance, List.length_append]; rfl)
    (fun y member => by
      rw [filled] at member
      rcases List.mem_append.mp member with old | new
      · exact free y old
      · rw [List.mem_singleton.mp new]
        rfl)
  refine ⟨alone.after (by rw [rx]; rfl) merged same, ?_⟩
  rw [distance, filled, List.take_left' rfl] at moved
  generalize (u.firstArrival i d).rxStream i = y at moved
  rw [rx] at moved
  rw [noHold, due]
  rw [due] at moved
  exact moved

/-- The newest slot replaced after the window was filled up to it (R112). -/
theorem fillTo_set {x : RxStream} {q : Seq} (slot : Slot) (beyond : x.slots.length ≤ x.distance q) :
    (x.fillTo q).slots.set (x.distance q) slot = x.slots ++ List.replicate (x.distance q - x.slots.length) .empty ++ [slot] := by
  have count : x.distance q + 1 - x.slots.length = x.distance q - x.slots.length + 1 := by omega
  have before : (x.slots ++ List.replicate (x.distance q - x.slots.length) Slot.empty).length = x.distance q := by
    rw [List.length_append, List.length_replicate]
    omega
  show (x.slots ++ List.replicate (x.distance q + 1 - x.slots.length) Slot.empty).set (x.distance q) slot = _
  rw [count, List.replicate_succ', ← List.append_assoc, List.set_append_right _ _ (le_of_eq before), before, Nat.sub_self]
  rfl

/-- A stream filled up to a frame that is then kept. -/
theorem keptAhead_fillTo {x : RxStream} (d : DataArrival) (eligible : Bool) (beyond : x.slots.length ≤ x.distance d.copy.seq) :
    keptAhead d eligible (x.fillTo d.copy.seq) = { keptAhead d eligible x with
      front := d.copy.seq + 1
      slots := x.slots ++ List.replicate (x.distance d.copy.seq - x.slots.length) .empty ++ [.held d.info (d.kept eligible)] } :=
  congrArg (fun l => { keptAhead d eligible x with front := d.copy.seq + 1, slots := l }) (fillTo_set _ beyond)

/-- The window filled up to a frame ahead of the release point: the frame is held (R112, R114). -/
theorem fill_ahead (ordered : (s.rxStream i).ordered = true) (ahead : d.copy.seq ≠ (s.rxStream i).release)
    (early : (s.rxStream i).holdDeadline ≠ none ∨ s.mono < d.stamp.mono + (s.rxStream i).holdTime * 1000) :
    (s.modRx i (RxStream.fillTo d.copy.seq)).firstArrival i d
      = (s.modRx i (fun x => keptAhead d (s.eligible d.path) (x.fillTo d.copy.seq))).modEntry d.path PathEntry.won := by
  have rx := State.modRx_rxStream_self s i (RxStream.fillTo d.copy.seq)
  rw [firstArrival_ahead (by rw [rx]; exact ordered) (by rw [rx]; exact ahead) (by rw [rx]; exact early), State.modRx_modRx]
  rfl

end State
end Sys2Proof.Machine

/-! An advance: gaps counted, scores reported, and the window in which the arrival is taken (R119 to R121). -/

namespace Sys2Proof.Machine
namespace State
variable {i : StreamId} {s t u : State} {d : DataArrival}

/-! ## What a retirement leaves -/

/-- The gaps of a retiring range are counted, and nothing else of the stream changes (R120). -/
theorem retire_rx (i : StreamId) (untracked : Nat) (l : List Slot) (q : Seq) (run : Nat) (s : State)
    (bounded : (s.rxStream i).gaps ≤ 4294967295) : (State.retire i untracked l q run s).rxStream i
      = { s.rxStream i with gaps := min 4294967295 ((s.rxStream i).gaps + (run + l.countP Slot.isEmpty + untracked)) } := by
  induction l generalizing q run s with
  | nil => exact s.gapRun_rx i (q - BitVec.ofNat 32 run) (run + untracked) .advance (.inl bounded)
  | cons y l ih =>
    have gap := s.gapRun_rx i (q - BitVec.ofNat 32 run) run .advance (.inl bounded)
    have next (v : State) (rx : v.rxStream i = { s.rxStream i with gaps := min 4294967295 ((s.rxStream i).gaps + run) })
        (filled : (y :: l).countP Slot.isEmpty = l.countP Slot.isEmpty) : (State.retire i untracked l (q + 1) 0 v).rxStream i
          = { s.rxStream i with gaps := min 4294967295 ((s.rxStream i).gaps + (run + (y :: l).countP Slot.isEmpty + untracked)) } := by
      have sum : min 4294967295 (min 4294967295 ((s.rxStream i).gaps + run) + (0 + l.countP Slot.isEmpty + untracked))
          = min 4294967295 ((s.rxStream i).gaps + (run + l.countP Slot.isEmpty + untracked)) := by omega
      rw [ih (q + 1) 0 v (by rw [rx]; exact Nat.min_le_left _ _), rx, filled, ← sum]
    cases y with
    | empty =>
      have one : run + 1 + l.countP Slot.isEmpty = run + (Slot.empty :: l).countP Slot.isEmpty := by
        rw [List.countP_cons_of_pos rfl]
        omega
      rw [← one]
      exact ih (q + 1) (run + 1) s bounded
    | skipped => exact next _ gap rfl
    | done info | held info f => exact next _ ((State.retireReport_rxStream _ _ _ i).trans gap) rfl

/-- Steps that leave the lane, the clock and what the entries count and offer. -/
structure Unmoved (s t : State) : Prop where
  time : t.time = s.time
  lane : t.localPort = s.localPort
  stats : ∀ p, (t.entry p).stats = (s.entry p).stats
  eligible : ∀ p, t.eligible p = s.eligible p

theorem Unmoved.refl (s : State) : s.Unmoved s := ⟨rfl, rfl, fun _ => rfl, fun _ => rfl⟩

theorem Unmoved.trans (h : s.Unmoved t) (h' : t.Unmoved u) : s.Unmoved u :=
  ⟨h'.time.trans h.time, h'.lane.trans h.lane, fun p => (h'.stats p).trans (h.stats p), fun p => (h'.eligible p).trans (h.eligible p)⟩

theorem Unmoved.of_paths (time : t.time = s.time) (lane : t.localPort = s.localPort) (paths : t.paths = s.paths) : s.Unmoved t :=
  ⟨time, lane, fun p => congrArg (fun l : Vector PathEntry 5 => l[p.idx].stats) paths, eligible_of_paths paths⟩

theorem gapRun_unmoved (s : State) (i : StreamId) (first : Seq) (count : Nat) (cause : GapCause) : s.Unmoved (s.gapRun i first count cause) := by
  obtain ⟨time, lane⟩ := s.gapRun_same i first count cause
  exact .of_paths time lane (by rw [(s.gapRun_mergeOnly i first count cause).1])

theorem unmoved_of_routed (routed : s.routed t) (stats : ∀ p, (t.entry p).stats = (s.entry p).stats)
    (eligible : ∀ p, t.eligible p = s.eligible p) : s.Unmoved t := by
  have route := routed.1
  unfold State.routeOnly at route
  exact ⟨by rw [route], by rw [route], stats, eligible⟩

theorem modEntry_unmoved (s : State) (p : Path) (g : PathEntry → PathEntry) (stats : (g (s.entry p)).stats = (s.entry p).stats)
    (eligible : (g (s.entry p)).eligible p = (s.entry p).eligible p) : s.Unmoved (s.modEntry p g) := by
  refine ⟨rfl, rfl, fun q => ?_, fun q => ?_⟩
  · rw [State.modEntry_entry]
    split
    · subst q
      exact stats
    · rfl
  · unfold State.eligible
    rw [State.modEntry_entry]
    split
    · subst q
      exact eligible
    · rfl

theorem recomputeDelay_unmoved (s : State) (p : Path) : s.Unmoved (s.recomputeDelay p) := by
  rcases s.recomputeDelay_eq p with same | moved
  · rw [same]
    exact .refl s
  · have entered := s.modEntry_unmoved p (fun e => { e with effDelay := (s.entry p).formDelay p }) rfl rfl
    have paths := State.reEvaluate_paths (s.modEntry p (fun e => { e with effDelay := (s.entry p).formDelay p }))
    rw [moved]
    refine entered.trans (unmoved_of_routed (State.reEvaluate_routed _) (fun q => ?_) (eligible_of_paths paths))
    exact congrArg (fun l : Vector PathEntry 5 => l[q.idx].stats) paths

theorem retireReport_unmoved (s : State) (mask seen : PathSet) : s.Unmoved (s.retireReport mask seen) := by
  refine foldl_rel Unmoved .refl .trans (State.retirePath mask seen) Path.all (fun u p _ => ?_) s
  unfold State.retirePath
  split
  · exact (u.modEntry_unmoved p _ rfl rfl).trans (recomputeDelay_unmoved _ p)
  · exact .refl u

theorem retire_unmoved (i : StreamId) (untracked : Nat) (l : List Slot) (q : Seq) (run : Nat) (s : State) :
    s.Unmoved (State.retire i untracked l q run s) := by
  induction l generalizing q run s with
  | nil => exact s.gapRun_unmoved i _ _ _
  | cons x l ih =>
    cases x with
    | empty => exact ih _ _ _
    | held | done => exact ((s.gapRun_unmoved i _ _ _).trans (retireReport_unmoved _ _ _)).trans (ih _ _ _)
    | skipped => exact (s.gapRun_unmoved i _ _ _).trans (ih _ _ _)

end State
end Sys2Proof.Machine

/-! The window after an advance, and what it hands on (R119). -/

namespace Sys2Proof.Machine

namespace RxStream
variable {x : RxStream} {q : Seq}

/-- The number of sequences that an advance to `q` retires. -/
def retired (x : RxStream) (q : Seq) : Nat := x.distance q + 1 - x.window

/-- The base that an advance leaves: the arrival is the newest of W sequences (R119). -/
theorem base_retired (beyond : x.window ≤ x.distance q) : x.base + BitVec.ofNat 32 (x.retired q) = q + 1 - BitVec.ofNat 32 x.window := by
  have whole : x.retired q + x.window = x.distance q + 1 := by
    unfold retired
    omega
  have next : q + 1 = x.base + BitVec.ofNat 32 (x.retired q) + BitVec.ofNat 32 x.window := by
    rw [BitVec.add_assoc, ← BitVec.ofNat_add, whole, BitVec.ofNat_add, ← BitVec.add_assoc, x.base_add_distance]
    rfl
  rw [next, BitVec.add_sub_cancel]

/-- The gaps after an advance: those before, the EMPTY slots that retire and the sequences never tracked (R120). -/
def gapsAfter (x : RxStream) (q : Seq) : Nat := min 4294967295
  (x.gaps + ((x.slots.take (x.retired q)).countP Slot.isEmpty + (x.retired q - x.slots.length)))

theorem countP_empty_delivered (l : List Slot) : (l.map Slot.delivered).countP Slot.isEmpty = l.countP Slot.isEmpty := by
  rw [List.countP_map]
  congr 1
  funext y
  cases y <;> rfl

/-- The slots that stay are untouched by the delivery of those that retire. -/
theorem retiring_slots (x : RxStream) (n : Nat) : (x.retiring n).slots.take n = (x.slots.take n).map Slot.delivered
    ∧ (x.retiring n).slots.drop n = x.slots.drop n ∧ (x.retiring n).slots.length = x.slots.length := by
  rcases Nat.le_total n x.slots.length with le | le
  · have length : ((x.slots.take n).map Slot.delivered).length = n := by
      rw [List.length_map, List.length_take, Nat.min_eq_left le]
    refine ⟨List.take_left' length, List.drop_left' length, ?_⟩
    show (_ ++ _ : List Slot).length = _
    rw [List.length_append, length, List.length_drop]
    omega
  · have all : (x.retiring n).slots = x.slots.map Slot.delivered := by
      show _ ++ _ = _
      rw [List.take_of_length_le le, List.drop_of_length_le le, List.append_nil]
    rw [all, List.take_of_length_le le, List.drop_of_length_le le, List.length_map,
      List.take_of_length_le (by rw [List.length_map]; exact le), List.drop_of_length_le (by rw [List.length_map]; exact le)]
    exact ⟨rfl, rfl, rfl⟩

/-- The window of an ORDERED stream after an advance, before the walk: its slots, its base and its release point (R119). -/
structure Advancing (x : RxStream) (q : Seq) : Prop where
  slots : (RxStream.moveWindow q (x.retired q) (x.retiring (x.retired q))).slots
    = x.slots.drop (x.retired q) ++ List.replicate (x.window - (x.slots.length - x.retired q)) .empty
  place : (RxStream.moveWindow q (x.retired q) (x.retiring (x.retired q))).distance
      (RxStream.moveWindow q (x.retired q) (x.retiring (x.retired q))).release = x.distance x.release - x.retired q

theorem advancing (x : RxStream) (q : Seq) : x.Advancing q := by
  obtain ⟨-, stays, length⟩ := x.retiring_slots (x.retired q)
  refine ⟨?_, RxStream.release_moveWindow q (x.retired q)⟩
  show (x.retiring (x.retired q)).slots.drop (x.retired q) ++ List.replicate (x.window - ((x.retiring (x.retired q)).slots.length - x.retired q)) _ = _
  rw [stays, length]

theorem takeWhile_append_empty (l : List Slot) (n : Nat) :
    (l ++ List.replicate n Slot.empty).takeWhile Slot.isHeld = l.takeWhile Slot.isHeld := by
  rw [List.takeWhile_append]
  have none : (List.replicate n Slot.empty).takeWhile Slot.isHeld = [] := by
    cases n with
    | zero => rfl
    | succ n => rfl
  rw [none, List.append_nil]
  split
  · rename_i all
    exact (List.IsPrefix.eq_of_length (List.takeWhile_prefix _) all).symm
  · rfl

/-- The slots that stay after an advance. -/
def staying (x : RxStream) (q : Seq) : List Slot := x.slots.drop (x.retired q)

/-- The place of the release point among them. -/
def stayingRelease (x : RxStream) (q : Seq) : Nat := x.distance x.release - x.retired q

/-- The run of HELD slots that the walk of an advance delivers. -/
def stayingRun (x : RxStream) (q : Seq) : List Slot := ((x.staying q).drop (x.stayingRelease q)).takeWhile Slot.isHeld

section
variable (divided : x.Divided) (beyond : x.window ≤ x.distance q)
include divided

theorem staying_inside : x.stayingRelease q ≤ (x.staying q).length ∧ x.stayingRelease q + (x.stayingRun q).length ≤ (x.staying q).length := by
  have inside := divided.divided.inside
  have le : x.stayingRelease q ≤ (x.staying q).length := by
    unfold stayingRelease staying
    rw [List.length_drop]
    omega
  have run : (x.stayingRun q).length ≤ ((x.staying q).drop (x.stayingRelease q)).length := (List.takeWhile_prefix _).length_le
  rw [List.length_drop] at run
  exact ⟨le, by omega⟩

include beyond

theorem staying_short : (x.staying q).length ≤ x.window - 1 := by
  have fits := divided.tracking.fits
  unfold staying retired
  rw [List.length_drop]
  omega

/-- What the walk of an advance delivers, and the window it leaves (R119). -/
theorem advanced_walk : (RxStream.moveWindow q (x.retired q) (x.retiring (x.retired q))).heldRun = x.stayingRun q
    ∧ (RxStream.moveWindow q (x.retired q) (x.retiring (x.retired q))).walked.slots
      = (x.staying q).take (x.stayingRelease q) ++ (x.stayingRun q).map Slot.delivered
        ++ (x.staying q).drop (x.stayingRelease q + (x.stayingRun q).length)
        ++ List.replicate (x.window - 1 - (x.staying q).length) .empty ++ [.empty] := by
  obtain ⟨slots, place⟩ := x.advancing q
  obtain ⟨inside, past⟩ := staying_inside (q := q) divided
  have short := staying_short divided beyond
  have window := x.sixteen_le_window
  have run : (RxStream.moveWindow q (x.retired q) (x.retiring (x.retired q))).heldRun = x.stayingRun q := by
    unfold RxStream.heldRun stayingRun
    rw [place, slots]
    change ((x.staying q ++ _).drop (x.stayingRelease q)).takeWhile _ = _
    rw [List.drop_append_of_le_length inside, takeWhile_append_empty]
  refine ⟨run, ?_⟩
  rw [walked_eq, run, place, slots]
  change (x.staying q ++ _).take (x.stayingRelease q) ++ _ ++ (x.staying q ++ _).drop (x.stayingRelease q + _) = _
  have count : x.window - (x.slots.length - x.retired q) = x.window - 1 - (x.staying q).length + 1 := by
    have length : (x.staying q).length = x.slots.length - x.retired q := List.length_drop
    omega
  rw [List.take_append_of_le_length inside, List.drop_append_of_le_length past, count, List.replicate_succ']
  simp only [List.append_assoc]

end

end RxStream
end Sys2Proof.Machine

/-! The state in which an advance takes its arrival (R119). -/

namespace Sys2Proof.Machine
namespace State
variable {i : StreamId} {s t u : State} {d : DataArrival} {q : Seq}

/-- The retiring range walked after the HELD frames of an ORDERED stream's retiring slots were delivered (R119 steps 1, 2). -/
def retiredState (s : State) (i : StreamId) (q : Seq) : State :=
  let x := s.rxStream i
  let s1 := if x.ordered then s.releaseFirst i (x.retired q) else s
  State.retire i (x.retired q - x.slots.length) ((s1.rxStream i).slots.take (x.retired q)) x.base 0 s1

theorem advanceWindow_immediate (immediate : (s.rxStream i).ordered = false) :
    s.advanceWindow i q = (s.retiredState i q).modRx i (RxStream.moveWindow q ((s.rxStream i).retired q)) := by
  unfold State.advanceWindow retiredState
  dsimp only
  rw [immediate]
  rfl

theorem advanceWindow_ordered (ordered : (s.rxStream i).ordered = true) :
    s.advanceWindow i q = ((s.retiredState i q).modRx i (RxStream.moveWindow q ((s.rxStream i).retired q))).releaseWalk i := by
  unfold State.advanceWindow retiredState
  dsimp only
  rw [ordered]
  rfl

theorem retiredState_immediate (immediate : (s.rxStream i).ordered = false) (bounded : (s.rxStream i).gaps ≤ 4294967295) :
    (s.retiredState i q).rxStream i = { s.rxStream i with gaps := (s.rxStream i).gapsAfter q } ∧ s.Unmoved (s.retiredState i q) := by
  have alone : s.retiredState i q = State.retire i ((s.rxStream i).retired q - (s.rxStream i).slots.length)
      ((s.rxStream i).slots.take ((s.rxStream i).retired q)) (s.rxStream i).base 0 s := by
    unfold retiredState
    dsimp only
    rw [immediate]
    rfl
  rw [alone]
  refine ⟨?_, retire_unmoved _ _ _ _ _ s⟩
  rw [retire_rx _ _ _ _ _ _ bounded, Nat.zero_add]
  rfl

theorem releaseFirst_rx (s : State) (i : StreamId) (n : Nat) : (s.releaseFirst i n).rxStream i
    = { (s.rxStream i).retiring n with overflow := ((s.releaseFirst i n).rxStream i).overflow } := by
  obtain ⟨⟨accepted, duplicates, late, resyncs, rejected⟩, gaps⟩ := s.releaseFirst_counts i n
  exact RxStream.eq_of_shape (s.releaseFirst_retiring i n) ⟨accepted, duplicates, late, resyncs, rejected⟩ gaps

/-- The retirement of an ORDERED stream: the HELD frames that retire are handed on, the gaps counted. -/
theorem retiredState_ordered (ordered : (s.rxStream i).ordered = true) (bounded : (s.rxStream i).gaps ≤ 4294967295) :
    let x := s.rxStream i
    let u := s.retiredState i q
    u.rxStream i = { x.retiring (x.retired q) with gaps := x.gapsAfter q, overflow := (u.rxStream i).overflow }
      ∧ s.Queued (heldFrames i x.base (x.slots.take (x.retired q))) u ∧ u.time = s.time ∧ ∀ p, u.eligible p = s.eligible p := by
  unfold retiredState
  dsimp only
  rw [ordered, if_pos rfl]
  have rx := s.releaseFirst_rx i ((s.rxStream i).retired q)
  have handed := s.releaseFirst_handed i ((s.rxStream i).retired q)
  have paths : (s.releaseFirst i ((s.rxStream i).retired q)).paths = s.paths := by rw [(s.releaseFirst_mergeOnly i _).1]
  generalize s.releaseFirst i ((s.rxStream i).retired q) = v at rx handed paths ⊢
  have slots : (v.rxStream i).slots.take ((s.rxStream i).retired q)
      = ((s.rxStream i).slots.take ((s.rxStream i).retired q)).map Slot.delivered := by
    rw [rx]
    exact ((s.rxStream i).retiring_slots _).1
  have counted := retire_rx i ((s.rxStream i).retired q - (s.rxStream i).slots.length)
    ((v.rxStream i).slots.take ((s.rxStream i).retired q)) (s.rxStream i).base 0 v (by rw [rx]; exact bounded)
  have unmoved := retire_unmoved i ((s.rxStream i).retired q - (s.rxStream i).slots.length)
    ((v.rxStream i).slots.take ((s.rxStream i).retired q)) (s.rxStream i).base 0 v
  generalize State.retire i ((s.rxStream i).retired q - (s.rxStream i).slots.length)
    ((v.rxStream i).slots.take ((s.rxStream i).retired q)) (s.rxStream i).base 0 v = w at counted unmoved ⊢
  rw [slots, RxStream.countP_empty_delivered, Nat.zero_add] at counted
  have overflow : (w.rxStream i).overflow = (v.rxStream i).overflow := by rw [counted]
  refine ⟨?_, fun room => ?_, unmoved.time.trans handed.time, fun p => (unmoved.eligible p).trans (eligible_of_paths paths p)⟩
  · rw [overflow, counted]
    generalize v.rxStream i = z at rx
    rw [rx]
    rfl
  · rw [unmoved.lane]
    exact handed.lane room

/-- Where an advance takes its arrival on an IMMEDIATE stream. -/
theorem advanceWindow_immediate_rx (immediate : (s.rxStream i).ordered = false) (bounded : (s.rxStream i).gaps ≤ 4294967295) :
    (s.advanceWindow i q).rxStream i
      = RxStream.moveWindow q ((s.rxStream i).retired q) { s.rxStream i with gaps := (s.rxStream i).gapsAfter q }
    ∧ s.Unmoved (s.advanceWindow i q) := by
  obtain ⟨rx, unmoved⟩ := retiredState_immediate (q := q) immediate bounded
  rw [advanceWindow_immediate immediate, State.modRx_rxStream_self, rx]
  exact ⟨rfl, unmoved.trans (.of_paths rfl rfl rfl)⟩

/-- Where an advance takes its arrival on an ORDERED stream, and what it has handed on by then. -/
theorem advanceWindow_ordered_rx (windowed : (s.rxStream i).Windowed) (synced : (s.rxStream i).synced = true)
    (ordered : (s.rxStream i).ordered = true) (bounded : (s.rxStream i).gaps ≤ 4294967295)
    (beyond : (s.rxStream i).window ≤ (s.rxStream i).distance q) (near : (s.rxStream i).distance q < 2147483648) :
    let x := s.rxStream i
    let z := RxStream.moveWindow q (x.retired q) (x.retiring (x.retired q))
    let u := s.advanceWindow i q
    u.rxStream i = { z.walked with gaps := x.gapsAfter q, overflow := (u.rxStream i).overflow }
      ∧ s.Queued (heldFrames i x.base (x.slots.take (x.retired q)) ++ heldFrames i z.release (x.stayingRun q)) u
      ∧ u.time = s.time ∧ ∀ p, u.eligible p = s.eligible p := by
  dsimp only
  obtain ⟨rx, queued, time, eligible⟩ := retiredState_ordered (q := q) ordered bounded
  have divided := (windowed.ready synced ordered).toDivided
  have moved := divided.moveWindow (q := q) rfl beyond near
  obtain ⟨run, -⟩ := RxStream.advanced_walk (q := q) divided beyond
  rw [advanceWindow_ordered ordered]
  dsimp only at rx
  generalize s.retiredState i q = v at rx queued time eligible ⊢
  have shifted := State.modRx_rxStream_self v i (RxStream.moveWindow q ((s.rxStream i).retired q))
  have same := handed_modRx v i (RxStream.moveWindow q ((s.rxStream i).retired q)) rfl
  have paths : (v.modRx i (RxStream.moveWindow q ((s.rxStream i).retired q))).paths = v.paths := rfl
  generalize v.modRx i (RxStream.moveWindow q ((s.rxStream i).retired q)) = w at shifted same paths ⊢
  have whole : w.rxStream i = { RxStream.moveWindow q ((s.rxStream i).retired q) ((s.rxStream i).retiring ((s.rxStream i).retired q)) with
      gaps := (s.rxStream i).gapsAfter q, overflow := (w.rxStream i).overflow } := by
    have overflow : (w.rxStream i).overflow = (v.rxStream i).overflow := by rw [shifted]; rfl
    rw [overflow, shifted]
    generalize v.rxStream i = z at rx
    rw [rx]
    rfl
  have small : (w.rxStream i).slots.length < 4294967296 := by
    rw [whole]
    exact Nat.lt_of_le_of_lt moved.tracking.length_le (by decide)
  have heldRun : (w.rxStream i).heldRun = (s.rxStream i).stayingRun q := by
    rw [← run, whole]
    rfl
  obtain ⟨handed, -⟩ := releaseWalk_handed small
  have walked := releaseWalk_rx small
  have release : (w.rxStream i).release
      = (RxStream.moveWindow q ((s.rxStream i).retired q) ((s.rxStream i).retiring ((s.rxStream i).retired q))).release := by
    rw [whole]
  rw [heldRun, release] at handed
  have still : (w.releaseWalk i).paths = w.paths := by rw [(w.releaseWalk_mergeOnly i).1]
  have sent := queued.trans (same.lane.trans handed.lane)
  rw [List.nil_append] at sent
  refine ⟨?_, sent, (handed.time.trans same.time).trans time, fun p => (eligible_of_paths (still.trans paths) p).trans (eligible p)⟩
  generalize (w.releaseWalk i).rxStream i = y at walked
  rw [walked, whole]
  rfl

end State
end Sys2Proof.Machine

/-! An ORDERED stream advances, and O48 (R114, R119). -/

namespace Sys2Proof.Machine

namespace RxStream
variable {x : RxStream} {q : Seq}

/-- The slots that stay after an advance and its walk, with the EMPTY ones up to the arrival's place (R119). -/
def stayed (x : RxStream) (q : Seq) : List Slot :=
  (x.staying q).take (x.stayingRelease q) ++ (x.stayingRun q).map Slot.delivered
    ++ (x.staying q).drop (x.stayingRelease q + (x.stayingRun q).length) ++ List.replicate (x.window - 1 - (x.staying q).length) .empty

/-- The window after an advance and its walk. -/
def advancedWalk (x : RxStream) (q : Seq) : RxStream := (RxStream.moveWindow q (x.retired q) (x.retiring (x.retired q))).walked

theorem held_of_stayed {info : SlotInfo} {f : HeldFrame} (member : Slot.held info f ∈ x.stayed q) : Slot.held info f ∈ x.slots := by
  rcases List.mem_append.mp member with stays | new
  · rcases List.mem_append.mp stays with early | late
    · rcases List.mem_append.mp early with before | run
      · exact List.mem_of_mem_drop (List.mem_of_mem_take before)
      · exact absurd run Slot.held_not_delivered
    · exact List.mem_of_mem_drop (List.mem_of_mem_drop late)
  · cases List.eq_of_mem_replicate new

section
variable (divided : x.Divided) (beyond : x.window ≤ x.distance q)
include divided beyond

theorem stayed_length : (x.stayed q).length = x.window - 1 := by
  obtain ⟨inside, past⟩ := staying_inside (q := q) divided
  have short := staying_short divided beyond
  unfold stayed
  rw [List.length_append, List.length_append, List.length_append, List.length_take, List.length_map, List.length_drop, List.length_replicate]
  omega

/-- The window in which an advance takes its arrival: the base, the arrival's place and the release point (R119). -/
theorem advancedWalk_fields : (x.advancedWalk q).slots = x.stayed q ++ [.empty]
    ∧ (x.advancedWalk q).distance q = x.window - 1
    ∧ (x.advancedWalk q).base = q + 1 - BitVec.ofNat 32 x.window
    ∧ (x.advancedWalk q).release
      = (x.advancedWalk q).base + BitVec.ofNat 32 (x.stayingRelease q + (x.stayingRun q).length) := by
  obtain ⟨run, slots⟩ := advanced_walk divided beyond
  obtain ⟨-, place⟩ := x.advancing q
  have window := x.sixteen_le_window
  have distance : (x.advancedWalk q).distance q = x.window - 1 := by
    have moved := RxStream.distance_moveWindow (x := x.retiring (x.retired q)) (q := q) (p := q) (n := x.retired q)
      (by show x.distance q + 1 - x.window ≤ x.distance q; omega)
    refine moved.trans ?_
    show x.distance q - (x.distance q + 1 - x.window) = x.window - 1
    omega
  have base : (x.advancedWalk q).base = q + 1 - BitVec.ofNat 32 x.window := base_retired beyond
  refine ⟨slots, distance, base, ?_⟩
  have release : (x.advancedWalk q).release = (RxStream.moveWindow q (x.retired q) (x.retiring (x.retired q))).release
      + BitVec.ofNat 32 (x.stayingRun q).length := by
    show _ + BitVec.ofNat 32 (RxStream.heldRun _).length = _
    rw [run]
  have at_base : (RxStream.moveWindow q (x.retired q) (x.retiring (x.retired q))).release
      = (x.advancedWalk q).base + BitVec.ofNat 32 (x.stayingRelease q) := by
    have sum := (RxStream.moveWindow q (x.retired q) (x.retiring (x.retired q))).base_add_distance
      (RxStream.moveWindow q (x.retired q) (x.retiring (x.retired q))).release
    rw [place] at sum
    exact sum.symm
  rw [release, at_base, BitVec.ofNat_add, BitVec.add_assoc]

end
end RxStream

namespace State
variable {i : StreamId} {s t u : State} {d : DataArrival}

section
variable (stream : d.copy.stream = i) (windowed : (s.rxStream i).Windowed) (synced : (s.rxStream i).synced = true)
  (ordered : (s.rxStream i).ordered = true) (bounded : (s.rxStream i).gaps ≤ 4294967295)
  (beyond : (s.rxStream i).window ≤ (s.rxStream i).distance d.copy.seq) (near : (s.rxStream i).distance d.copy.seq < 2147483648)
include windowed synced ordered bounded beyond near

/-- The stream in which the arrival of an advance is taken. -/
theorem advanceWindow_taken : let x := s.rxStream i
    let u := s.advanceWindow i d.copy.seq
    u.rxStream i = { x.advancedWalk d.copy.seq with gaps := x.gapsAfter d.copy.seq, overflow := (u.rxStream i).overflow }
      ∧ (u.rxStream i).Resting
      ∧ (u.rxStream i).slots = x.stayed d.copy.seq ++ [.empty]
      ∧ (u.rxStream i).distance d.copy.seq = x.window - 1
      ∧ (u.rxStream i).slots[(u.rxStream i).distance d.copy.seq]? = some .empty
      ∧ (u.rxStream i).release = d.copy.seq + 1 - BitVec.ofNat 32 x.window
        + BitVec.ofNat 32 (x.stayingRelease d.copy.seq + (x.stayingRun d.copy.seq).length)
      ∧ s.Queued (heldFrames i x.base (x.slots.take (x.retired d.copy.seq)) ++ heldFrames i
          (d.copy.seq + 1 - BitVec.ofNat 32 x.window + BitVec.ofNat 32 (x.stayingRelease d.copy.seq)) (x.stayingRun d.copy.seq)) u
      ∧ u.time = s.time ∧ ∀ p, u.eligible p = s.eligible p := by
  dsimp only
  obtain ⟨rx, queued, time, eligible⟩ := advanceWindow_ordered_rx windowed synced ordered bounded beyond near
  have divided := (windowed.ready synced ordered).toDivided
  obtain ⟨slots, distance, base, release⟩ := RxStream.advancedWalk_fields divided beyond
  obtain ⟨resting, -, empty⟩ := windowed.advanced synced beyond near
  have shape := State.advanceWindow_shape windowed synced beyond near
  have at_base : (RxStream.moveWindow d.copy.seq ((s.rxStream i).retired d.copy.seq)
      ((s.rxStream i).retiring ((s.rxStream i).retired d.copy.seq))).release
        = d.copy.seq + 1 - BitVec.ofNat 32 (s.rxStream i).window + BitVec.ofNat 32 ((s.rxStream i).stayingRelease d.copy.seq) := by
    have sum := (RxStream.moveWindow d.copy.seq ((s.rxStream i).retired d.copy.seq)
      ((s.rxStream i).retiring ((s.rxStream i).retired d.copy.seq))).base_add_distance
        (RxStream.moveWindow d.copy.seq ((s.rxStream i).retired d.copy.seq)
          ((s.rxStream i).retiring ((s.rxStream i).retired d.copy.seq))).release
    rw [((s.rxStream i).advancing d.copy.seq).place] at sum
    rw [← base]
    exact sum.symm
  rw [at_base] at queued
  dsimp only at rx
  generalize s.advanceWindow i d.copy.seq = u at rx queued time eligible shape ⊢
  have slots' : (u.rxStream i).slots = (s.rxStream i).stayed d.copy.seq ++ [.empty] := by rw [rx]; exact slots
  have distance' : (u.rxStream i).distance d.copy.seq = (s.rxStream i).window - 1 := by rw [rx]; exact distance
  refine ⟨rx, (resting ordered).of_shape shape, slots', distance', ?_, ?_, queued, time, eligible⟩
  · rw [slots', distance', List.getElem?_append_right (le_of_eq (RxStream.stayed_length divided beyond)),
      RxStream.stayed_length divided beyond, Nat.sub_self]
    rfl
  · rw [← base, ← release, rx]
    rfl

variable (own : s.mono < d.stamp.mono + (s.rxStream i).holdTime * 1000)
  (early : ∀ a ∈ (s.rxStream i).heldArrivals, s.mono < a + (s.rxStream i).holdTime * 1000)
include own early

/-- An advance whose arrival lies ahead of the release point: it is held (R114, R119). -/
theorem advance_holds (ahead : (s.rxStream i).stayingRelease d.copy.seq + ((s.rxStream i).stayingRun d.copy.seq).length < (s.rxStream i).window - 1) :
    let x := s.rxStream i
    let y := (s.advance i d).rxStream i
    y = { x.advancedWalk d.copy.seq with
        slots := x.stayed d.copy.seq ++ [.held d.info (d.kept (s.eligible d.path))], gaps := x.gapsAfter d.copy.seq
        accepted := min 4294967295 (x.accepted + 1), holdDeadline := y.deadlineFormed, overflow := y.overflow }
      ∧ s.Queued (heldFrames i x.base (x.slots.take (x.retired d.copy.seq)) ++ heldFrames i
          (d.copy.seq + 1 - BitVec.ofNat 32 x.window + BitVec.ofNat 32 (x.stayingRelease d.copy.seq)) (x.stayingRun d.copy.seq))
          (s.advance i d) := by
  dsimp only
  obtain ⟨rx, resting, slots, distance, -, release, queued, time, eligible⟩ :=
    advanceWindow_taken windowed synced ordered bounded beyond near
  have divided := (windowed.ready synced ordered).toDivided
  have window := divided.tracking.window_le
  obtain ⟨-, -, base, -⟩ := RxStream.advancedWalk_fields divided beyond
  have length := RxStream.stayed_length divided beyond
  have steps : s.advance i d = ((s.advanceWindow i d.copy.seq).firstArrival i d).settleHold i := by
    rw [State.advance_eq, ordered]
    rfl
  rw [steps]
  dsimp only at rx
  generalize s.advanceWindow i d.copy.seq = u at rx resting slots distance release queued time eligible ⊢
  have base' : (u.rxStream i).base = d.copy.seq + 1 - BitVec.ofNat 32 (s.rxStream i).window := by rw [← base, rx]
  have hold : (u.rxStream i).holdTime = (s.rxStream i).holdTime := by rw [rx]; rfl
  have accepted : (u.rxStream i).accepted = (s.rxStream i).accepted := by rw [rx]; rfl
  have notDue : d.copy.seq ≠ (u.rxStream i).release := by
    intro due
    have place : (u.rxStream i).distance (u.rxStream i).release
        = (s.rxStream i).stayingRelease d.copy.seq + ((s.rxStream i).stayingRun d.copy.seq).length := by
      rw [release, ← base']
      exact RxStream.distance_base_add (by omega)
    rw [← due, distance] at place
    omega
  rw [firstArrival_ahead resting.ordered notDue (.inr (by unfold State.mono at own ⊢; rw [time, hold]; exact own)), eligible]
  have kept : (keptAhead d (s.eligible d.path) (u.rxStream i)).slots
      = (s.rxStream i).stayed d.copy.seq ++ [.held d.info (d.kept (s.eligible d.path))] := by
    show (u.rxStream i).slots.set ((u.rxStream i).distance d.copy.seq) _ = _
    rw [slots, distance, List.set_append_right _ _ (le_of_eq length), length, Nat.sub_self]
    rfl
  have vrx : ((u.modRx i (keptAhead d (s.eligible d.path))).modEntry d.path PathEntry.won).rxStream i
      = keptAhead d (s.eligible d.path) (u.rxStream i) := State.modRx_rxStream_self u i _
  have vtime : ((u.modRx i (keptAhead d (s.eligible d.path))).modEntry d.path PathEntry.won).time = u.time := rfl
  have vlane : ((u.modRx i (keptAhead d (s.eligible d.path))).modEntry d.path PathEntry.won).localPort = u.localPort := rfl
  generalize (u.modRx i (keptAhead d (s.eligible d.path))).modEntry d.path PathEntry.won = v at vrx vtime vlane ⊢
  have settled : v.settleHold i = v.formDeadline i := by
    refine settleHold_early fun a member => ?_
    have hold' : (v.rxStream i).holdTime = (s.rxStream i).holdTime := by rw [vrx, ← hold]; rfl
    unfold State.mono at own early ⊢
    rw [vtime, time, hold']
    obtain ⟨info, f, slot, rfl⟩ := RxStream.mem_heldArrivals.mp member
    rw [vrx, kept] at slot
    rcases List.mem_append.mp slot with old | new
    · exact early _ (RxStream.mem_heldArrivals.mpr ⟨info, f, RxStream.held_of_stayed old, rfl⟩)
    · cases List.mem_singleton.mp new
      exact own
  rw [settled]
  have formed := v.formDeadline_rx i
  have lane : (v.formDeadline i).localPort = u.localPort := vlane
  generalize v.formDeadline i = t at formed lane ⊢
  have same : (t.rxStream i).deadlineFormed = (v.rxStream i).deadlineFormed := RxStream.deadlineFormed_congr (by rw [formed]) (by rw [formed])
  have overflow : (t.rxStream i).overflow = (u.rxStream i).overflow := by rw [formed, vrx]; rfl
  refine ⟨?_, fun room => lane.trans (queued room)⟩
  rw [same, overflow, formed]
  generalize (v.rxStream i).deadlineFormed = deadline
  rw [vrx, ← kept]
  unfold keptAhead
  dsimp only
  generalize u.rxStream i = z at rx
  rw [rx]
  rfl

omit own in
include stream in
/-- An advance whose arrival is the release point: it is delivered (R114, R119). -/
theorem advance_delivers (due : (s.rxStream i).stayingRelease d.copy.seq + ((s.rxStream i).stayingRun d.copy.seq).length = (s.rxStream i).window - 1) :
    let x := s.rxStream i
    let y := (s.advance i d).rxStream i
    y = { x.advancedWalk d.copy.seq with
        slots := x.stayed d.copy.seq ++ [.done d.info], release := d.copy.seq + 1, gaps := x.gapsAfter d.copy.seq
        accepted := min 4294967295 (x.accepted + 1), holdDeadline := y.deadlineFormed, overflow := y.overflow }
      ∧ s.Queued (heldFrames i x.base (x.slots.take (x.retired d.copy.seq)) ++ heldFrames i
          (d.copy.seq + 1 - BitVec.ofNat 32 x.window + BitVec.ofNat 32 (x.stayingRelease d.copy.seq)) (x.stayingRun d.copy.seq)
          ++ [⟨i, d.copy.payload, d.copy.seq, d.path, d.stamp.tod⟩]) (s.advance i d) := by
  dsimp only
  obtain ⟨rx, resting, slots, distance, empty, release, queued, time, -⟩ :=
    advanceWindow_taken windowed synced ordered bounded beyond near
  have divided := (windowed.ready synced ordered).toDivided
  have window := divided.tracking.window_le
  have sixteen := (s.rxStream i).sixteen_le_window
  obtain ⟨-, -, base, -⟩ := RxStream.advancedWalk_fields divided beyond
  have length := RxStream.stayed_length divided beyond
  have steps : s.advance i d = ((s.advanceWindow i d.copy.seq).firstArrival i d).settleHold i := by
    rw [State.advance_eq, ordered]
    rfl
  rw [steps]
  dsimp only at rx
  generalize s.advanceWindow i d.copy.seq = u at rx resting slots distance empty release queued time ⊢
  have base' : (u.rxStream i).base = d.copy.seq + 1 - BitVec.ofNat 32 (s.rxStream i).window := by rw [← base, rx]
  have hold : (u.rxStream i).holdTime = (s.rxStream i).holdTime := by rw [rx]; rfl
  have atRelease : d.copy.seq = (u.rxStream i).release := by
    refine RxStream.distance_inj (x := u.rxStream i) ?_
    rw [distance, release, ← base', RxStream.distance_base_add (by omega), due]
  have soon : ∀ a ∈ (u.rxStream i).heldArrivals, s.time.mono < a + (s.rxStream i).holdTime * 1000 := by
    intro a member
    obtain ⟨info, f, slot, rfl⟩ := RxStream.mem_heldArrivals.mp member
    rw [slots] at slot
    rcases List.mem_append.mp slot with old | new
    · exact early _ (RxStream.mem_heldArrivals.mpr ⟨info, f, RxStream.held_of_stayed old, rfl⟩)
    · cases List.mem_singleton.mp new
  have newest : (u.rxStream i).slots.length = (u.rxStream i).distance d.copy.seq + 1 := by
    rw [slots, distance, List.length_append, length]
    rfl
  obtain ⟨taken, moved, handed⟩ := firstArrival_due stream resting atRelease empty
    (fun a member => by unfold State.mono; rw [time, hold]; exact soon a member)
  rw [takenAt_newest newest, distance, slots, List.take_left' length, ← atRelease] at moved
  rw [runFrom_end (le_of_eq newest)] at handed
  dsimp only at moved
  generalize u.firstArrival i d = v at moved handed ⊢
  have vslots : (v.rxStream i).slots = (s.rxStream i).stayed d.copy.seq ++ [.done d.info] := by rw [moved]
  have settled : v.settleHold i = v.formDeadline i := by
    refine settleHold_early fun a member => ?_
    have hold' : (v.rxStream i).holdTime = (s.rxStream i).holdTime := by rw [← hold, moved]
    unfold State.mono
    rw [handed.time, time, hold']
    refine soon a (RxStream.heldArrivals_subset (fun info f held => ?_) member)
    rw [vslots] at held
    rw [slots]
    rcases List.mem_append.mp held with old | new
    · exact List.mem_append_left _ old
    · cases List.mem_singleton.mp new
  rw [settled]
  have formed := v.formDeadline_rx i
  have lane := (handed.before (v.formDeadline_handed i)).lane
  generalize v.formDeadline i = t at formed lane ⊢
  have same : (t.rxStream i).deadlineFormed = (v.rxStream i).deadlineFormed := RxStream.deadlineFormed_congr (by rw [formed]) (by rw [formed])
  have overflow : (t.rxStream i).overflow = (v.rxStream i).overflow := by rw [formed]
  refine ⟨?_, queued.trans lane⟩
  rw [same, overflow, formed]
  generalize (v.rxStream i).deadlineFormed = deadline
  generalize v.rxStream i = z at moved
  rw [moved]
  dsimp only
  generalize u.rxStream i = z' at rx
  rw [rx]
  rfl

end
end State
end Sys2Proof.Machine

/-! O48: an ORDERED stream holds what comes ahead of its release point and delivers in order. -/

namespace Sys2Proof.Machine

theorem heldFrames_length_le (i : StreamId) (q : Seq) (slots : List Slot) : (heldFrames i q slots).length ≤ slots.length := by
  rw [heldFrames_eq]
  exact yields_length_le _ _ _

theorem heldRecords_length_le (i : StreamId) (q : Seq) (slots : List Slot) (now : Stamp) : (heldRecords i q slots now).length ≤ slots.length := by
  rw [heldRecords_eq]
  exact yields_length_le _ _ _

namespace State
variable {i : StreamId} {s t : State} {d : DataArrival} {fs : List DeliveredFrame} {bodies : List RecordBody}

/-- The deliveries as the statements show them: with room for `k` frames the queue, with room for `k'` records the log. -/
theorem Handed.shown (h : Handed i s fs bodies t) {k k' : Nat} (frames : fs.length ≤ k) (few : bodies.length ≤ k')
    (room : s.localPort.inProgress ≠ none ∧ s.localPort.queue.length + k ≤ 64) : t.localPort.queue = s.localPort.queue ++ fs
      ∧ ((s.rxStream i).records = true ∧ s.log.records.length + k' ≤ 1024 → s.written t = bodies) := by
  have space : s.HasRoom fs.length := ⟨room.1, by have := room.2; omega⟩
  exact ⟨h.queue space, fun ⟨on, records⟩ => h.written space on (by omega)⟩

end State

/-- Settles O48: each way to a first arrival of an ORDERED stream is a case of its own. -/
theorem orderedStreamHolds : Obligations.OrderedStreamHolds := by
  intro s d i x n w reach t y won info kept frame own holding noneLate room logged framed enabled ordered windowed
  have framedOf (h : State.FirstTaken i d s t) : framed := by
    refine ⟨h.accepted, ?_, h.others, h.only⟩
    rw [h.entry d.path, if_pos rfl]
    rfl
  have aloneOf (h : State.DeliveredAlone i d s t) : framed
      ∧ (room 1 → t.localPort.queue = s.localPort.queue ++ [frame] ∧ (logged 1 → s.written t = [own])) :=
    ⟨framedOf h.taken, fun space => h.handed.shown (Nat.le_refl _) (Nat.le_refl _) space⟩
  have reachable : reach ≤ 1048576 := RxStream.resyncDistance_le windowed.2.1
  refine ⟨fun off => ?_, fun synced empty ahead early => ?_, fun synced empty due late => ?_, fun synced beyond within ahead early => ?_,
    fun synced beyond within due => ?_, fun synced bounded beyond near late => ?_, fun synced beyond ahead => ?_⟩
  · have runs : t = s.synchronize i d := State.takeData_unsynced enabled off
    obtain ⟨alone, moved⟩ := State.synchronize_ordered (d := d) rfl windowed ordered
    rw [← runs] at alone moved
    obtain ⟨shown, sent⟩ := aloneOf alone
    refine ⟨shown, ?_, sent⟩
    have free : x.holdDeadline = none := (windowed.2.2.1 off).2
    refine moved.trans ?_
    rw [shown.1, free]
    rfl
  · have runs : t = s.firstArrival i d := State.takeData_empty enabled synced windowed empty
    rw [runs, State.firstArrival_ahead ordered ahead early]
    rfl
  · have runs : t = s.firstArrival i d := State.takeData_empty enabled synced windowed empty
    have ready := windowed.ready synced ordered
    obtain ⟨taken, moved, handed⟩ := State.firstArrival_due (d := d) rfl ready.toResting due empty late.2
    rw [← runs] at taken moved handed
    refine ⟨framedOf taken, ?_, fun space => ?_⟩
    · refine moved.trans ?_
      rw [(framedOf taken).1]
      rfl
    · exact handed.shown (Nat.succ_le_succ (heldFrames_length_le _ _ _)) (Nat.succ_le_succ (heldRecords_length_le _ _ _ _)) space
  · have runs : t = (s.modRx i (RxStream.fillTo d.copy.seq)).firstArrival i d := State.takeData_fills enabled synced windowed beyond within
    rw [runs, State.fill_ahead ordered ahead early]
    refine congrArg (fun u : State => u.modEntry d.path PathEntry.won) (State.modRx_congr ?_)
    exact State.keptAhead_fillTo d (s.eligible d.path) beyond
  · have runs : t = (s.modRx i (RxStream.fillTo d.copy.seq)).firstArrival i d := State.takeData_fills enabled synced windowed beyond within
    obtain ⟨alone, moved⟩ := State.fill_due (d := d) rfl (windowed.ready synced ordered) windowed beyond within due
    rw [← runs] at alone moved
    obtain ⟨shown, sent⟩ := aloneOf alone
    refine ⟨shown, moved.trans ?_, sent⟩
    rw [shown.1]
    rfl
  · have runs : t = s.advance i d := State.takeData_advances enabled synced windowed beyond near
    have near' : n < 2147483648 := by omega
    intro gone rest r run stayed base
    have divided := (windowed.ready synced ordered).toDivided
    have short : rest.length ≤ w - 1 := RxStream.staying_short divided beyond
    obtain ⟨-, past⟩ := RxStream.staying_inside (q := d.copy.seq) divided
    obtain ⟨-, -, atBase, atRelease⟩ := RxStream.advancedWalk_fields divided beyond
    have inside : r + run.length ≤ w - 1 := past.trans short
    have others := (s.advance_dataOnly i d).2.1
    rw [← runs] at others
    have few := heldFrames_length_le i x.base gone
    have few' := heldFrames_length_le i (base + BitVec.ofNat 32 r) run
    rcases Nat.lt_or_eq_of_le inside with less | last
    · obtain ⟨moved, queued⟩ := State.advance_holds windowed synced ordered bounded beyond near' late.1 late.2 less
      rw [← runs] at moved queued
      have field {α : Type} (f : RxStream → α) := congrArg f moved
      refine ⟨(field RxStream.base).trans atBase, field RxStream.front, (field RxStream.synced).trans synced, field RxStream.resyncs,
        field RxStream.accepted, field RxStream.gaps, field RxStream.holdDeadline, fun _ => ⟨field RxStream.slots, ?_⟩,
        fun last => absurd less (by rw [last]; exact Nat.lt_irrefl _), fun space => ?_, others⟩
      · refine (field RxStream.release).trans (atRelease.trans ?_)
        rw [atBase]
        rfl
      · rw [if_pos less, List.append_nil, List.append_assoc]
        refine congrArg LocalPort.queue (queued ⟨space.1, ?_⟩)
        have fits := space.2
        rw [List.length_append]
        exact Nat.le_trans (Nat.add_le_add_left (Nat.le_succ_of_le (Nat.add_le_add few few')) _) fits
    · obtain ⟨moved, queued⟩ := State.advance_delivers rfl windowed synced ordered bounded beyond near' late.2 last
      rw [← runs] at moved queued
      have field {α : Type} (f : RxStream → α) := congrArg f moved
      refine ⟨(field RxStream.base).trans atBase, field RxStream.front, (field RxStream.synced).trans synced, field RxStream.resyncs,
        field RxStream.accepted, field RxStream.gaps, field RxStream.holdDeadline,
        fun less => absurd less (by rw [last]; exact Nat.lt_irrefl _), fun _ => ⟨field RxStream.slots, field RxStream.release⟩,
        fun space => ?_, others⟩
      rw [if_neg (by rw [last]; exact Nat.lt_irrefl _), List.append_assoc, List.append_assoc, ← List.append_assoc (heldFrames _ _ _)]
      refine congrArg LocalPort.queue (queued ⟨space.1, ?_⟩)
      have fits := space.2
      rw [List.length_append, List.length_append]
      exact Nat.le_trans (Nat.add_le_add_left (Nat.succ_le_succ (Nat.add_le_add few few')) _) fits
  · have runs : t = (s.resync i .jump (some d.copy.seq)).synchronize i d := State.takeData_jumps enabled synced windowed beyond ahead
    obtain ⟨taken, moved, handed⟩ := State.jump_ordered (d := d) rfl windowed ordered
    rw [← runs] at taken moved handed
    refine ⟨framedOf taken, moved.trans ?_, fun space => ?_⟩
    · rw [(framedOf taken).1, ← synced]
      rfl
    · have few := heldFrames_length_le i x.base x.slots
      have few' := heldRecords_length_le i x.base x.slots s.stamp
      obtain ⟨lane, noted⟩ := handed.shown (k := x.slots.length + 1) (k' := x.slots.length + 2)
        (by rw [List.length_append]; exact Nat.succ_le_succ few)
        (by rw [List.length_append, List.length_append]; exact Nat.succ_le_succ (Nat.succ_le_succ few')) space
      exact ⟨lane.trans (List.append_assoc _ _ _).symm, fun on => (noted on).trans (List.append_assoc _ _ _)⟩

end Sys2Proof.Machine

/-! A first arrival on an IMMEDIATE stream is delivered at once (R113, R117, R118). -/

namespace Sys2Proof.Machine
namespace State
variable {i : StreamId} {s t u : State} {d : DataArrival}

/-! ## One delivery, with the lane busy, idle or full -/

theorem queueDelivery_idle {f : DeliveredFrame} (idle : s.localPort.inProgress = none) (empty : s.localPort.queue = []) :
    (s.queueDelivery i f).localPort = { s.localPort with inProgress := some f } := by
  unfold State.queueDelivery
  rw [empty, if_neg (by decide)]
  have joined : s.localPort.join f = { s.localPort with inProgress := some f } := by
    unfold LocalPort.join LocalPort.start
    dsimp only
    rw [idle, empty]
    rfl
  exact joined

theorem queueDelivery_full {f : DeliveredFrame} (full : 64 ≤ s.localPort.queue.length) : s.queueDelivery i f
    = (s.modRx i (fun x => { x with overflow := inc32 x.overflow })).raiseAll .drop := if_pos full

/-- What a delivery leaves besides the stream: the lane, the overflow count and the DELIVERY record (R117, R118). -/
structure DeliveredOn (i : StreamId) (f : DeliveredFrame) (record : Bool → RecordBody) (s t : State) : Prop where
  busy : s.localPort.inProgress ≠ none → s.localPort.queue.length < 64 →
    t.localPort = { s.localPort with queue := s.localPort.queue ++ [f] }
  idle : s.localPort.inProgress = none → s.localPort.queue = [] → t.localPort = { s.localPort with inProgress := some f }
  full : 64 ≤ s.localPort.queue.length → t.localPort = s.localPort
    ∧ (t.rxStream i).overflow = min 4294967295 ((s.rxStream i).overflow + 1) ∧ ∀ q, AttnSet.has (t.port q).pending .drop = true
  on : (s.rxStream i).records = true → t.log.records.getLast?
    = some ⟨t.log.next - 1, s.time.tod, s.time.quality, record (decide (64 ≤ s.localPort.queue.length))⟩
  off : (s.rxStream i).records = false → t.log = s.log

theorem deliver_on (s : State) (i : StreamId) (d : Delivery) : DeliveredOn i d.frame (d.record s.time.tod) s (s.deliver i d) := by
  obtain ⟨time, -, log⟩ := s.queueDelivery_same i d.frame
  have body : s.deliver i d = if (s.rxStream i).records then (s.queueDelivery i d.frame).logWrite
      (d.record s.time.tod (decide (64 ≤ s.localPort.queue.length))) else s.queueDelivery i d.frame := rfl
  have lane : (s.deliver i d).localPort = (s.queueDelivery i d.frame).localPort := by
    rw [body]
    split
    · exact (State.logWrite_kept _ _).2
    · rfl
  have stream : (s.deliver i d).rxStream i = (s.queueDelivery i d.frame).rxStream i := by
    rw [body]
    split
    · exact State.logWrite_rxStream _ _ i
    · rfl
  have raised (q : Port) : AttnSet.has ((s.deliver i d).port q).pending .drop
      = AttnSet.has ((s.queueDelivery i d.frame).port q).pending .drop := by
    rw [body]
    split
    · exact State.logWrite_has_other _ _ q (by decide) (by decide)
    · rfl
  refine ⟨fun busy room => ?_, fun idle empty => ?_, fun full => ⟨?_, ?_, fun q => ?_⟩, fun on => ?_, fun off => ?_⟩
  · rw [lane]
    exact s.queueDelivery_queued i d.frame ⟨busy, room⟩
  · rw [lane]
    exact queueDelivery_idle idle empty
  · rw [lane, queueDelivery_full full]
    rfl
  · rw [stream, queueDelivery_full full, State.raiseAll_rxStream, State.modRx_rxStream_self]
    rfl
  · rw [raised, queueDelivery_full full]
    exact State.raiseAll_has _ _ q
  · rw [body, if_pos on, State.logWrite_last, State.logWrite_next, BitVec.add_sub_cancel, time]
  · rw [body, if_neg (by rw [off]; exact Bool.false_ne_true), log]

/-! ## The first arrival -/

/-- A state in which an IMMEDIATE stream takes a first arrival, with what it has in common with the state before the frame. -/
structure Prepared (i : StreamId) (s u : State) : Prop where
  unmoved : s.Unmoved u
  records : (u.rxStream i).records = (s.rxStream i).records
  accepted : (u.rxStream i).accepted = (s.rxStream i).accepted
  duplicates : (u.rxStream i).duplicates = (s.rxStream i).duplicates
  late : (u.rxStream i).late = (s.rxStream i).late
  overflow : (u.rxStream i).overflow = (s.rxStream i).overflow
  immediate : (u.rxStream i).ordered = false
  others : ∀ j, j ≠ i → u.rxStream j = s.rxStream j

/-- The state in which the frame of a first arrival is delivered. -/
def arrivalDone (u : State) (i : StreamId) (d : DataArrival) : State :=
  (u.countArrival i d).setSlot i (((u.countArrival i d).rxStream i).distance d.copy.seq) (.done d.info)

theorem firstArrival_immediate_eq (immediate : (u.rxStream i).ordered = false) :
    u.firstArrival i d = (u.arrivalDone i d).deliver i (d.delivery i (u.eligible d.path) false) :=
  State.firstArrival_of_immediate immediate

theorem arrivalDone_rx (u : State) (i : StreamId) (d : DataArrival) : (u.arrivalDone i d).rxStream i
    = { (u.rxStream i).setAt ((u.rxStream i).distance d.copy.seq) (.done d.info) with
        accepted := min 4294967295 ((u.rxStream i).accepted + 1) } := by
  have counted := u.countArrival_rx i d
  unfold arrivalDone State.setSlot
  rw [State.modRx_rxStream_self, counted]
  rfl

/-- The stream after a first arrival in IMMEDIATE mode (R113). -/
theorem firstArrival_immediate_rx (immediate : (u.rxStream i).ordered = false) : let y := (u.firstArrival i d).rxStream i
    y = { (u.rxStream i).setAt ((u.rxStream i).distance d.copy.seq) (.done d.info) with
        accepted := min 4294967295 ((u.rxStream i).accepted + 1), overflow := y.overflow } := by
  dsimp only
  rw [firstArrival_immediate_eq immediate]
  have delivered := (u.arrivalDone i d).deliver_rx i (d.delivery i (u.eligible d.path) false)
  rw [arrivalDone_rx] at delivered
  exact delivered

/-- A first arrival in IMMEDIATE mode, said of the state before the frame. -/
theorem Prepared.arrives (h : Prepared i s u) (stream : d.copy.stream = i) : let x := s.rxStream i
    let t := u.firstArrival i d
    let y := t.rxStream i
    y.accepted = min 4294967295 (x.accepted + 1) ∧ y.duplicates = x.duplicates ∧ y.late = x.late
      ∧ (t.entry d.path).stats = { (s.entry d.path).stats with wins := min 4294967295 ((s.entry d.path).stats.wins + 1) }
      ∧ (s.localPort.inProgress ≠ none → s.localPort.queue.length < 64 →
          t.localPort = { s.localPort with queue := s.localPort.queue ++ [⟨i, d.copy.payload, d.copy.seq, d.path, d.stamp.tod⟩] })
      ∧ (s.localPort.inProgress = none → s.localPort.queue = [] →
          t.localPort = { s.localPort with inProgress := some ⟨i, d.copy.payload, d.copy.seq, d.path, d.stamp.tod⟩ })
      ∧ (64 ≤ s.localPort.queue.length → t.localPort = s.localPort ∧ y.overflow = min 4294967295 (x.overflow + 1)
          ∧ ∀ q, AttnSet.has (t.port q).pending .drop = true)
      ∧ (x.records = true → t.log.records.getLast? = some ⟨t.log.next - 1, s.time.tod, s.time.quality,
          s.arrivalBody d none (decide (64 ≤ s.localPort.queue.length))⟩)
      ∧ (x.records = false → t.log = u.log)
      ∧ ∀ j, j ≠ i → t.rxStream j = s.rxStream j := by
  obtain ⟨⟨time, lane, stats, eligible⟩, records, accepted, duplicates, late, overflow, immediate, others⟩ := h
  have rx := firstArrival_immediate_rx (d := d) immediate
  have delivered := (u.arrivalDone i d).deliver_on i (d.delivery i (u.eligible d.path) false)
  have merged := (u.arrivalDone i d).deliver_mergeOnly i (d.delivery i (u.eligible d.path) false)
  rw [← firstArrival_immediate_eq immediate] at delivered merged
  have before := u.arrivalDone_rx i d
  have paths : (u.firstArrival i d).paths = (u.countArrival i d).paths := by
    rw [merged.1]
    rfl
  have lane' : (u.arrivalDone i d).localPort = s.localPort := lane
  have time' : (u.arrivalDone i d).time = s.time := time
  have log' : (u.arrivalDone i d).log = u.log := rfl
  have rest (j : StreamId) (other : j ≠ i) : (u.arrivalDone i d).rxStream j = u.rxStream j := by
    unfold arrivalDone State.setSlot State.countArrival
    rw [State.modRx_rxStream_ne _ _ _ other, State.modStats_rxStream, State.modRx_rxStream_ne _ _ _ other]
  generalize u.arrivalDone i d = v at delivered merged before lane' time' log' rest
  dsimp only at rx ⊢
  generalize u.firstArrival i d = t at rx delivered merged paths ⊢
  obtain ⟨busy, idle, full, on, off⟩ := delivered
  rw [lane'] at busy idle full on
  have records' : (v.rxStream i).records = (s.rxStream i).records := by rw [before]; exact records
  have overflow' : (v.rxStream i).overflow = (s.rxStream i).overflow := by rw [before]; exact overflow
  rw [records'] at on off
  rw [overflow'] at full
  rw [time'] at on
  subst stream
  refine ⟨?_, ?_, ?_, ?_, busy, idle, full, fun logs => ?_, fun silent => (off silent).trans log', fun j other => ?_⟩
  · rw [rx, accepted]
  · rw [rx]
    exact duplicates
  · rw [rx]
    exact late
  · have entry : t.entry d.path = (u.countArrival d.copy.stream d).entry d.path :=
      congrArg (fun l : Vector PathEntry 5 => l[d.path.idx]) paths
    rw [entry, countArrival_entry, if_pos rfl]
    rw [← stats d.path]
    rfl
  · refine (on logs).trans ?_
    rw [eligible]
    rfl
  · rw [merged.2.1 j other, rest j other, others j other]

end State
end Sys2Proof.Machine

/-! O47: the window of an IMMEDIATE stream follows its first arrivals. -/

namespace Sys2Proof.Machine
/-- The newest slot replaced after the window was moved to it (R119). -/
theorem RxStream.moveWindow_set {x : RxStream} {q : Seq} (slot : Slot) (tracking : x.Tracking) (beyond : x.window ≤ x.distance q) :
    (x.moveWindow q (x.retired q)).slots.set ((x.moveWindow q (x.retired q)).distance q) slot
      = x.slots.drop (x.retired q) ++ List.replicate (x.window - 1 - (x.slots.length - x.retired q)) .empty ++ [slot] := by
  have window := x.sixteen_le_window
  have fits := tracking.fits
  have size : x.retired q = x.distance q + 1 - x.window := rfl
  have place : (x.moveWindow q (x.retired q)).distance q = x.window - 1 := by
    rw [RxStream.distance_moveWindow (by omega)]
    omega
  have count : x.window - (x.slots.length - x.retired q) = x.window - 1 - (x.slots.length - x.retired q) + 1 := by omega
  have before : (x.slots.drop (x.retired q) ++ List.replicate (x.window - 1 - (x.slots.length - x.retired q)) Slot.empty).length
      = x.window - 1 := by
    rw [List.length_append, List.length_drop, List.length_replicate]
    omega
  rw [place]
  show (x.slots.drop (x.retired q) ++ List.replicate (x.window - (x.slots.length - x.retired q)) Slot.empty).set (x.window - 1) slot = _
  rw [count, List.replicate_succ', ← List.append_assoc, List.set_append_right _ _ (le_of_eq before), before, Nat.sub_self]
  rfl

namespace State
variable {i : StreamId} {s t u : State} {d : DataArrival}

theorem prepared_modRx {g : RxStream → RxStream} (records : (g (s.rxStream i)).records = (s.rxStream i).records)
    (accepted : (g (s.rxStream i)).accepted = (s.rxStream i).accepted) (duplicates : (g (s.rxStream i)).duplicates = (s.rxStream i).duplicates)
    (late : (g (s.rxStream i)).late = (s.rxStream i).late) (overflow : (g (s.rxStream i)).overflow = (s.rxStream i).overflow)
    (immediate : (g (s.rxStream i)).ordered = false) : Prepared i s (s.modRx i g) := by
  have rx := State.modRx_rxStream_self s i g
  exact ⟨.of_paths rfl rfl rfl, by rw [rx, records], by rw [rx, accepted], by rw [rx, duplicates], by rw [rx, late],
    by rw [rx, overflow], by rw [rx, immediate], fun j other => State.modRx_rxStream_ne s i g other⟩

theorem Prepared.trans (h : Prepared i s t) (h' : Prepared i t u) : Prepared i s u where
  unmoved := h.unmoved.trans h'.unmoved
  records := h'.records.trans h.records
  accepted := h'.accepted.trans h.accepted
  duplicates := h'.duplicates.trans h.duplicates
  late := h'.late.trans h.late
  overflow := h'.overflow.trans h.overflow
  immediate := h'.immediate
  others j other := (h'.others j other).trans (h.others j other)

/-- A retirement counts gaps and nothing else of the stream. -/
theorem retire_rx_gaps (i : StreamId) (untracked : Nat) (l : List Slot) (q : Seq) (run : Nat) (s : State) :
    let y := (State.retire i untracked l q run s).rxStream i
    y = { s.rxStream i with gaps := y.gaps } := by
  have gap (first : Seq) (count : Nat) (s : State) : let y := (s.gapRun i first count .advance).rxStream i
      y = { s.rxStream i with gaps := y.gaps } := by
    rcases Nat.eq_zero_or_pos count with none | some
    · subst none
      rfl
    · dsimp only
      rw [gapRun_counted s i first .advance some, State.modRx_rxStream_self, State.logWrite_rxStream]
  have next {x y z : RxStream} (hy : y = { x with gaps := y.gaps }) (hz : z = { y with gaps := z.gaps }) : z = { x with gaps := z.gaps } := by
    rw [hz, hy]
  induction l generalizing q run s with
  | nil => exact gap _ _ s
  | cons y l ih =>
    cases y with
    | empty => exact ih _ _ s
    | skipped => exact next (gap _ _ s) (ih _ _ _)
    | done info | held info f =>
      have reported := State.retireReport_rxStream (s.gapRun i (q - BitVec.ofNat 32 run) run .advance) info.mask info.seen i
      have later := ih (q + 1) 0 ((s.gapRun i (q - BitVec.ofNat 32 run) run .advance).retireReport info.mask info.seen)
      dsimp only at later
      rw [reported] at later
      exact next (gap _ _ s) later

theorem prepared_advance (immediate : (s.rxStream i).ordered = false) (q : Seq) : Prepared i s (s.advanceWindow i q) := by
  have whole : s.advanceWindow i q = (State.retire i ((s.rxStream i).retired q - (s.rxStream i).slots.length)
      ((s.rxStream i).slots.take ((s.rxStream i).retired q)) (s.rxStream i).base 0 s).modRx i
        (RxStream.moveWindow q ((s.rxStream i).retired q)) := by
    rw [advanceWindow_immediate immediate]
    unfold retiredState
    dsimp only
    rw [immediate]
    rfl
  have rx := retire_rx_gaps i ((s.rxStream i).retired q - (s.rxStream i).slots.length)
    ((s.rxStream i).slots.take ((s.rxStream i).retired q)) (s.rxStream i).base 0 s
  have unmoved := retire_unmoved i ((s.rxStream i).retired q - (s.rxStream i).slots.length)
    ((s.rxStream i).slots.take ((s.rxStream i).retired q)) (s.rxStream i).base 0 s
  have others := (State.retire_dataOnly i ((s.rxStream i).retired q - (s.rxStream i).slots.length)
    ((s.rxStream i).slots.take ((s.rxStream i).retired q)) (s.rxStream i).base 0 s).2.1
  rw [whole]
  dsimp only at rx
  generalize State.retire i ((s.rxStream i).retired q - (s.rxStream i).slots.length)
    ((s.rxStream i).slots.take ((s.rxStream i).retired q)) (s.rxStream i).base 0 s = v at rx unmoved others ⊢
  have first : Prepared i s v := ⟨unmoved, by rw [rx], by rw [rx], by rw [rx], by rw [rx], by rw [rx], by rw [rx]; exact immediate, others⟩
  exact first.trans (prepared_modRx rfl rfl rfl rfl rfl first.immediate)

theorem resync_immediate_rx (immediate : (s.rxStream i).ordered = false) (cause : ResyncCause) (new : Option Seq) :
    (s.resync i cause new).rxStream i
      = { (s.rxStream i).forgotten with resyncs := min 4294967295 ((s.rxStream i).resyncs + 1) } := by
  rw [resync_eq, State.modRx_rxStream_self, State.logWrite_rxStream, unsynced, flushed_immediate immediate, State.modRx_rxStream_self]
  rfl

theorem prepared_resync (immediate : (s.rxStream i).ordered = false) (cause : ResyncCause) (new : Option Seq) :
    Prepared i s (s.resync i cause new) := by
  obtain ⟨frame, others, -⟩ := s.resync_mergeOnly i cause new
  have rx := resync_immediate_rx immediate cause new
  exact ⟨.of_paths (by rw [frame]) (s.resync_immediate i cause new immediate).1 (by rw [frame]), by rw [rx]; rfl, by rw [rx]; rfl,
    by rw [rx]; rfl, by rw [rx]; rfl, by rw [rx]; rfl, by rw [rx]; exact immediate, others⟩

/-- A frame that synchronizes an IMMEDIATE stream (R109). -/
theorem synchronize_immediate_rx (immediate : (s.rxStream i).ordered = false) : let y := (s.synchronize i d).rxStream i
    y.synced = true ∧ y.base = d.copy.seq ∧ y.front = d.copy.seq + 1 ∧ y.slots = [.done d.info]
      ∧ y.resyncs = (s.rxStream i).resyncs ∧ y.gaps = (s.rxStream i).gaps := by
  have rx := State.modRx_rxStream_self s i (RxStream.synchronize d.copy.seq)
  have zero : ((s.rxStream i).synchronize d.copy.seq).distance d.copy.seq = 0 := by simp [RxStream.synchronize, RxStream.distance]
  unfold State.synchronize
  generalize s.modRx i (RxStream.synchronize d.copy.seq) = u at rx ⊢
  have moved := firstArrival_immediate_rx (i := i) (u := u) (d := d) (by rw [rx]; exact immediate)
  dsimp only at moved ⊢
  generalize (u.firstArrival i d).rxStream i = y at moved
  rw [rx, zero] at moved
  rw [moved]
  exact ⟨rfl, rfl, rfl, rfl, rfl, rfl⟩

end State

/-- Settles O47: the state in which the arrival is taken is prepared in five ways, and the delivery is the same in each. -/
theorem firstArrivalsMoveWindow : Obligations.FirstArrivalsMoveWindow := by
  intro s d i x n w reach t y done frame enabled immediate windowed
  have sync (off : x.synced = false) : t = s.synchronize i d := State.takeData_unsynced enabled off
  have empty (synced : x.synced = true) (slot : x.slots[n]? = some .empty) : t = s.firstArrival i d :=
    State.takeData_empty enabled synced windowed slot
  have fills (synced : x.synced = true) (beyond : x.slots.length ≤ n) (within : n < w) :
      t = (s.modRx i (RxStream.fillTo d.copy.seq)).firstArrival i d := State.takeData_fills enabled synced windowed beyond within
  have advances (synced : x.synced = true) (beyond : w ≤ n) (near : n < reach) : t = (s.advanceWindow i d.copy.seq).firstArrival i d := by
    refine (State.takeData_advances enabled synced windowed beyond near).trans ?_
    rw [State.advance_eq]
    exact if_neg (by rw [immediate]; exact Bool.false_ne_true)
  have jumps (synced : x.synced = true) (beyond : reach ≤ n) (ahead : n < 2147483648) :
      t = (s.resync i .jump (some d.copy.seq)).synchronize i d := State.takeData_jumps enabled synced windowed beyond ahead
  have reachable : reach ≤ 1048576 := RxStream.resyncDistance_le windowed.2.1
  have taken (u : State) (runs : t = u.firstArrival i d) (prepared : State.Prepared i s u) := prepared.arrives (d := d) rfl
  refine ⟨fun off => ?_, fun synced slot => ?_, fun synced beyond within => ?_, fun synced bounded beyond near => ?_,
    fun synced beyond ahead => ?_, fun cases => ?_⟩
  · have moved := State.synchronize_immediate_rx (d := d) immediate
    rw [← sync off] at moved
    exact moved
  · have moved := State.firstArrival_immediate_rx (d := d) immediate
    rw [← empty synced slot] at moved
    have field {α : Type} (f : RxStream → α) := congrArg f moved
    exact ⟨field RxStream.base, field RxStream.front, field RxStream.slots, field RxStream.gaps⟩
  · have rx := State.modRx_rxStream_self s i (RxStream.fillTo d.copy.seq)
    have moved := State.firstArrival_immediate_rx (u := s.modRx i (RxStream.fillTo d.copy.seq)) (d := d) (by rw [rx]; exact immediate)
    rw [← fills synced beyond within, rx] at moved
    have field {α : Type} (f : RxStream → α) := congrArg f moved
    refine ⟨field RxStream.base, field RxStream.front, (field RxStream.slots).trans ?_, field RxStream.gaps⟩
    exact State.fillTo_set (x := x) (.done d.info) beyond
  · obtain ⟨rx, -⟩ := State.advanceWindow_immediate_rx (q := d.copy.seq) immediate bounded
    have moved := State.firstArrival_immediate_rx (u := s.advanceWindow i d.copy.seq) (d := d) (by rw [rx]; exact immediate)
    rw [← advances synced beyond near, rx] at moved
    have field {α : Type} (f : RxStream → α) := congrArg f moved
    exact ⟨(field RxStream.base).trans (RxStream.base_retired (x := x) beyond), field RxStream.front,
      (field RxStream.slots).trans (RxStream.moveWindow_set (x := x) (.done d.info) (windowed.tracking synced) beyond),
      field RxStream.gaps, field RxStream.resyncs⟩
  · have rx := State.resync_immediate_rx (s := s) (i := i) immediate .jump (some d.copy.seq)
    obtain ⟨on, base, front, slots, resyncs, -⟩ := State.synchronize_immediate_rx (s := s.resync i .jump (some d.copy.seq)) (i := i) (d := d)
      (by rw [rx]; exact immediate)
    rw [← jumps synced beyond ahead] at on base front slots resyncs
    refine ⟨on, base, front, slots, resyncs.trans ?_⟩
    rw [rx]
  · have filled {g : RxStream → RxStream} (runs : t = (s.modRx i g).firstArrival i d) (prepared : State.Prepared i s (s.modRx i g)) :
        ∃ u, t = u.firstArrival i d ∧ State.Prepared i s u ∧ (x.synced = false ∨ n < w → u.log = s.log) :=
      ⟨_, runs, prepared, fun _ => rfl⟩
    have whole : ∃ u, t = u.firstArrival i d ∧ State.Prepared i s u ∧ (x.synced = false ∨ n < w → u.log = s.log) := by
      cases synced : x.synced with
      | false => exact synced ▸ filled (sync synced) (State.prepared_modRx rfl rfl rfl rfl rfl immediate)
      | true =>
        rcases cases with off | slot | ⟨beyond, ahead⟩
        · exact absurd (synced.symm.trans off) (by decide)
        · exact ⟨s, empty synced slot, ⟨.refl s, rfl, rfl, rfl, rfl, rfl, immediate, fun _ _ => rfl⟩, fun _ => rfl⟩
        · rcases Nat.lt_or_ge n w with within | outside
          · exact synced ▸ filled (fills synced beyond within) (State.prepared_modRx rfl rfl rfl rfl rfl immediate)
          · have far : ¬(true = false ∨ n < w) := fun near => near.elim (by decide) (Nat.not_lt.mpr outside)
            rcases Nat.lt_or_ge n reach with near | jumped
            · exact ⟨_, advances synced outside near, State.prepared_advance immediate _, fun near => absurd near far⟩
            · have resynced := State.prepared_resync (s := s) (i := i) immediate .jump (some d.copy.seq)
              exact ⟨_, jumps synced jumped ahead, resynced.trans (State.prepared_modRx rfl rfl rfl rfl rfl resynced.immediate),
                fun near => absurd near far⟩
    obtain ⟨u, runs, prepared, log⟩ := whole
    obtain ⟨accepted, duplicates, late, stats, busy, idle, full, on, off, others⟩ := taken u runs prepared
    rw [← runs] at accepted duplicates late stats busy idle full on off others
    exact ⟨accepted, duplicates, late, stats, busy, idle, full, on, fun silent near => (off silent).trans (log near), others⟩

end Sys2Proof.Machine
